-- ==== Sys2Proof/Word.lean ====
section
/-! DEFINITION. The words of the machine: bytes, samples, the numbers of channels, stations and keys, and the two
fixed-size families (one value per channel, one value per station).

Bits are kept only where the manual treats a thing as bits: a byte of a message (R176), a 16-bit sample (R6), the
notice mask (R196), the channel set and the class set (R196).  Frame numbers, counts, levels and times are natural
numbers. -/

namespace Sys2Proof

/-- One byte of a message, a packet or the audio store. -/
abbrev Byte := BitVec 8

/-- One 16-bit two's-complement sample (00_scope, Audio and frames). -/
abbrev Sample := BitVec 16

/-- A capture channel, 0 to 3 (00_scope, Identifiers). -/
abbrev ChannelId := Fin 4

/-- A typist station, 0 to 7 (00_scope, Identifiers). -/
abbrev StationId := Fin 8

/-- A key of a marker keypad; key `Kn` of the manual is number `n - 1` (chapter 04, The marker keypads). -/
abbrev KeyId := Fin 4

/-- One value for each of the four channels (also used for the four keys of a keypad). -/
structure PerChannel (α : Type) where
  c0 : α
  c1 : α
  c2 : α
  c3 : α
deriving DecidableEq, Repr

namespace PerChannel

variable {α : Type}

/-- The value of channel `c`. -/
def get (p : PerChannel α) : ChannelId → α
  | 0 => p.c0
  | 1 => p.c1
  | 2 => p.c2
  | 3 => p.c3

/-- The family with the value of channel `c` replaced. -/
def set (p : PerChannel α) (c : ChannelId) (a : α) : PerChannel α :=
  match c with
  | 0 => { p with c0 := a }
  | 1 => { p with c1 := a }
  | 2 => { p with c2 := a }
  | 3 => { p with c3 := a }

/-- The same value for every channel. -/
def all (a : α) : PerChannel α := ⟨a, a, a, a⟩

@[simp] theorem get_all (a : α) (c : ChannelId) : (all a).get c = a := by
  match c with
  | 0 | 1 | 2 | 3 => rfl

@[simp] theorem get_set_self (p : PerChannel α) (c : ChannelId) (a : α) : (p.set c a).get c = a := by
  match c with
  | 0 | 1 | 2 | 3 => rfl

theorem get_set_ne (p : PerChannel α) {c d : ChannelId} (a : α) (h : d ≠ c) :
    (p.set c a).get d = p.get d := by
  fin_cases c <;> fin_cases d <;> first | rfl | exact absurd rfl h

theorem get_set (p : PerChannel α) (c d : ChannelId) (a : α) :
    (p.set c a).get d = if d = c then a else p.get d := by
  split
  · next h => subst h; exact get_set_self p d a
  · next h => exact get_set_ne p a h

@[simp] theorem set_get (p : PerChannel α) (c : ChannelId) : p.set c (p.get c) = p := by
  match c with
  | 0 | 1 | 2 | 3 => rfl

end PerChannel

/-- One value for each of the eight stations. -/
structure PerStation (α : Type) where
  s0 : α
  s1 : α
  s2 : α
  s3 : α
  s4 : α
  s5 : α
  s6 : α
  s7 : α
deriving DecidableEq, Repr

namespace PerStation

variable {α : Type}

/-- The value of station `n`. -/
def get (p : PerStation α) : StationId → α
  | 0 => p.s0
  | 1 => p.s1
  | 2 => p.s2
  | 3 => p.s3
  | 4 => p.s4
  | 5 => p.s5
  | 6 => p.s6
  | 7 => p.s7

/-- The family with the value of station `n` replaced. -/
def set (p : PerStation α) (n : StationId) (a : α) : PerStation α :=
  match n with
  | 0 => { p with s0 := a }
  | 1 => { p with s1 := a }
  | 2 => { p with s2 := a }
  | 3 => { p with s3 := a }
  | 4 => { p with s4 := a }
  | 5 => { p with s5 := a }
  | 6 => { p with s6 := a }
  | 7 => { p with s7 := a }

/-- The same value for every station. -/
def all (a : α) : PerStation α := ⟨a, a, a, a, a, a, a, a⟩

@[simp] theorem get_all (a : α) (n : StationId) : (all a).get n = a := by
  fin_cases n <;> rfl

@[simp] theorem get_set_self (p : PerStation α) (n : StationId) (a : α) : (p.set n a).get n = a := by
  fin_cases n <;> rfl

theorem get_set_ne (p : PerStation α) {m n : StationId} (a : α) (h : n ≠ m) :
    (p.set m a).get n = p.get n := by
  fin_cases m <;> fin_cases n <;> first | rfl | exact absurd rfl h

theorem get_set (p : PerStation α) (m n : StationId) (a : α) :
    (p.set m a).get n = if n = m then a else p.get n := by
  split
  · next h => subst h; exact get_set_self p n a
  · next h => exact get_set_ne p a h

@[simp] theorem set_get (p : PerStation α) (n : StationId) : p.set n (p.get n) = p := by
  fin_cases n <;> rfl

end PerStation

/-- The four channels in increasing order. -/
def allChannels : List ChannelId := [0, 1, 2, 3]

/-- The eight stations in increasing order. -/
def allStations : List StationId := [0, 1, 2, 3, 4, 5, 6, 7]

end Sys2Proof
end

