-- ==== Sys2Proof/Config.lean ====
section
/-! DEFINITION. What is fixed for the part: the limits and capacities the manual states, and the values it leaves
open, which are opaque constants nothing can evaluate. -/

namespace Sys2Proof.Config

/-- The last frame number of a session: 24 hours of 16 ms frames (00_scope; R5). -/
def frameLimit : Nat := 5399999

/-- Samples of a frame (00_scope). -/
def frameSamples : Nat := 256

/-- Bytes a frame takes in the audio store (00_scope; R31). -/
def frameBytes : Nat := 512

/-- Frame slots of a block (R31). -/
def blockSlots : Nat := 64

/-- Bytes of a block (R31). -/
def blockBytes : Nat := 32768

/-- Session entries (chapter 02). -/
def sessionEntries : Nat := 16

/-- Take records (R46). -/
def takeRecords : Nat := 128

/-- Mark records (chapter 04), and the number of them open to sources other than the part itself (R77). -/
def markRecords : Nat := 2048
def markLimit : Nat := 1984

/-- Range records (R90) and open ranges a session may hold (R90). -/
def rangeRecords : Nat := 64
def openRangeLimit : Nat := 4

/-- The pre-roll ring holds this many frames (R14). -/
def ringFrames : Nat := 8

/-- Ordinary entries the capture FIFO may hold (R16). -/
def fifoOrdinary : Nat := 4

/-- Entries of a playout FIFO (R140) and of a read-back FIFO (R157). -/
def playFifo : Nat := 4

/-- Frames of the export FIFO (R168). -/
def exportFifo : Nat := 2

/-- Pending read-back entries of a channel (R153). -/
def readbackPending : Nat := 8

/-- Requests the receive buffer holds and BUSY replies the reply queue may hold (R178). -/
def receiveBuffer : Nat := 4
def busyReplies : Nat := 8

/-- Entries of kinds other than DEVICE the pending notice set may hold (R182). -/
def noticeEntries : Nat := 255

/-- The core length from which a forced cut may be made (R55). -/
def forcedCore : Nat := 32

/-- The largest sample position an export may start at: the last sample of frame 5,399,999 (R188). -/
def lastPosition : Nat := 1382399999

/-- The largest count of samples of one export (R188, R198). -/
def exportCount : Nat := 16777215

/-- Vendor and part codes (R185). -/
def vendorCode : Nat := 0x47A1
def partCode : Nat := 0x4820

/-- FREE VALUE.  The silicon revision number that IDENTIFY and STARTED carry (R185, R184): the manual names the field
and gives no number.  notes/assumptions/10.md. -/
opaque revision : Byte

/-- FREE VALUE.  The KIND of a reply to a request whose own KIND is 0x80 or above, where "KIND plus 0x80" (R178, R179)
does not fit the one byte of the field: the manual does not say which byte is sent.  notes/assumptions/11.md. -/
opaque replyKindBeyond : Nat → Byte

end Sys2Proof.Config
end

