-- ==== Sys2Proof/Syntax.lean ====
section
/-! DEFINITION. The commands of the block: one constructor of `Instr` for each row of spec/opcode_table.json.

A row that is a request carries the TAG of its message (R176) and the fields of its body (R197) as the host sent them:
codes and numbers before any clamp of R198.  A row that is an event carries what the event brings from outside. -/

namespace Sys2Proof

/-- The five lengths of a cut plan, in frames (R49): nominal length N, grace G, pause P, soft overlap O_s and hard
overlap O_h. -/
structure Plan where
  nominal : Nat
  grace : Nat
  pause : Nat
  softOverlap : Nat
  hardOverlap : Nat
deriving DecidableEq, Repr

/-- The plan fields a request gives; `none` is an omitted field (R24, R50). -/
structure PlanPatch where
  nominal : Option Nat
  grace : Option Nat
  pause : Option Nat
  softOverlap : Option Nat
  hardOverlap : Option Nat
deriving DecidableEq, Repr

/-- OPEN_SESSION (R24, R197). -/
structure OpenSessionReq where
  channel : Nat
  label : Option (List Byte)
  startMode : Option Nat
  dispatchMode : Option Nat
  takeClass : Option Nat
  stationChoice : Option Nat
  plan : PlanPatch
deriving DecidableEq, Repr

/-- CONFIGURE_CHANNEL (R19, R197).  A yes/no byte other than 0 or 1 is yes (R198), so yes/no fields are Booleans. -/
structure ConfigureChannelReq where
  channel : Nat
  ratio : Nat
  minimum : Nat
  onsetRun : Nat
  hangRun : Nat
  startMode : Nat
  outputMode : Nat
  polarity : PerChannel Nat
  enable : PerChannel Bool
  speakers : Nat
  offPlay : Nat
  offReadback : Bool
  offExport : Bool
  levelPeriod : Nat
  plan : Plan
deriving DecidableEq, Repr

/-- LIST_TAKES (R72, R197). -/
structure ListTakesReq where
  session : Nat
  scope : Nat
  first : Nat
  dispatchFilter : Nat
  captureFilter : Nat
deriving DecidableEq, Repr

/-- ADD_MARK (R78, R197). -/
structure AddMarkReq where
  session : Nat
  frame : Nat
  kind : Nat
  tag : Option (List Byte)
  speaker : Option Nat
deriving DecidableEq, Repr

/-- LIST_MARKS (R82, R197). -/
structure ListMarksReq where
  session : Nat
  frame : Nat
  mark : Nat
  kindFilter : Nat
  sourceFilter : Nat
deriving DecidableEq, Repr

/-- OPEN_RANGE (R95, R197). -/
structure OpenRangeReq where
  session : Nat
  start : Nat
  stop : Option Nat
  play : Nat
  readback : Bool
  exportable : Bool
  label : Option (List Byte)
deriving DecidableEq, Repr

/-- What SET_RANGE does with the label (R98, R198). -/
inductive LabelChange where
  | keep
  | replace (text : List Byte)
  | remove
deriving DecidableEq, Repr

/-- SET_RANGE (R98, R197). -/
structure SetRangeReq where
  session : Nat
  range : Nat
  play : Option Nat
  readback : Option Bool
  exportable : Option Bool
  label : LabelChange
deriving DecidableEq, Repr

/-- LIST_RANGES (R103, R197). -/
structure ListRangesReq where
  session : Nat
  frame : Nat
  range : Nat
  stateFilter : Nat
  test : Option Nat
deriving DecidableEq, Repr

/-- CONFIGURE_STATION (R148, R197). -/
structure ConfigureStationReq where
  station : Nat
  enable : Bool
  channelSet : Nat
  classSet : Nat
  depth : Nat
  cleared : Bool
  startAtCore : Bool
  backspace : Nat
  scanPlay : Nat
  scanStride : Nat
  grace : Nat
  text : List Byte
deriving DecidableEq, Repr

/-- QUEUE_READBACK without its CHAIN field, which chooses between the two rows of the table (R153, R154, R197). -/
structure QueueReadbackReq where
  channel : Nat
  session : Nat
  startForm : Nat
  startValue : Nat
  endForm : Nat
  endValue : Nat
deriving DecidableEq, Repr

/-- The bytes a station port has received on its line since it last began to look for a start byte (R126). -/
structure LineBytes where
  station : StationId
  received : List Byte
deriving DecidableEq, Repr

/-- The commands: one constructor per row of spec/opcode_table.json, in the table's order. -/
inductive Instr where
  /-- PIN_RESET: RESET_N releases with the straps MSZ1, MSZ0, LRT1, LRT0 at these levels. -/
  | pinReset (msz1 msz0 lrt1 lrt0 : Bool)
  | startupComplete
  /-- MESSAGE_RECEIVED: the bytes of a whole message after its start byte: LEN, KIND, TAG, body, CHECK. -/
  | messageReceived (bytes : List Byte)
  /-- MESSAGE_BAD_LENGTH: the value of the two LEN bytes. -/
  | messageBadLength (len : Nat)
  | messageTimeout
  /-- REQUEST_UNKNOWN_KIND: TAG, the KIND received and the body. -/
  | requestUnknownKind (tag : Byte) (kind : Nat) (body : List Byte)
  | replySent
  | noticeSent
  | dataSent
  | fetchEndSent
  | identify (tag : Byte)
  /-- RESET_LINK: RESET with scope LINK (0), or with a scope code that names neither scope. -/
  | resetLink (tag : Byte) (scope : Nat)
  | resetFull (tag : Byte)
  | setNoticeMask (tag : Byte) (mask : Nat)
  | openSession (tag : Byte) (r : OpenSessionReq)
  | closeSession (tag : Byte) (session : Nat)
  | sessionInfo (tag : Byte) (session : Nat)
  | storeInfo (tag : Byte)
  | configureStore (tag : Byte) (lowMark : Nat)
  | configureChannel (tag : Byte) (r : ConfigureChannelReq)
  | channelInfo (tag : Byte) (channel : Nat)
  | setPlan (tag : Byte) (session : Nat) (patch : PlanPatch)
  | cutNow (tag : Byte) (session : Nat)
  | releaseTake (tag : Byte) (session take : Nat)
  | takeInfo (tag : Byte) (session take : Nat)
  | listTakes (tag : Byte) (r : ListTakesReq)
  | queueTake (tag : Byte) (session take : Nat)
  | setClass (tag : Byte) (session take code : Nat)
  | recallTake (tag : Byte) (session take : Nat)
  | assignTake (tag : Byte) (session take station : Nat)
  | clearHold (tag : Byte) (session take : Nat)
  | dispatchInfo (tag : Byte) (position : Nat)
  | addMark (tag : Byte) (r : AddMarkReq)
  | deleteMark (tag : Byte) (session mark : Nat)
  | listMarks (tag : Byte) (r : ListMarksReq)
  | openRange (tag : Byte) (r : OpenRangeReq)
  /-- CLOSE_RANGE: an end frame, or `none` for NOW. -/
  | closeRange (tag : Byte) (session range : Nat) (stop : Option Nat)
  | setRange (tag : Byte) (r : SetRangeReq)
  | deleteRange (tag : Byte) (session range : Nat)
  | listRanges (tag : Byte) (r : ListRangesReq)
  | configureStation (tag : Byte) (r : ConfigureStationReq)
  | stationInfo (tag : Byte) (station : Nat)
  | queueReadbackChain (tag : Byte) (r : QueueReadbackReq)
  | queueReadbackPreempt (tag : Byte) (r : QueueReadbackReq)
  | cancelReadbackCurrent (tag : Byte) (channel : Nat)
  /-- CANCEL_READBACK_ALL: CANCEL_READBACK with scope ALL (1) or a code above it. -/
  | cancelReadbackAll (tag : Byte) (channel scope : Nat)
  | configureReadback (tag : Byte) (channel threshold : Nat)
  | readbackInfo (tag : Byte) (channel : Nat)
  /-- FETCH_AUDIO with a start position. -/
  | fetchAudio (tag : Byte) (session start count : Nat)
  /-- FETCH_AUDIO with CONTINUE (form 1) or a form code above it. -/
  | fetchAudioContinue (tag : Byte) (form count : Nat)
  | stopFetch (tag : Byte)
  /-- FRAME_COMPLETED: the samples received on the channel since its last capture event, the last of them being the
  one at index 255. -/
  | frameCompleted (channel : ChannelId) (samples : List Sample)
  | inputLossTimerExpiry (channel : ChannelId)
  | lostFrameTick (channel : ChannelId)
  | inputReturned (channel : ChannelId) (sample : Sample)
  | channelOutputFrameTime (channel : ChannelId)
  | keypadPressAccepted (channel : ChannelId) (key : KeyId)
  | keypadReleaseAccepted (channel : ChannelId) (key : KeyId)
  | captureTransferEnd
  /-- STATION_PACKET_INVALID: the bytes the port has received since it last began to look for a start byte, and whether a
  byte with its stop bit at low level has followed them. -/
  | stationPacketInvalid (line : LineBytes) (lowStop : Bool)
  /-- STATION_PACKET_TIMEOUT: 1 ms has passed since the start byte of the packet these received bytes begin. -/
  | stationPacketTimeout (line : LineBytes)
  /-- STATION_LINE_BREAK: 1 ms of break after these received bytes. -/
  | stationLineBreak (line : LineBytes)
  | alive (station : StationId) (model : Byte)
  | playPedal (station : StationId) (press : Bool)
  | fwdPedal (station : StationId) (press : Bool)
  | backPedal (station : StationId) (press : Bool)
  | doneKey (station : StationId) (press : Bool)
  | returnKey (station : StationId) (press : Bool)
  | readyKey (station : StationId) (press : Bool)
  | noteKey (station : StationId) (press : Bool)
  | keyUnknown (station : StationId) (code action : Byte)
  | stationLinkLost (station : StationId)
  | reclaimTimerExpiry (station : StationId)
  | stationFrameTime (station : StationId)
  | stateRefreshTimer (station : StationId)
  | statePacketSent (station : StationId)
  | audioPacketSent (station : StationId)
  | stationReaderTransferEnd
  | readbackReaderTransferEnd
  | exportReaderTransferEnd
  | refreshDueTime
  | refreshBurstEnd
  /-- KEY_SAMPLE: one sample of one key's pin, `true` for a high level. -/
  | keySample (channel : ChannelId) (key : KeyId) (high : Bool)
  | startByte
  | invalidByte
deriving DecidableEq, Repr

end Sys2Proof
end

