-- ==== Sys2Proof/Machine/State.lean ====
section
/-! DEFINITION. The state of the part as plain data: the eleven blocks of 00_scope, each with every piece of state its
chapter lists, the queue of waiting commands, the reasons a step can stop, and the state after reset. -/

namespace Sys2Proof.Machine

/-! ### Why a step can stop -/

/-- Faults.  Both concern the external SDRAM and neither arises in a state that a run from reset reaches. -/
inductive Fault where
  /-- Raised by CAPTURE_TRANSFER_END and by the three READER_TRANSFER_END commands when the block or slot of the transfer
  lies outside the store the size straps give (R31).  Safe: the model stops. -/
  | outsideStore
  /-- Raised by the three READER_TRANSFER_END commands when the slot read holds a byte nothing has written; the manual
  gives the store no contents after power-on (R45).  Safe: the model stops. -/
  | unwrittenStore
deriving DecidableEq, Repr

/-- Refusals. -/
inductive Refusal where
  /-- Raised by `exec` for a command that has no meaning yet.  Safe: the model stops.  No arm uses it now. -/
  | notModelled (mnemonic : String)
deriving DecidableEq, Repr

/-! ### Enumerations, each with its values in the order that gives their codes (R196) -/

/-- Channel state (R1). -/
inductive ChannelPhase where
  | off | armed | recording | closing
deriving DecidableEq, Repr

/-- Session state (R25). -/
inductive SessionPhase where
  | armed | recording | closing | closed
deriving DecidableEq, Repr

/-- Start mode (R2, R19). -/
inductive StartMode where
  | immediate | onVoice
deriving DecidableEq, Repr

/-- Output mode (R17, R19). -/
inductive OutputMode where
  | echo | quiet
deriving DecidableEq, Repr

/-- What a channel output carries at the present output frame time (R21). -/
inductive OutputSource where
  | readback | echo | quiet
deriving DecidableEq, Repr

/-- Input condition (chapter 01). -/
inductive InputCondition where
  | live | lost
deriving DecidableEq, Repr

/-- Detector state (R12). -/
inductive DetectorPhase where
  | quiet | speech
deriving DecidableEq, Repr

/-- Why a frame was lost (00_scope, Frame availability). -/
inductive LostCause where
  | input | storeFull | storeBusy
deriving DecidableEq, Repr

/-- Key polarity (R84). -/
inductive Polarity where
  | activeLow | activeHigh
deriving DecidableEq, Repr

/-- Dispatch mode of a session (chapter 02). -/
inductive DispatchMode where
  | off | onClose | live
deriving DecidableEq, Repr

/-- Urgency class of a take (chapter 03). -/
inductive TakeClass where
  | expedite | daily | regular
deriving DecidableEq, Repr

/-- Station choice of a session (chapter 02). -/
inductive StationChoice where
  | rotate | follow
deriving DecidableEq, Repr

/-- Close reason of a session (chapter 02). -/
inductive CloseReason where
  | request | limit
deriving DecidableEq, Repr

/-- Capture status of a take (chapter 03). -/
inductive CaptureStatus where
  | opened | closed
deriving DecidableEq, Repr

/-- How a take ended (chapter 03). -/
inductive CutKind where
  | soft | hard | forced | final | limit
deriving DecidableEq, Repr

/-- Dispatch state of a take (R65). -/
inductive DispatchState where
  | unqueued | queued | assigned | inWork | typed | held
deriving DecidableEq, Repr

/-- Kind of a mark (R75). -/
inductive MarkKind where
  | general | speaker | exhibit | objection | bench | note | readbackStart | readbackEnd | gap
deriving DecidableEq, Repr

/-- Source of a mark (chapter 04). -/
inductive MarkSource where
  | host
  | keypad
  | station (n : StationId)
  | device
deriving DecidableEq, Repr

/-- PLAY permission of a range (R92). -/
inductive PlayPermission where
  | all | cleared | none
deriving DecidableEq, Repr

/-- Source of a range (chapter 05). -/
inductive RangeSource where
  | host | keypad
deriving DecidableEq, Repr

/-- The store condition (R36). -/
inductive StoreCondition where
  | normal | low | exhausted
deriving DecidableEq, Repr

/-- The category of a frame (00_scope, Frame availability; R40). -/
inductive Category where
  | present | unstored | trimmed | lost | notYet
deriving DecidableEq, Repr

/-- Link state of a station port (R127). -/
inductive LinkState where
  | absent | present | lost
deriving DecidableEq, Repr

/-- A treadle of a station's pedal (R135). -/
inductive Pedal where
  | play | fwd | back
deriving DecidableEq, Repr

/-- Transport of a station port (chapter 07). -/
inductive Transport where
  | stopped | playing | holding | scanFwd | scanBack
deriving DecidableEq, Repr

/-- Last status of a station port, in the order of R142. -/
inductive StationStatus where
  | none | endOfTake | stillRecording | notYetPlayed | noTake | typed | returned | held | removed
  | noteAdded | noteMerged | noteDropped
deriving DecidableEq, Repr

/-- Device state (R184). -/
inductive DeviceState where
  | starting | ready
deriving DecidableEq, Repr

/-- Receive state of the control link (R176). -/
inductive ReceiveState where
  | hunting | receiving
deriving DecidableEq, Repr

/-- Cause of a discarded message (R176 to R178). -/
inductive LinkCause where
  | badLength | badCheck | timeout | overrun
deriving DecidableEq, Repr

/-- Which reset the STARTED notice reports (R184). -/
inductive ResetCause where
  | pin | full
deriving DecidableEq, Repr

/-- Reply status codes (R180, R195). -/
inductive Status where
  | ok | adjusted | deferred | busy | unknownKind | badLength | noSuch | wrongState | full | inUse | gone
  | notPermitted | starting
deriving DecidableEq, Repr

/-- Notice kinds (R182, R196). -/
inductive NoticeKind where
  | device | linkError | session | input | gap | level | take | table | store | station | readback | mark
deriving DecidableEq, Repr

/-- The tables a TABLE notice names (R182). -/
inductive TableName where
  | takes | marks | ranges
deriving DecidableEq, Repr

/-- Subject of a notice (R182, R200); `whole` is the device, the link or the store. -/
inductive Subject where
  | whole
  | channel (c : ChannelId)
  | station (n : StationId)
  | session (n : Nat)
  | take (session number : Nat)
  | table (t : TableName)
deriving DecidableEq, Repr

/-- Export state (R188 to R191). -/
inductive ExportState where
  | idle | streaming | ending
deriving DecidableEq, Repr

/-- End reason of an export (R191). -/
inductive EndReason where
  | complete | stopped | short
deriving DecidableEq, Repr

/-- Why a read-back entry was skipped (R155). -/
inductive SkipReason where
  | noSession | noMark | badSpan | gone | notRecorded
deriving DecidableEq, Repr

/-! ### Capture channels and marker keypads (chapters 01 and 04) -/

/-- The configuration of a channel, in the order of the table of R19. -/
structure ChannelConfig where
  /-- Voiced ratio K, in eighths. -/
  ratio : Nat
  /-- Absolute minimum A. -/
  minimum : Nat
  /-- Onset run N_on. -/
  onsetRun : Nat
  /-- Hang run H. -/
  hangRun : Nat
  startMode : StartMode
  outputMode : OutputMode
  polarity : PerChannel Polarity
  enable : PerChannel Bool
  /-- Speaker count S. -/
  speakers : Nat
  offPlay : PlayPermission
  offReadback : Bool
  offExport : Bool
  /-- LEVEL period M. -/
  levelPeriod : Nat
  plan : Plan
deriving DecidableEq, Repr

/-- The voice detector of a channel (R9 to R12). -/
structure Detector where
  /-- Noise floor F. -/
  floor : Nat
  phase : DetectorPhase
  voicedRun : Nat
  /-- Quiet run Q. -/
  quietRun : Nat
  lastLevel : Option Nat
deriving DecidableEq, Repr

/-- A frame held in the pre-roll ring (R14). -/
structure RingFrame where
  frame : Nat
  samples : List Sample
deriving DecidableEq, Repr

/-- An entry of the capture FIFO (R16). -/
inductive CaptureEntry where
  | ordinary (frame : Nat) (samples : List Sample)
  | preRoll (frame : Nat) (samples : List Sample)
  | lost (frame : Nat) (cause : LostCause)
deriving DecidableEq, Repr

/-- The debounced state of one key (R84). -/
structure KeyState where
  pressed : Bool
  debounce : Nat
deriving DecidableEq, Repr

/-- The keypad of a channel (chapter 04); polarity and enable stand in the channel's configuration. -/
structure Keypad where
  keys : PerChannel KeyState
  speaker : Nat
  /-- The off-record toggle: the number of the range it opened while ON. -/
  offRecord : Option Nat
deriving DecidableEq, Repr

/-- A capture channel with its keypad and its output (chapter 01). -/
structure Channel where
  phase : ChannelPhase
  session : Option Nat
  startMode : Option StartMode
  /-- The partial frame, oldest sample first. -/
  assembler : List Sample
  arrivedHead : Option Nat
  lastFrame : Option Nat
  input : InputCondition
  /-- Milliseconds since the last sample, held at 48. -/
  inputLossTimer : Nat
  /-- Milliseconds since the last frame counted lost while LOST; `none` when stopped. -/
  lostTick : Option Nat
  detector : Detector
  ring : List RingFrame
  fifo : List CaptureEntry
  levelCounter : Nat
  config : ChannelConfig
  keypad : Keypad
  /-- The most recent completed input frame not yet passed by an output frame time (R17). -/
  echo : Option (List Sample)
  /-- The source chosen at the present output frame time (R17, R21). -/
  output : OutputSource
  /-- The samples the output sends until the next output frame time; `none` is silence (R17). -/
  outputFrame : Option (List Sample)
deriving DecidableEq, Repr

/-! ### Sessions and the audio store (chapter 02) -/

/-- The growing run of lost frames of a session (R38). -/
structure GapRun where
  cause : LostCause
  first : Nat
  length : Nat
  mark : Option Nat
deriving DecidableEq, Repr

/-- A session entry in use (chapter 02), with the session's cut state (R49), its reserved take record (R46) and the
numbering states of the mark list (R74) and the range table (R90).  The chain stands in the audio store and the counts
of its open ranges, marks and takes are those of the tables. -/
structure Session where
  number : Nat
  channel : ChannelId
  phase : SessionPhase
  label : Option (List Byte)
  plan : Plan
  /-- The plan as it stood when the last frame of the session arrived: it governs the cuts made until the next (R50, R58). -/
  planInForce : Plan
  dispatchMode : DispatchMode
  takeClass : TakeClass
  stationChoice : StationChoice
  firstStored : Option Nat
  arrivedHead : Option Nat
  storedHead : Option Nat
  lastFrame : Option Nat
  trimPoint : Option Nat
  takeCount : Nat
  openTake : Option Nat
  closeReason : Option CloseReason
  lostInput : Nat
  lostFull : Nat
  lostBusy : Nat
  gapRun : Option GapRun
  forcedPending : Bool
  extensionReported : Bool
  reserved : Bool
  markIssued : Nat
  rangeIssued : Nat
deriving DecidableEq, Repr

/-- A block in a chain: its number, its first frame and its frames held (R31). -/
structure ChainBlock where
  block : Nat
  first : Nat
  held : Nat
deriving DecidableEq, Repr

/-- The chain of one session, front first (R32). -/
structure Chain where
  owner : Nat
  blocks : List ChainBlock
deriving DecidableEq, Repr

/-- The bytes of the SDRAM that have been written, in strictly rising address order. -/
abbrev AudioMemory := List Host.Cell

/-- The audio store (R31 to R37).  The block map of R31 is the view of the free list and the chains. -/
structure Store where
  /-- Total block count, from the store-size straps. -/
  blocks : Nat
  free : List Nat
  chains : List Chain
  lowMark : Nat
  condition : StoreCondition
  mem : AudioMemory
deriving DecidableEq, Repr

/-! ### Takes (chapter 03) -/

/-- The name of a take. -/
structure TakeRef where
  session : Nat
  number : Nat
deriving DecidableEq, Repr

/-- A take record in use (chapter 03). -/
structure Take where
  session : Nat
  number : Nat
  channel : ChannelId
  leadIn : Nat
  core : Nat
  stop : Option Nat
  capture : CaptureStatus
  cutKind : Option CutKind
  dispatch : DispatchState
  takeClass : TakeClass
  station : Option StationId
  lastStation : Option StationId
  excluded : Option StationId
  returns : Nat
  lostFrames : Nat
  readback : Bool
deriving DecidableEq, Repr

/-! ### Marks and ranges (chapters 04 and 05) -/

/-- The span of a read-back mark (chapter 04). -/
structure MarkSpan where
  session : Nat
  start : Nat
  stop : Nat
deriving DecidableEq, Repr

/-- A mark record (chapter 04). -/
structure Mark where
  session : Nat
  number : Nat
  frame : Nat
  kind : MarkKind
  source : MarkSource
  tag : Option (List Byte)
  speaker : Option Nat
  length : Option Nat
  cause : Option LostCause
  span : Option MarkSpan
  serial : Option Nat
deriving DecidableEq, Repr

/-- A range record (chapter 05). -/
structure Range where
  session : Nat
  number : Nat
  start : Nat
  stop : Option Nat
  play : PlayPermission
  readback : Bool
  exportable : Bool
  label : Option (List Byte)
  source : RangeSource
deriving DecidableEq, Repr

/-! ### Store readers -/

/-- What a store reader is doing with the frame at its fetch position (R140, R157, R189). -/
inductive ReaderState where
  /-- It handles its next frame as soon as its FIFO has room. -/
  | idle
  /-- It waits for the transfer of a present frame. -/
  | request (frame block slot : Nat)
  /-- It waits for a frame that is not yet stored. -/
  | waiting
  /-- It has handled every frame up to where it stops, or has nothing to do. -/
  | stopped
deriving DecidableEq, Repr

/-! ### Station ports (chapter 07) -/

/-- The configuration of a station, in the order of the table of R148. -/
structure StationConfig where
  enable : Bool
  channelSet : BitVec 4
  classSet : BitVec 3
  depth : Nat
  cleared : Bool
  startAtCore : Bool
  backspace : Nat
  scanPlay : Nat
  scanStride : Nat
  grace : Nat
  text : List Byte
deriving DecidableEq, Repr

/-- The scan cycle the reader is in (R138, R139): its start, the values of X and Y it began with, the last frame of its
window, whether it is the last backward cycle, and where the cursor will stand after the frames handled so far. -/
structure ScanCycle where
  start : Nat
  scanPlay : Nat
  scanStride : Nat
  windowEnd : Nat
  last : Bool
  cursor : Nat
deriving DecidableEq, Repr

/-- An entry of the playout FIFO (R140); `none` samples are silence.  In a scan `move` is where the cursor lands once the
last frame of a window has been sent, and `cycle` the cycle as the reader left it after this frame (R138, R139). -/
structure PlayEntry where
  frame : Nat
  samples : Option (List Sample)
  move : Option Nat
  cycle : Option ScanCycle
deriving DecidableEq, Repr

/-- A packet on a station line, from the port to the station (R147, R201). -/
inductive Packet where
  | state (body : List Byte) (skip : Bool)
  | audio (samples : List Sample)
deriving DecidableEq, Repr

/-- A station port (chapter 07), with its reader's state and resting flag (R167) and the packets of its line (R147). -/
structure Station where
  config : StationConfig
  link : LinkState
  /-- Milliseconds since the last valid packet, held at 1000; `none` when stopped. -/
  silenceTimer : Option Nat
  /-- Milliseconds spent LOST, held at 600,000; `none` when stopped. -/
  reclaimTimer : Option Nat
  model : Option Byte
  accepting : Bool
  takes : List TakeRef
  pedals : List Pedal
  transport : Transport
  parked : Bool
  stoppedByPart : Bool
  cursor : Option Nat
  cursorPlayed : Bool
  backspaceDue : Bool
  fifo : List PlayEntry
  fetch : Option Nat
  reader : ReaderState
  cycle : Option ScanCycle
  resting : Bool
  /-- Milliseconds since the last station frame time, held at 16; `none` when stopped. -/
  frameTimer : Option Nat
  status : StationStatus
  /-- The mark number sent with the NOTE statuses (R147). -/
  statusMark : Option Nat
  skipFlag : Bool
  underruns : Nat
  badPackets : Nat
  /-- Milliseconds since the last STATE packet was sent, held at 1000; `none` before the first. -/
  stateTimer : Option Nat
  stateDue : Bool
  line : Option Packet
  /-- An AUDIO packet that waits for the packet on the line. -/
  audioWaiting : Option (List Sample)
deriving DecidableEq, Repr

/-! ### Read-back units (chapter 08) -/

/-- The start of a read-back entry, as given (R153). -/
inductive ReadbackStart where
  | frame (n : Nat)
  | mark (n : Nat)
deriving DecidableEq, Repr

/-- The end of a read-back entry, as given (R153). -/
inductive ReadbackStop where
  | frame (n : Nat)
  | mark (n : Nat)
  | length (n : Nat)
deriving DecidableEq, Repr

/-- A read-back entry as the host gave it (chapter 08). -/
structure ReadbackEntry where
  serial : Nat
  session : Nat
  start : ReadbackStart
  stop : ReadbackStop
  chain : Bool
deriving DecidableEq, Repr

/-- The current entry with the values resolved at its start (chapter 08). -/
structure ReadbackCurrent where
  entry : ReadbackEntry
  start : Nat
  stop : Nat
  startMark : Option Nat
  played : Nat
  withheld : Nat
  silent : Nat
deriving DecidableEq, Repr

/-- An entry of the read-back FIFO (R157); `none` samples are silence. -/
structure ReadbackFrame where
  frame : Nat
  samples : Option (List Sample)
deriving DecidableEq, Repr

/-- A read-back unit (chapter 08), with its reader's state and resting flag (R167). -/
structure Readback where
  current : Option ReadbackCurrent
  pending : List ReadbackEntry
  nextSerial : Nat
  fifo : List ReadbackFrame
  fetch : Option Nat
  finished : Bool
  reader : ReaderState
  resting : Bool
  threshold : Nat
  underruns : Nat
deriving DecidableEq, Repr

/-! ### The store arbiter (chapter 09) -/

/-- A client of the SDRAM port. -/
inductive Client where
  | refresh
  | capture (c : ChannelId)
  | readback (c : ChannelId)
  | station (n : StationId)
  | exporter
deriving DecidableEq, Repr

/-- The grant in progress (R165); `live` is no once the reader's FIFO has been emptied under it (R171). -/
structure Grant where
  client : Client
  live : Bool
  block : Nat
  slot : Nat
deriving DecidableEq, Repr

/-- The store arbiter (chapter 09); the port is FREE exactly when there is no grant. -/
structure Arbiter where
  grant : Option Grant
  /-- Milliseconds since the last refresh due time, held at 1. -/
  refreshTimer : Nat
  refreshDue : Nat
  stationPointer : StationId
deriving DecidableEq, Repr

/-! ### The control link and the export (chapter 10) -/

/-- A received request: KIND, TAG and body (R176). -/
structure Request where
  kind : Nat
  tag : Byte
  body : List Byte
deriving DecidableEq, Repr

/-- A reply: KIND, TAG and body, whose first byte is the status (R179); `busy` marks the BUSY replies of R178. -/
structure Reply where
  kind : Byte
  tag : Byte
  body : List Byte
  busy : Bool
deriving DecidableEq, Repr

/-- The request in progress, and the reply made to it once it has been answered (R179). -/
structure InProgress where
  request : Request
  reply : Option Reply
deriving DecidableEq, Repr

/-- An entry of the pending notice set (R182). -/
structure Notice where
  kind : NoticeKind
  subject : Subject
  merged : Nat
  contents : List Byte
deriving DecidableEq, Repr

/-- The resume point of the export (R188, R190). -/
structure Resume where
  session : Nat
  position : Nat
deriving DecidableEq, Repr

/-- A DATA message as formed (R190), with how many of its samples are withheld and lost. -/
structure DataMessage where
  tag : Byte
  position : Nat
  samples : List Sample
  withheld : Nat
  lost : Nat
deriving DecidableEq, Repr

/-- A FETCH_END message as formed (R191). -/
structure FetchEnd where
  tag : Byte
  session : Nat
  start : Nat
  sent : Nat
  withheld : Nat
  lost : Nat
  reason : EndReason
  resume : Option Resume
deriving DecidableEq, Repr

/-- The message on the outbound line (R181).  `orphan` marks a message of an export that RESET LINK has ended (R186). -/
inductive Outbound where
  | reply (r : Reply)
  | notice (n : Notice)
  | data (d : DataMessage) (orphan : Bool)
  | fetchEnd (m : FetchEnd) (orphan : Bool)
deriving DecidableEq, Repr

/-- The control link (chapter 10); the transmitter is IDLE exactly when the line carries nothing. -/
structure Link where
  device : DeviceState
  receive : ReceiveState
  /-- Milliseconds since the start byte, held at 20; `none` when stopped. -/
  messageTimer : Option Nat
  errorCount : Nat
  lastCause : Option LinkCause
  buffer : List Request
  inProgress : Option InProgress
  replies : List Reply
  line : Option Outbound
  notices : List Notice
  dropped : Nat
  mask : BitVec 16
  /-- The link rate in Mbit/s, from the link rate straps (R175). -/
  rate : Nat
  resetCause : ResetCause
  /-- A RESET FULL has been answered and its reply is not yet sent (R187). -/
  fullReset : Bool
deriving DecidableEq, Repr

/-- What an entry of the export FIFO holds (R189). -/
inductive ExportContent where
  | samples (l : List Sample)
  | withheld
  | lost
deriving DecidableEq, Repr

/-- An entry of the export FIFO (R189). -/
structure ExportEntry where
  frame : Nat
  content : ExportContent
deriving DecidableEq, Repr

/-- The audio export: its state, its record, its FIFO, its cursor and the resume point (R188 to R191). -/
structure Exporter where
  phase : ExportState
  session : Nat
  tag : Byte
  start : Nat
  count : Nat
  sent : Nat
  withheld : Nat
  lost : Nat
  reason : Option EndReason
  fifo : List ExportEntry
  cursor : Option Nat
  reader : ReaderState
  resume : Option Resume
deriving DecidableEq, Repr

/-! ### The whole part -/

/-- The state of the part, and the queue of commands that wait, first in, first out. -/
structure State where
  channels : PerChannel Channel
  sessions : List Session
  /-- The session number issued last (R23). -/
  lastSession : Nat
  store : Store
  takes : List Take
  marks : List Mark
  ranges : List Range
  /-- The dispatch queue, head first (R104). -/
  queue : List TakeRef
  /-- The rotation pointer of the dispatch unit (R114). -/
  rotation : StationId
  stations : PerStation Station
  readback : PerChannel Readback
  arbiter : Arbiter
  link : Link
  exporter : Exporter
  pending : List Instr
deriving DecidableEq, Repr

/-! ### Reset values -/

/-- The default plan after reset (R19, R49). -/
def Plan.default : Plan :=
  { nominal := 37500, grace := 3750, pause := 30, softOverlap := 62, hardOverlap := 188 }

/-- The default configuration of a channel (R19). -/
def ChannelConfig.default : ChannelConfig where
  ratio := 24
  minimum := 64
  onsetRun := 2
  hangRun := 12
  startMode := .immediate
  outputMode := .echo
  polarity := .all .activeLow
  enable := .all true
  speakers := 4
  offPlay := .none
  offReadback := false
  offExport := true
  levelPeriod := 0
  plan := Plan.default

/-- The detector after reset (R22) and at the opening of a session (R2). -/
def Detector.reset : Detector :=
  { floor := 256, phase := .quiet, voicedRun := 0, quietRun := 0, lastLevel := none }

/-- A keypad after reset (R89). -/
def Keypad.reset : Keypad :=
  { keys := .all { pressed := false, debounce := 0 }, speaker := 1, offRecord := none }

/-- A channel after reset (R22). -/
def Channel.reset : Channel where
  phase := .off
  session := none
  startMode := none
  assembler := []
  arrivedHead := none
  lastFrame := none
  input := .live
  inputLossTimer := 0
  lostTick := none
  detector := Detector.reset
  ring := []
  fifo := []
  levelCounter := 0
  config := ChannelConfig.default
  keypad := Keypad.reset
  echo := none
  output := .echo
  outputFrame := none

/-- The default configuration of a station (R148). -/
def StationConfig.default : StationConfig where
  enable := true
  channelSet := 0xF
  classSet := 0x7
  depth := 2
  cleared := false
  startAtCore := false
  backspace := 94
  scanPlay := 4
  scanStride := 16
  grace := 60
  text := List.replicate 20 0x20

/-- A station port after reset (R151). -/
def Station.reset : Station where
  config := StationConfig.default
  link := .absent
  silenceTimer := none
  reclaimTimer := none
  model := none
  accepting := false
  takes := []
  pedals := []
  transport := .stopped
  parked := false
  stoppedByPart := false
  cursor := none
  cursorPlayed := false
  backspaceDue := false
  fifo := []
  fetch := none
  reader := .stopped
  cycle := none
  resting := false
  frameTimer := none
  status := .none
  statusMark := none
  skipFlag := false
  underruns := 0
  badPackets := 0
  stateTimer := none
  stateDue := false
  line := none
  audioWaiting := none

/-- A read-back unit after reset (R164). -/
def Readback.reset : Readback where
  current := none
  pending := []
  nextSerial := 0
  fifo := []
  fetch := none
  finished := false
  reader := .stopped
  resting := false
  threshold := 0
  underruns := 0

/-- The audio store after reset, for a block count and the contents the SDRAM holds (R45). -/
def Store.reset (blocks : Nat) (mem : AudioMemory) : Store where
  blocks := blocks
  free := List.range blocks
  chains := []
  lowMark := 256
  condition := .normal
  mem := mem

/-- The arbiter after pin reset (R174). -/
def Arbiter.reset : Arbiter :=
  { grant := none, refreshTimer := 0, refreshDue := 0, stationPointer := 7 }

/-- The default notice mask: every kind except LEVEL (R183, R196). -/
def defaultMask : BitVec 16 := 0x0FDF

/-- The control link after pin reset and RESET FULL (R187). -/
def Link.reset (rate : Nat) (cause : ResetCause) : Link where
  device := .starting
  receive := .hunting
  messageTimer := none
  errorCount := 0
  lastCause := none
  buffer := []
  inProgress := none
  replies := []
  line := none
  notices := []
  dropped := 0
  mask := defaultMask
  rate := rate
  resetCause := cause
  fullReset := false

/-- The export after reset (R187). -/
def Exporter.reset : Exporter where
  phase := .idle
  session := 0
  tag := 0
  start := 0
  count := 0
  sent := 0
  withheld := 0
  lost := 0
  reason := none
  fifo := []
  cursor := none
  reader := .stopped
  resume := none

/-- The whole part at the end of a reset: for a block count, a link rate, a reset cause and SDRAM contents. -/
def State.resetWith (blocks rate : Nat) (cause : ResetCause) (mem : AudioMemory) : State where
  channels := .all Channel.reset
  sessions := []
  lastSession := 0
  store := Store.reset blocks mem
  takes := []
  marks := []
  ranges := []
  queue := []
  rotation := 7
  stations := .all Station.reset
  readback := .all Readback.reset
  arbiter := Arbiter.reset
  link := Link.reset rate cause
  exporter := Exporter.reset
  pending := []

/-- The machine right after pin reset.  DESIGN CHOICE, unsafe: the four straps are low, so the store has 2048 blocks and
the link runs at 1 Mbit/s (notes/assumptions/5.md); nothing in the SDRAM has been written. -/
def State.reset : State := State.resetWith 2048 1 .pin []

end Sys2Proof.Machine
end

