-- ==== Sys2Proof/Machine/Operands.lean ====
section
/-! DEFINITION. Operand forms: little-endian fields and their absent encodings (R196), the codes of the enumerations
(R195, R196), the clamps of out-of-range values (00_scope, Out-of-range inputs; R198), text, and the check of messages
and packets (R177, R126). -/

namespace Sys2Proof.Machine

/-! ### Little-endian fields -/

/-- The `k` low bytes of `n`, low byte first. -/
def le : Nat → Nat → List Byte
  | 0, _ => []
  | k + 1, n => BitVec.ofNat 8 n :: le k (n / 256)

/-- The number whose bytes, low byte first, are given. -/
def ofLE : List Byte → Nat
  | [] => 0
  | b :: bs => b.toNat + 256 * ofLE bs

/-- The field of `len` bytes at offset `off` of a body. -/
def field (body : List Byte) (off len : Nat) : Nat := ofLE ((body.drop off).take len)

/-- One-, two- and four-byte fields. -/
def u8 (n : Nat) : List Byte := le 1 n
def u16 (n : Nat) : List Byte := le 2 n
def u32 (n : Nat) : List Byte := le 4 n

/-- One byte, absent as 0xFF: channels, stations, enumerations, other values below 255 (R196). -/
def opt8 : Option Nat → List Byte
  | some n => u8 n
  | none => u8 0xFF

/-- Two bytes, absent as 0: session, take, mark and range numbers, queue positions (R196). -/
def num16 : Option Nat → List Byte
  | some n => u16 n
  | none => u16 0

/-- Two bytes, absent as 0xFFFF: levels, block numbers, serials, the station model, times (R196). -/
def opt16 : Option Nat → List Byte
  | some n => u16 n
  | none => u16 0xFFFF

/-- Four bytes, absent as 0xFFFFFFFF: frame numbers and sample positions (R196). -/
def opt32 : Option Nat → List Byte
  | some n => u32 n
  | none => u32 0xFFFFFFFF

/-- A yes/no byte (R196). -/
def yesNo (b : Bool) : List Byte := u8 (if b then 1 else 0)

/-- A sample, low byte first (R31, R190, R201). -/
def sampleBytes (x : Sample) : List Byte := le 2 x.toNat

/-- The samples of a frame as bytes. -/
def samplesBytes (l : List Sample) : List Byte := l.flatMap sampleBytes

/-- The samples whose bytes, each low byte first, are given. -/
def bytesSamples : List Byte → List Sample
  | lo :: hi :: rest => (hi ++ lo) :: bytesSamples rest
  | _ => []

/-- A frame of silence (R202). -/
def silence : List Sample := List.replicate Config.frameSamples 0

/-- A list with its 1-byte count (R196). -/
def listBytes {α : Type} (f : α → List Byte) (l : List α) : List Byte := u8 l.length ++ l.flatMap f

/-! ### Text -/

/-- A printable character.  PRESUMED: the printable ASCII characters 0x20 to 0x7E (notes/assumptions/12.md). -/
def printable (b : Byte) : Bool := decide (0x20 ≤ b.toNat) && decide (b.toNat ≤ 0x7E)

/-- Text with every byte that is not printable replaced by a space (R78, R95, R148). -/
def cleanText (t : List Byte) : List Byte := t.map fun b => if printable b then b else 0x20

/-- Optional 12-byte text, preceded by its presence byte (R196, R199). -/
def optText : Option (List Byte) → List Byte
  | some t => u8 1 ++ t
  | none => u8 0 ++ List.replicate 12 0

/-! ### Clamps -/

/-- The value of `lo..hi` nearest to `x`. -/
def clamp (lo hi x : Nat) : Nat := if x < lo then lo else if hi < x then hi else x

/-- A channel number of a request, if there is such a channel. -/
def channelOf (n : Nat) : Option ChannelId := if h : n < 4 then some ⟨n, h⟩ else none

/-- A station number of a request, if there is such a station. -/
def stationOf (n : Nat) : Option StationId := if h : n < 8 then some ⟨n, h⟩ else none

/-- A code above the highest defined one is taken as the highest (R198); these read a code that way. -/
def StartMode.ofCode (n : Nat) : StartMode := if n = 0 then .immediate else .onVoice
def OutputMode.ofCode (n : Nat) : OutputMode := if n = 0 then .echo else .quiet
def Polarity.ofCode (n : Nat) : Polarity := if n = 0 then .activeLow else .activeHigh
def DispatchMode.ofCode (n : Nat) : DispatchMode := if n = 0 then .off else if n = 1 then .onClose else .live
def TakeClass.ofCode (n : Nat) : TakeClass := if n = 0 then .expedite else if n = 1 then .daily else .regular
def StationChoice.ofCode (n : Nat) : StationChoice := if n = 0 then .rotate else .follow
def PlayPermission.ofCode (n : Nat) : PlayPermission := if n = 0 then .all else if n = 1 then .cleared else .none

/-- The mark kinds a code above which is refused (R78): codes 0 to 5 name GENERAL to NOTE. -/
def MarkKind.ofCode? (n : Nat) : Option MarkKind :=
  match n with
  | 0 => some .general
  | 1 => some .speaker
  | 2 => some .exhibit
  | 3 => some .objection
  | 4 => some .bench
  | 5 => some .note
  | _ => none

/-- ADJUSTED when a value was clamped, replaced or merged, OK otherwise (R180). -/
def adjusted (changed : Bool) : Status := if changed then .adjusted else .ok

/-! ### Codes of the enumerations (R195, R196): from 0 in the manual's order -/

def ChannelPhase.code : ChannelPhase → Nat
  | .off => 0 | .armed => 1 | .recording => 2 | .closing => 3

def SessionPhase.code : SessionPhase → Nat
  | .armed => 0 | .recording => 1 | .closing => 2 | .closed => 3

def StartMode.code : StartMode → Nat
  | .immediate => 0 | .onVoice => 1

def OutputMode.code : OutputMode → Nat
  | .echo => 0 | .quiet => 1

def OutputSource.code : OutputSource → Nat
  | .readback => 0 | .echo => 1 | .quiet => 2

def InputCondition.code : InputCondition → Nat
  | .live => 0 | .lost => 1

def DetectorPhase.code : DetectorPhase → Nat
  | .quiet => 0 | .speech => 1

def LostCause.code : LostCause → Nat
  | .input => 0 | .storeFull => 1 | .storeBusy => 2

def Polarity.code : Polarity → Nat
  | .activeLow => 0 | .activeHigh => 1

def DispatchMode.code : DispatchMode → Nat
  | .off => 0 | .onClose => 1 | .live => 2

def TakeClass.code : TakeClass → Nat
  | .expedite => 0 | .daily => 1 | .regular => 2

def StationChoice.code : StationChoice → Nat
  | .rotate => 0 | .follow => 1

def CloseReason.code : CloseReason → Nat
  | .request => 0 | .limit => 1

def CaptureStatus.code : CaptureStatus → Nat
  | .opened => 0 | .closed => 1

def CutKind.code : CutKind → Nat
  | .soft => 0 | .hard => 1 | .forced => 2 | .final => 3 | .limit => 4

def DispatchState.code : DispatchState → Nat
  | .unqueued => 0 | .queued => 1 | .assigned => 2 | .inWork => 3 | .typed => 4 | .held => 5

def MarkKind.code : MarkKind → Nat
  | .general => 0 | .speaker => 1 | .exhibit => 2 | .objection => 3 | .bench => 4 | .note => 5
  | .readbackStart => 6 | .readbackEnd => 7 | .gap => 8

/-- HOST 0x00, KEYPAD 0x01, DEVICE 0x02, STATION n 0x10 + n (R196). -/
def MarkSource.code : MarkSource → Nat
  | .host => 0 | .keypad => 1 | .device => 2 | .station n => 0x10 + n.val

def PlayPermission.code : PlayPermission → Nat
  | .all => 0 | .cleared => 1 | .none => 2

def RangeSource.code : RangeSource → Nat
  | .host => 0 | .keypad => 1

def StoreCondition.code : StoreCondition → Nat
  | .normal => 0 | .low => 1 | .exhausted => 2

/-- DEDUCED: the order in which 00_scope first gives the categories (notes/assumptions/14.md). -/
def Category.code : Category → Nat
  | .present => 0 | .unstored => 1 | .trimmed => 2 | .lost => 3 | .notYet => 4

def LinkState.code : LinkState → Nat
  | .absent => 0 | .present => 1 | .lost => 2

def Pedal.code : Pedal → Nat
  | .play => 0 | .fwd => 1 | .back => 2

def Transport.code : Transport → Nat
  | .stopped => 0 | .playing => 1 | .holding => 2 | .scanFwd => 3 | .scanBack => 4

def StationStatus.code : StationStatus → Nat
  | .none => 0 | .endOfTake => 1 | .stillRecording => 2 | .notYetPlayed => 3 | .noTake => 4 | .typed => 5
  | .returned => 6 | .held => 7 | .removed => 8 | .noteAdded => 9 | .noteMerged => 10 | .noteDropped => 11

def DeviceState.code : DeviceState → Nat
  | .starting => 0 | .ready => 1

def LinkCause.code : LinkCause → Nat
  | .badLength => 0 | .badCheck => 1 | .timeout => 2 | .overrun => 3

def ResetCause.code : ResetCause → Nat
  | .pin => 0 | .full => 1

def Status.code : Status → Nat
  | .ok => 0x00 | .adjusted => 0x01 | .deferred => 0x02 | .busy => 0x03 | .unknownKind => 0x04
  | .badLength => 0x05 | .noSuch => 0x06 | .wrongState => 0x07 | .full => 0x08 | .inUse => 0x09
  | .gone => 0x0A | .notPermitted => 0x0B | .starting => 0x0C

def NoticeKind.code : NoticeKind → Nat
  | .device => 0 | .linkError => 1 | .session => 2 | .input => 3 | .gap => 4 | .level => 5
  | .take => 6 | .table => 7 | .store => 8 | .station => 9 | .readback => 10 | .mark => 11

def TableName.code : TableName → Nat
  | .takes => 0 | .marks => 1 | .ranges => 2

def EndReason.code : EndReason → Nat
  | .complete => 0 | .stopped => 1 | .short => 2

def SkipReason.code : SkipReason → Nat
  | .noSession => 0 | .noMark => 1 | .badSpan => 2 | .gone => 3 | .notRecorded => 4

/-! ### The check (R177, R126) -/

/-- One shift of the check register. -/
def crcShift (r : BitVec 16) : BitVec 16 := if r.msb then (r <<< 1) ^^^ 0x1021 else r <<< 1

/-- The check register after one byte. -/
def crcByte (r : BitVec 16) (b : Byte) : BitVec 16 :=
  let r := r ^^^ (b.setWidth 16 <<< 8)
  crcShift (crcShift (crcShift (crcShift (crcShift (crcShift (crcShift (crcShift r)))))))

/-- The CRC-16 with polynomial 0x1021 and initial value 0xFFFF, most significant bit first, not inverted. -/
def crc16 (bytes : List Byte) : BitVec 16 := bytes.foldl crcByte 0xFFFF

/-- The two check bytes, low byte first. -/
def checkBytes (bytes : List Byte) : List Byte := le 2 (crc16 bytes).toNat

/-! ### Frames of messages and packets -/

/-- A whole control message (R193). -/
def messageBytes (kind tag : Byte) (body : List Byte) : List Byte :=
  let inner := u16 (body.length + 2) ++ [kind, tag] ++ body
  [0xA7] ++ inner ++ checkBytes inner

/-- A whole station packet (R201). -/
def packetBytes (kind : Byte) (body : List Byte) : List Byte :=
  [0xB5, kind] ++ body ++ checkBytes (kind :: body)

/-- The bytes of a packet as sent (R201). -/
def Packet.bytes : Packet → List Byte
  | .state body _ => packetBytes 0x02 body
  | .audio samples => packetBytes 0x01 (samplesBytes samples)

/-- The four subject bytes of a notice (R200). -/
def Subject.bytes : Subject → List Byte
  | .whole => u32 0
  | .channel c => u32 c.val
  | .station n => u32 n.val
  | .session n => u16 n ++ u16 0
  | .take n t => u16 n ++ u16 t
  | .table t => u32 t.code

/-- The kind byte of an outbound message (R194). -/
def Outbound.kind : Outbound → Byte
  | .reply r => r.kind
  | .notice n => BitVec.ofNat 8 (0x60 + n.kind.code)
  | .data _ _ => 0x6E
  | .fetchEnd _ _ => 0x6F

/-- The TAG of an outbound message (R193). -/
def Outbound.tag : Outbound → Byte
  | .reply r => r.tag
  | .notice _ => 0
  | .data d _ => d.tag
  | .fetchEnd m _ => m.tag

/-- The body of an outbound message (R199, R200). -/
def Outbound.body : Outbound → List Byte
  | .reply r => r.body
  | .notice n => n.subject.bytes ++ u16 n.merged ++ n.contents
  | .data d _ => u32 d.position ++ u16 d.samples.length ++ samplesBytes d.samples
  | .fetchEnd m _ =>
    u16 m.session ++ u32 m.start ++ u32 m.sent ++ u32 m.withheld ++ u32 m.lost ++ u8 m.reason.code
      ++ num16 (m.resume.map (·.session)) ++ opt32 (m.resume.map (·.position))

/-- The bytes of an outbound message on the line (R176, R193). -/
def Outbound.bytes (m : Outbound) : List Byte := messageBytes m.kind m.tag m.body

/-- The KIND of a reply: the request's KIND plus 0x80 (R179).  For a request KIND of 0x80 or above the sum does not fit
a byte, and the byte is a free value (notes/assumptions/11.md). -/
def replyKind (kind : Nat) : Byte :=
  if kind < 0x80 then BitVec.ofNat 8 (kind + 0x80) else Config.replyKindBeyond kind

end Sys2Proof.Machine
end

