-- ==== Sys2Proof/WellFormed.lean ====
section
/-! DEFINITION. Which commands are well formed: every field of a request fits the bytes its body gives it (R196, R197),
texts have their length, and an event brings no more than it can.  A well-formed field may still be outside its range;
the request's own rule clamps or refuses it. -/

namespace Sys2Proof

/-- A one-byte field. -/
def fits8 (n : Nat) : Bool := decide (n < 256)
/-- A two-byte field. -/
def fits16 (n : Nat) : Bool := decide (n < 65536)
/-- A four-byte field. -/
def fits32 (n : Nat) : Bool := decide (n < 4294967296)

/-- An optional field. -/
def fitsOpt (f : Nat → Bool) : Option Nat → Bool
  | some n => f n
  | none => true

/-- An optional 12-byte text. -/
def fitsText : Option (List Byte) → Bool
  | some t => decide (t.length = 12)
  | none => true

/-- A plan: N of four bytes, G of two, P and O_s of one, O_h of two (R197). -/
def Plan.wf (p : Plan) : Bool :=
  fits32 p.nominal && fits16 p.grace && fits8 p.pause && fits8 p.softOverlap && fits16 p.hardOverlap

def PlanPatch.wf (p : PlanPatch) : Bool :=
  fitsOpt fits32 p.nominal && fitsOpt fits16 p.grace && fitsOpt fits8 p.pause && fitsOpt fits8 p.softOverlap
    && fitsOpt fits16 p.hardOverlap

def OpenSessionReq.wf (r : OpenSessionReq) : Bool :=
  fits8 r.channel && fitsText r.label && fitsOpt fits8 r.startMode && fitsOpt fits8 r.dispatchMode
    && fitsOpt fits8 r.takeClass && fitsOpt fits8 r.stationChoice && r.plan.wf

def ConfigureChannelReq.wf (r : ConfigureChannelReq) : Bool :=
  fits8 r.channel && fits8 r.ratio && fits16 r.minimum && fits8 r.onsetRun && fits8 r.hangRun && fits8 r.startMode
    && fits8 r.outputMode && fits8 r.polarity.c0 && fits8 r.polarity.c1 && fits8 r.polarity.c2
    && fits8 r.polarity.c3 && fits8 r.speakers && fits8 r.offPlay && fits8 r.levelPeriod && r.plan.wf

def ListTakesReq.wf (r : ListTakesReq) : Bool :=
  fits16 r.session && fits8 r.scope && fits16 r.first && fits8 r.dispatchFilter && fits8 r.captureFilter

def AddMarkReq.wf (r : AddMarkReq) : Bool :=
  fits16 r.session && fits32 r.frame && fits8 r.kind && fitsText r.tag && fitsOpt fits8 r.speaker

def ListMarksReq.wf (r : ListMarksReq) : Bool :=
  fits16 r.session && fits32 r.frame && fits16 r.mark && fits8 r.kindFilter && fits8 r.sourceFilter

def OpenRangeReq.wf (r : OpenRangeReq) : Bool :=
  fits16 r.session && fits32 r.start && fitsOpt fits32 r.stop && fits8 r.play && fitsText r.label

def SetRangeReq.wf (r : SetRangeReq) : Bool :=
  fits16 r.session && fits16 r.range && fitsOpt fits8 r.play
    && match r.label with
      | .replace t => decide (t.length = 12)
      | .keep | .remove => true

def ListRangesReq.wf (r : ListRangesReq) : Bool :=
  fits16 r.session && fits32 r.frame && fits16 r.range && fits8 r.stateFilter && fitsOpt fits32 r.test

def ConfigureStationReq.wf (r : ConfigureStationReq) : Bool :=
  fits8 r.station && fits8 r.channelSet && fits8 r.classSet && fits8 r.depth && fits8 r.backspace && fits8 r.scanPlay
    && fits8 r.scanStride && fits16 r.grace && decide (r.text.length = 20)

/-- A start or end value is four bytes, of which a mark number takes the low two (R197, R198). -/
def QueueReadbackReq.wf (r : QueueReadbackReq) : Bool :=
  fits8 r.channel && fits16 r.session && fits8 r.startForm && fits8 r.endForm
    && (if r.startForm = 0 then fits32 r.startValue else fits16 r.startValue)
    && (if r.endForm = 1 then fits16 r.endValue else fits32 r.endValue)

/-- The whole check. -/
def Instr.wf : Instr → Bool
  | .messageReceived bytes => decide (6 ≤ bytes.length) && decide (bytes.length ≤ 1030)
  | .messageBadLength len => fits16 len && (decide (len < 2) || decide (1026 < len))
  | .requestUnknownKind _ kind body => fits8 kind && decide (body.length ≤ 1024)
  | .resetLink _ scope => fits8 scope && decide (scope ≠ 1)
  | .setNoticeMask _ mask => fits16 mask
  | .openSession _ r => r.wf
  | .closeSession _ n | .sessionInfo _ n | .cutNow _ n => fits16 n
  | .configureStore _ m => fits16 m
  | .configureChannel _ r => r.wf
  | .channelInfo _ c | .stationInfo _ c | .readbackInfo _ c => fits8 c
  | .setPlan _ n p => fits16 n && p.wf
  | .releaseTake _ n t | .takeInfo _ n t | .queueTake _ n t | .recallTake _ n t | .clearHold _ n t =>
    fits16 n && fits16 t
  | .listTakes _ r => r.wf
  | .setClass _ n t k => fits16 n && fits16 t && fits8 k
  | .assignTake _ n t st => fits16 n && fits16 t && fits8 st
  | .dispatchInfo _ p => fits16 p
  | .addMark _ r => r.wf
  | .deleteMark _ n m => fits16 n && fits16 m
  | .listMarks _ r => r.wf
  | .openRange _ r => r.wf
  | .closeRange _ n g stop =>
    fits16 n && fits16 g && fitsOpt (fun f => decide (f < 4294967295)) stop
  | .setRange _ r => r.wf
  | .deleteRange _ n g => fits16 n && fits16 g
  | .listRanges _ r => r.wf
  | .configureStation _ r => r.wf
  | .queueReadbackChain _ r | .queueReadbackPreempt _ r => r.wf
  | .cancelReadbackCurrent _ c => fits8 c
  | .cancelReadbackAll _ c scope => fits8 c && fits8 scope && decide (1 ≤ scope)
  | .configureReadback _ c k => fits8 c && fits8 k
  | .fetchAudio _ n p k => fits16 n && fits32 p && fits32 k
  | .fetchAudioContinue _ form k => fits8 form && decide (1 ≤ form) && fits32 k
  | .frameCompleted _ samples => decide (1 ≤ samples.length) && decide (samples.length ≤ Config.frameSamples)
  | .pinReset .. | .startupComplete | .messageTimeout | .replySent | .noticeSent | .dataSent | .fetchEndSent
  | .identify _ | .resetFull _ | .storeInfo _ | .stopFetch _ | .inputLossTimerExpiry _ | .lostFrameTick _
  | .inputReturned .. | .channelOutputFrameTime _ | .keypadPressAccepted .. | .keypadReleaseAccepted ..
  | .captureTransferEnd | .stationPacketInvalid .. | .stationPacketTimeout .. | .stationLineBreak .. | .alive ..
  | .playPedal .. | .fwdPedal .. | .backPedal .. | .doneKey .. | .returnKey .. | .readyKey .. | .noteKey ..
  | .keyUnknown .. | .stationLinkLost _ | .reclaimTimerExpiry _ | .stationFrameTime _ | .stateRefreshTimer _
  | .statePacketSent _ | .audioPacketSent _ | .stationReaderTransferEnd | .readbackReaderTransferEnd
  | .exportReaderTransferEnd | .refreshDueTime | .refreshBurstEnd | .keySample .. | .startByte | .invalidByte => true

end Sys2Proof
end

