-- ==== Sys2Proof/Decode.lean ====
section
/-! DEFINITION. From bytes to commands and back: the request a message carries (R194, R197, R198), the command a station
packet brings (R201, R202), and the bytes of a request.  The opcode table gives its rows no bits, so no word spells a
command. -/

namespace Sys2Proof

open Machine

/-- The command a table word spells.  No row of spec/opcode_table.json has bits, so no word spells one. -/
def decodeTableWord (_nbits _w : Nat) : Option Instr := none

/-- The body length of each request KIND; `none` where the KIND names no request (R194). -/
def requestLength : Nat → Option Nat
  | 0x01 => some 0 | 0x02 => some 1 | 0x03 => some 2
  | 0x10 => some 29 | 0x11 => some 2 | 0x12 => some 2 | 0x13 => some 0 | 0x14 => some 2 | 0x15 => some 31
  | 0x16 => some 1
  | 0x20 => some 13 | 0x21 => some 2 | 0x22 => some 4 | 0x23 => some 4 | 0x24 => some 7
  | 0x28 => some 4 | 0x29 => some 5 | 0x2A => some 4 | 0x2B => some 5 | 0x2C => some 4 | 0x2D => some 2
  | 0x30 => some 21 | 0x31 => some 4 | 0x32 => some 10
  | 0x38 => some 26 | 0x39 => some 8 | 0x3A => some 20 | 0x3B => some 4 | 0x3C => some 14
  | 0x40 => some 32 | 0x41 => some 1
  | 0x48 => some 14 | 0x49 => some 2 | 0x4A => some 2 | 0x4B => some 1
  | 0x50 => some 11 | 0x51 => some 0
  | _ => none

/-- A field that is in use only when its presence bit is set (R198). -/
def present (bits bit : Nat) (value : Nat) : Option Nat := if bits.testBit bit then some value else none

/-- A yes/no byte: any value but 0 is yes (R198). -/
def yes (n : Nat) : Bool := decide (n ≠ 0)

/-- The 10 bytes of a plan at an offset (R197). -/
def planAt (b : List Byte) (off : Nat) : Plan where
  nominal := field b off 4
  grace := field b (off + 4) 2
  pause := field b (off + 6) 1
  softOverlap := field b (off + 7) 1
  hardOverlap := field b (off + 8) 2

/-- The plan at an offset with five presence bits from `bit` up (R197). -/
def patchAt (b : List Byte) (off bits bit : Nat) : PlanPatch :=
  let p := planAt b off
  { nominal := present bits bit p.nominal
    grace := present bits (bit + 1) p.grace
    pause := present bits (bit + 2) p.pause
    softOverlap := present bits (bit + 3) p.softOverlap
    hardOverlap := present bits (bit + 4) p.hardOverlap }

/-- The text of `len` bytes at an offset. -/
def textAt (b : List Byte) (off len : Nat) : List Byte := (b.drop off).take len

def decodeOpenSession (b : List Byte) : OpenSessionReq :=
  let bits := field b 1 2
  { channel := field b 0 1
    label := if bits.testBit 0 then some (textAt b 3 12) else none
    startMode := present bits 1 (field b 15 1)
    dispatchMode := present bits 2 (field b 16 1)
    takeClass := present bits 3 (field b 17 1)
    stationChoice := present bits 4 (field b 18 1)
    plan := patchAt b 19 bits 5 }

def decodeConfigureChannel (b : List Byte) : ConfigureChannelReq where
  channel := field b 0 1
  ratio := field b 1 1
  minimum := field b 2 2
  onsetRun := field b 4 1
  hangRun := field b 5 1
  startMode := field b 6 1
  outputMode := field b 7 1
  polarity := ⟨field b 8 1, field b 9 1, field b 10 1, field b 11 1⟩
  enable := ⟨yes (field b 12 1), yes (field b 13 1), yes (field b 14 1), yes (field b 15 1)⟩
  speakers := field b 16 1
  offPlay := field b 17 1
  offReadback := yes (field b 18 1)
  offExport := yes (field b 19 1)
  levelPeriod := field b 20 1
  plan := planAt b 21

def decodeListTakes (b : List Byte) : ListTakesReq where
  session := field b 0 2
  scope := field b 2 1
  first := field b 3 2
  dispatchFilter := field b 5 1
  captureFilter := field b 6 1

def decodeAddMark (b : List Byte) : AddMarkReq :=
  let bits := field b 7 1
  { session := field b 0 2
    frame := field b 2 4
    kind := field b 6 1
    tag := if bits.testBit 0 then some (textAt b 8 12) else none
    speaker := present bits 1 (field b 20 1) }

def decodeListMarks (b : List Byte) : ListMarksReq where
  session := field b 0 2
  frame := field b 2 4
  mark := field b 6 2
  kindFilter := field b 8 1
  sourceFilter := field b 9 1

def decodeOpenRange (b : List Byte) : OpenRangeReq :=
  let bits := field b 6 1
  { session := field b 0 2
    start := field b 2 4
    stop := present bits 0 (field b 7 4)
    play := field b 11 1
    readback := yes (field b 12 1)
    exportable := yes (field b 13 1)
    label := if bits.testBit 1 then some (textAt b 14 12) else none }

def decodeSetRange (b : List Byte) : SetRangeReq :=
  let bits := field b 4 1
  { session := field b 0 2
    range := field b 2 2
    play := present bits 0 (field b 5 1)
    readback := if bits.testBit 1 then some (yes (field b 6 1)) else none
    exportable := if bits.testBit 2 then some (yes (field b 7 1)) else none
    label := if bits.testBit 4 then .remove else if bits.testBit 3 then .replace (textAt b 8 12) else .keep }

def decodeListRanges (b : List Byte) : ListRangesReq where
  session := field b 0 2
  frame := field b 2 4
  range := field b 6 2
  stateFilter := field b 8 1
  test := present (field b 9 1) 0 (field b 10 4)

def decodeConfigureStation (b : List Byte) : ConfigureStationReq where
  station := field b 0 1
  enable := yes (field b 1 1)
  channelSet := field b 2 1
  classSet := field b 3 1
  depth := field b 4 1
  cleared := yes (field b 5 1)
  startAtCore := yes (field b 6 1)
  backspace := field b 7 1
  scanPlay := field b 8 1
  scanStride := field b 9 1
  grace := field b 10 2
  text := textAt b 12 20

/-- A value given as a mark number is read from its low two bytes (R198). -/
def decodeQueueReadback (b : List Byte) : QueueReadbackReq :=
  let startForm := field b 3 1
  let endForm := field b 8 1
  { channel := field b 0 1
    session := field b 1 2
    startForm := startForm
    startValue := if startForm = 0 then field b 4 4 else field b 4 2
    endForm := endForm
    endValue := if endForm = 1 then field b 9 2 else field b 9 4 }

/-- The command of a request whose body has the length its KIND fixes; `none` for an unknown KIND or another length
(R179, R194, R198). -/
def decodeRequest (kind : Nat) (tag : Byte) (b : List Byte) : Option Instr :=
  if requestLength kind = some b.length then
    match kind with
    | 0x01 => some (.identify tag)
    | 0x02 => some (if field b 0 1 = 1 then .resetFull tag else .resetLink tag (field b 0 1))
    | 0x03 => some (.setNoticeMask tag (field b 0 2))
    | 0x10 => some (.openSession tag (decodeOpenSession b))
    | 0x11 => some (.closeSession tag (field b 0 2))
    | 0x12 => some (.sessionInfo tag (field b 0 2))
    | 0x13 => some (.storeInfo tag)
    | 0x14 => some (.configureStore tag (field b 0 2))
    | 0x15 => some (.configureChannel tag (decodeConfigureChannel b))
    | 0x16 => some (.channelInfo tag (field b 0 1))
    | 0x20 => some (.setPlan tag (field b 0 2) (patchAt b 3 (field b 2 1) 0))
    | 0x21 => some (.cutNow tag (field b 0 2))
    | 0x22 => some (.releaseTake tag (field b 0 2) (field b 2 2))
    | 0x23 => some (.takeInfo tag (field b 0 2) (field b 2 2))
    | 0x24 => some (.listTakes tag (decodeListTakes b))
    | 0x28 => some (.queueTake tag (field b 0 2) (field b 2 2))
    | 0x29 => some (.setClass tag (field b 0 2) (field b 2 2) (field b 4 1))
    | 0x2A => some (.recallTake tag (field b 0 2) (field b 2 2))
    | 0x2B => some (.assignTake tag (field b 0 2) (field b 2 2) (field b 4 1))
    | 0x2C => some (.clearHold tag (field b 0 2) (field b 2 2))
    | 0x2D => some (.dispatchInfo tag (field b 0 2))
    | 0x30 => some (.addMark tag (decodeAddMark b))
    | 0x31 => some (.deleteMark tag (field b 0 2) (field b 2 2))
    | 0x32 => some (.listMarks tag (decodeListMarks b))
    | 0x38 => some (.openRange tag (decodeOpenRange b))
    | 0x39 =>
      let stop := field b 4 4
      some (.closeRange tag (field b 0 2) (field b 2 2) (if stop = 0xFFFFFFFF then none else some stop))
    | 0x3A => some (.setRange tag (decodeSetRange b))
    | 0x3B => some (.deleteRange tag (field b 0 2) (field b 2 2))
    | 0x3C => some (.listRanges tag (decodeListRanges b))
    | 0x40 => some (.configureStation tag (decodeConfigureStation b))
    | 0x41 => some (.stationInfo tag (field b 0 1))
    | 0x48 =>
      let r := decodeQueueReadback b
      some (if yes (field b 13 1) then .queueReadbackChain tag r else .queueReadbackPreempt tag r)
    | 0x49 =>
      let scope := field b 1 1
      some (if scope = 0 then .cancelReadbackCurrent tag (field b 0 1)
        else .cancelReadbackAll tag (field b 0 1) scope)
    | 0x4A => some (.configureReadback tag (field b 0 1) (field b 1 1))
    | 0x4B => some (.readbackInfo tag (field b 0 1))
    | 0x50 =>
      let form := field b 2 1
      some (if form = 0 then .fetchAudio tag (field b 0 2) (field b 3 4) (field b 7 4)
        else .fetchAudioContinue tag form (field b 7 4))
    | 0x51 => some (.stopFetch tag)
    | _ => none
  else none

/-! ### The bytes of a request (R197) -/

/-- A presence bit. -/
def bitOf (o : Bool) (bit : Nat) : Nat := if o then 2 ^ bit else 0

/-- The bytes of a plan (R197). -/
def planBytes (p : Plan) : List Byte :=
  u32 p.nominal ++ u16 p.grace ++ u8 p.pause ++ u8 p.softOverlap ++ u16 p.hardOverlap

/-- The plan fields of a patch, 0 where omitted. -/
def PlanPatch.filled (p : PlanPatch) : Plan where
  nominal := p.nominal.getD 0
  grace := p.grace.getD 0
  pause := p.pause.getD 0
  softOverlap := p.softOverlap.getD 0
  hardOverlap := p.hardOverlap.getD 0

/-- The five presence bits of a patch, from `bit` up. -/
def PlanPatch.bits (p : PlanPatch) (bit : Nat) : Nat :=
  bitOf p.nominal.isSome bit + bitOf p.grace.isSome (bit + 1) + bitOf p.pause.isSome (bit + 2)
    + bitOf p.softOverlap.isSome (bit + 3) + bitOf p.hardOverlap.isSome (bit + 4)

/-- A 12-byte text field, zeros where the text is omitted. -/
def textField (t : Option (List Byte)) : List Byte := t.getD (List.replicate 12 0)

def encodeOpenSession (r : OpenSessionReq) : List Byte :=
  u8 r.channel
    ++ u16 (bitOf r.label.isSome 0 + bitOf r.startMode.isSome 1 + bitOf r.dispatchMode.isSome 2
      + bitOf r.takeClass.isSome 3 + bitOf r.stationChoice.isSome 4 + r.plan.bits 5)
    ++ textField r.label ++ u8 (r.startMode.getD 0) ++ u8 (r.dispatchMode.getD 0) ++ u8 (r.takeClass.getD 0)
    ++ u8 (r.stationChoice.getD 0) ++ planBytes r.plan.filled

def encodeConfigureChannel (r : ConfigureChannelReq) : List Byte :=
  u8 r.channel ++ u8 r.ratio ++ u16 r.minimum ++ u8 r.onsetRun ++ u8 r.hangRun ++ u8 r.startMode ++ u8 r.outputMode
    ++ u8 r.polarity.c0 ++ u8 r.polarity.c1 ++ u8 r.polarity.c2 ++ u8 r.polarity.c3
    ++ yesNo r.enable.c0 ++ yesNo r.enable.c1 ++ yesNo r.enable.c2 ++ yesNo r.enable.c3
    ++ u8 r.speakers ++ u8 r.offPlay ++ yesNo r.offReadback ++ yesNo r.offExport ++ u8 r.levelPeriod
    ++ planBytes r.plan

def encodeListTakes (r : ListTakesReq) : List Byte :=
  u16 r.session ++ u8 r.scope ++ u16 r.first ++ u8 r.dispatchFilter ++ u8 r.captureFilter

def encodeAddMark (r : AddMarkReq) : List Byte :=
  u16 r.session ++ u32 r.frame ++ u8 r.kind ++ u8 (bitOf r.tag.isSome 0 + bitOf r.speaker.isSome 1)
    ++ textField r.tag ++ u8 (r.speaker.getD 0)

def encodeListMarks (r : ListMarksReq) : List Byte :=
  u16 r.session ++ u32 r.frame ++ u16 r.mark ++ u8 r.kindFilter ++ u8 r.sourceFilter

def encodeOpenRange (r : OpenRangeReq) : List Byte :=
  u16 r.session ++ u32 r.start ++ u8 (bitOf r.stop.isSome 0 + bitOf r.label.isSome 1) ++ u32 (r.stop.getD 0)
    ++ u8 r.play ++ yesNo r.readback ++ yesNo r.exportable ++ textField r.label

def encodeSetRange (r : SetRangeReq) : List Byte :=
  u16 r.session ++ u16 r.range
    ++ u8 (bitOf r.play.isSome 0 + bitOf r.readback.isSome 1 + bitOf r.exportable.isSome 2
      + (match r.label with | .keep => 0 | .replace _ => 8 | .remove => 16))
    ++ u8 (r.play.getD 0) ++ yesNo (r.readback.getD false) ++ yesNo (r.exportable.getD false)
    ++ (match r.label with | .replace t => t | .keep | .remove => List.replicate 12 0)

def encodeListRanges (r : ListRangesReq) : List Byte :=
  u16 r.session ++ u32 r.frame ++ u16 r.range ++ u8 r.stateFilter ++ u8 (bitOf r.test.isSome 0) ++ u32 (r.test.getD 0)

def encodeConfigureStation (r : ConfigureStationReq) : List Byte :=
  u8 r.station ++ yesNo r.enable ++ u8 r.channelSet ++ u8 r.classSet ++ u8 r.depth ++ yesNo r.cleared
    ++ yesNo r.startAtCore ++ u8 r.backspace ++ u8 r.scanPlay ++ u8 r.scanStride ++ u16 r.grace ++ r.text

def encodeQueueReadback (r : QueueReadbackReq) (chain : Bool) : List Byte :=
  u8 r.channel ++ u16 r.session ++ u8 r.startForm ++ u32 r.startValue ++ u8 r.endForm ++ u32 r.endValue ++ yesNo chain

/-- The request a request command is: KIND, TAG and body (R194, R197); `none` for an event. -/
def Instr.request : Instr → Option Request
  | .requestUnknownKind tag kind body => some ⟨kind, tag, body⟩
  | .identify tag => some ⟨0x01, tag, []⟩
  | .resetLink tag scope => some ⟨0x02, tag, u8 scope⟩
  | .resetFull tag => some ⟨0x02, tag, u8 1⟩
  | .setNoticeMask tag mask => some ⟨0x03, tag, u16 mask⟩
  | .openSession tag r => some ⟨0x10, tag, encodeOpenSession r⟩
  | .closeSession tag n => some ⟨0x11, tag, u16 n⟩
  | .sessionInfo tag n => some ⟨0x12, tag, u16 n⟩
  | .storeInfo tag => some ⟨0x13, tag, []⟩
  | .configureStore tag m => some ⟨0x14, tag, u16 m⟩
  | .configureChannel tag r => some ⟨0x15, tag, encodeConfigureChannel r⟩
  | .channelInfo tag c => some ⟨0x16, tag, u8 c⟩
  | .setPlan tag n p => some ⟨0x20, tag, u16 n ++ u8 (p.bits 0) ++ planBytes p.filled⟩
  | .cutNow tag n => some ⟨0x21, tag, u16 n⟩
  | .releaseTake tag n t => some ⟨0x22, tag, u16 n ++ u16 t⟩
  | .takeInfo tag n t => some ⟨0x23, tag, u16 n ++ u16 t⟩
  | .listTakes tag r => some ⟨0x24, tag, encodeListTakes r⟩
  | .queueTake tag n t => some ⟨0x28, tag, u16 n ++ u16 t⟩
  | .setClass tag n t k => some ⟨0x29, tag, u16 n ++ u16 t ++ u8 k⟩
  | .recallTake tag n t => some ⟨0x2A, tag, u16 n ++ u16 t⟩
  | .assignTake tag n t st => some ⟨0x2B, tag, u16 n ++ u16 t ++ u8 st⟩
  | .clearHold tag n t => some ⟨0x2C, tag, u16 n ++ u16 t⟩
  | .dispatchInfo tag p => some ⟨0x2D, tag, u16 p⟩
  | .addMark tag r => some ⟨0x30, tag, encodeAddMark r⟩
  | .deleteMark tag n m => some ⟨0x31, tag, u16 n ++ u16 m⟩
  | .listMarks tag r => some ⟨0x32, tag, encodeListMarks r⟩
  | .openRange tag r => some ⟨0x38, tag, encodeOpenRange r⟩
  | .closeRange tag n g stop => some ⟨0x39, tag, u16 n ++ u16 g ++ opt32 stop⟩
  | .setRange tag r => some ⟨0x3A, tag, encodeSetRange r⟩
  | .deleteRange tag n g => some ⟨0x3B, tag, u16 n ++ u16 g⟩
  | .listRanges tag r => some ⟨0x3C, tag, encodeListRanges r⟩
  | .configureStation tag r => some ⟨0x40, tag, encodeConfigureStation r⟩
  | .stationInfo tag n => some ⟨0x41, tag, u8 n⟩
  | .queueReadbackChain tag r => some ⟨0x48, tag, encodeQueueReadback r true⟩
  | .queueReadbackPreempt tag r => some ⟨0x48, tag, encodeQueueReadback r false⟩
  | .cancelReadbackCurrent tag c => some ⟨0x49, tag, u8 c ++ u8 0⟩
  | .cancelReadbackAll tag c scope => some ⟨0x49, tag, u8 c ++ u8 scope⟩
  | .configureReadback tag c k => some ⟨0x4A, tag, u8 c ++ u8 k⟩
  | .readbackInfo tag c => some ⟨0x4B, tag, u8 c⟩
  | .fetchAudio tag n p k => some ⟨0x50, tag, u16 n ++ u8 0 ++ u32 p ++ u32 k⟩
  | .fetchAudioContinue tag form k => some ⟨0x50, tag, u16 0 ++ u8 form ++ u32 0 ++ u32 k⟩
  | .stopFetch tag => some ⟨0x51, tag, []⟩
  | .pinReset .. | .startupComplete | .messageReceived _ | .messageBadLength _ | .messageTimeout | .replySent
  | .noticeSent | .dataSent | .fetchEndSent | .frameCompleted .. | .inputLossTimerExpiry _ | .lostFrameTick _
  | .inputReturned .. | .channelOutputFrameTime _ | .keypadPressAccepted .. | .keypadReleaseAccepted ..
  | .captureTransferEnd | .stationPacketInvalid .. | .stationPacketTimeout .. | .stationLineBreak .. | .alive ..
  | .playPedal .. | .fwdPedal .. | .backPedal .. | .doneKey .. | .returnKey .. | .readyKey .. | .noteKey ..
  | .keyUnknown .. | .stationLinkLost _ | .reclaimTimerExpiry _ | .stationFrameTime _ | .stateRefreshTimer _
  | .statePacketSent _ | .audioPacketSent _ | .stationReaderTransferEnd | .readbackReaderTransferEnd
  | .exportReaderTransferEnd | .refreshDueTime | .refreshBurstEnd | .keySample .. | .startByte | .invalidByte => none

/-- The command that answers a taken request: its own row, or REQUEST_UNKNOWN_KIND (R179). -/
def answeringInstr (r : Request) : Option Instr :=
  if requestLength r.kind = none then some (.requestUnknownKind r.tag r.kind r.body)
  else decodeRequest r.kind r.tag r.body

/-! ### Station packets (R126, R201, R202) -/

/-- Body bytes of an upstream packet kind (R201). -/
def packetLength : Byte → Option Nat
  | 0x11 => some 2
  | 0x12 => some 1
  | _ => none

/-- The command of a key code and action (R201, R202). -/
def decodeKey (n : StationId) (code action : Byte) : Instr :=
  if action = 0 ∨ action = 1 then
    let press := decide (action = 1)
    match code with
    | 0x01 => .playPedal n press
    | 0x02 => .fwdPedal n press
    | 0x03 => .backPedal n press
    | 0x10 => .doneKey n press
    | 0x11 => .returnKey n press
    | 0x12 => .readyKey n press
    | 0x13 => .noteKey n press
    | _ => .keyUnknown n code action
  else .keyUnknown n code action

/-- The packet that the bytes received since the search for a start byte began are cut into: the bytes after the first
0xB5; `none` while the port still searches (R126). -/
def packetOf (received : List Byte) : Option (List Byte) :=
  match received.dropWhile fun b => decide (b ≠ 0xB5) with
  | _ :: packet => some packet
  | [] => none

/-- A packet with these bytes after its start byte is still being received. -/
def packetOpen : List Byte → Bool
  | [] => true
  | kind :: rest =>
    match packetLength kind with
    | some len => decide (rest.length < len + 2)
    | none => false

/-- A packet with these bytes after its start byte is discarded at the last of them: its kind is no upstream kind, or it is
whole and its check does not agree. -/
def packetBad : List Byte → Bool
  | [] => false
  | kind :: rest =>
    match packetLength kind with
    | some len => decide (rest.length = len + 2) && decide (rest.drop len ≠ checkBytes (kind :: rest.take len))
    | none => rest.isEmpty

/-- A packet is being received after these bytes. -/
def receivingPacket (received : List Byte) : Bool := (packetOf received).any packetOpen

/-- The last of these bytes makes the packet they are cut into one to discard. -/
def receivedBad (received : List Byte) : Bool := (packetOf received).any packetBad

/-- The command of a packet body, for the body length its kind fixes. -/
def decodeBody (n : StationId) : List Byte → Option Instr
  | [model] => some (.alive n model)
  | [code, action] => some (decodeKey n code action)
  | _ => none

/-- The command that the last of a packet's bytes after its start byte brings for station `n`: what a valid packet does, or
STATION_PACKET_INVALID; `none` while the packet is not whole, and after its discard. -/
def decodePacket (n : StationId) (packet : List Byte) : Option Instr :=
  if packetBad packet then some (.stationPacketInvalid ⟨n, 0xB5 :: packet⟩ false)
  else
    match packet with
    | [] => none
    | kind :: rest =>
      match packetLength kind with
      | some len => if rest.length = len + 2 then decodeBody n (rest.take len) else none
      | none => none

end Sys2Proof
end

