-- ==== Sys2Proof/Machine/Flags.lean ====
section
/-! DEFINITION. The conditions the rules compute from the state: the category and the permissions of a frame, counts of
the tables, the standing of stations, the store condition, the detector's tests, where a cursor lands. -/

namespace Sys2Proof.Machine

/-! ### Looking things up -/

def State.session? (s : State) (n : Nat) : Option Session := s.sessions.find? fun x => x.number = n

def State.take? (s : State) (r : TakeRef) : Option Take :=
  s.takes.find? fun t => t.session = r.session ∧ t.number = r.number

def State.mark? (s : State) (session number : Nat) : Option Mark :=
  s.marks.find? fun m => m.session = session ∧ m.number = number

def State.range? (s : State) (session number : Nat) : Option Range :=
  s.ranges.find? fun g => g.session = session ∧ g.number = number

/-- The name of a take record. -/
def Take.ref (t : Take) : TakeRef := ⟨t.session, t.number⟩

/-- The session open on a channel, as its entry. -/
def State.channelSession? (s : State) (c : ChannelId) : Option Session :=
  match (s.channels.get c).session with
  | some n => s.session? n
  | none => none

/-- The chain of a session, front first (R32). -/
def Store.chain (st : Store) (n : Nat) : List ChainBlock :=
  match st.chains.find? fun k => k.owner = n with
  | some k => k.blocks
  | none => []

/-- The owner, first frame, frames held and next block of a block: its entry in the block map (R31); `none` is FREE. -/
def Store.mapEntry (st : Store) (b : Nat) : Option (Nat × Nat × Nat × Option Nat) :=
  st.chains.findSome? fun k =>
    match k.blocks.dropWhile fun e => e.block ≠ b with
    | e :: rest => some (k.owner, e.first, e.held, rest.head?.map (·.block))
    | [] => none

/-! ### Counts -/

/-- Records of the take table in use (R46). -/
def State.takesInUse (s : State) : Nat := s.takes.length

/-- Reserved take records (R46). -/
def State.takesReserved (s : State) : Nat := s.sessions.countP fun x => x.reserved

/-- Free take records (R46). -/
def State.takesFree (s : State) : Nat := Config.takeRecords - (s.takesInUse + s.takesReserved)

/-- Unreleased takes of a session. -/
def State.takesOf (s : State) (n : Nat) : List Take := s.takes.filter fun t => t.session = n

/-- Marks of a session, in the order of R74. -/
def State.marksOf (s : State) (n : Nat) : List Mark := s.marks.filter fun m => m.session = n

/-- Ranges of a session, in the order of R90. -/
def State.rangesOf (s : State) (n : Nat) : List Range := s.ranges.filter fun g => g.session = n

/-- The open range count of a session (R90). -/
def State.openRanges (s : State) (n : Nat) : Nat := (s.rangesOf n).countP fun g => g.stop.isNone

/-! ### Frames (R40) -/

/-- A block covers a frame. -/
def ChainBlock.covers (b : ChainBlock) (f : Nat) : Bool := decide (b.first ≤ f) && decide (f < b.first + b.held)

/-- The block and slot that hold a frame of a session (R31, R40). -/
def Store.place? (st : Store) (n f : Nat) : Option (Nat × Nat) :=
  match (st.chain n).find? fun b => b.covers f with
  | some b => some (b.block, f - b.first)
  | none => none

/-- The category of a frame of a session: the tests of R40 in order. -/
def State.category (s : State) (x : Session) (f : Nat) : Category :=
  match x.firstStored with
  | none => .unstored
  | some first =>
    if f < first then .unstored
    else if decide (f < x.trimPoint.getD 0) then .trimmed
    else
      match x.storedHead with
      | none => .notYet
      | some head =>
        if head < f then .notYet
        else if (s.store.place? x.number f).isSome then .present
        else .lost

/-! ### Record ranges (R91 to R93) -/

/-- A range covers a frame (R91): from its start through the arrived head, and, once closed, through its end.  A frame above the
arrived head is covered from its arrival, by an open range and by a closed one. -/
def Range.covers (g : Range) (arrived : Option Nat) (f : Nat) : Bool :=
  decide (g.start ≤ f) && (arrived.any fun h => decide (f ≤ h)) && (g.stop.all fun e => decide (f ≤ e))

/-- The ranges of a session that cover a frame. -/
def State.covering (s : State) (x : Session) (f : Nat) : List Range :=
  (s.rangesOf x.number).filter fun g => g.covers x.arrivedHead f

/-- The more restrictive of two PLAY permissions (R93). -/
def PlayPermission.restrict : PlayPermission → PlayPermission → PlayPermission
  | .none, _ => .none
  | _, .none => .none
  | .cleared, _ => .cleared
  | _, .cleared => .cleared
  | .all, .all => .all

/-- Effective PLAY (R93). -/
def State.effectivePlay (s : State) (x : Session) (f : Nat) : PlayPermission :=
  (s.covering x f).foldl (fun p g => p.restrict g.play) .all

/-- Effective READBACK (R93). -/
def State.effectiveReadback (s : State) (x : Session) (f : Nat) : Bool := (s.covering x f).all fun g => g.readback

/-- Effective EXPORT (R93). -/
def State.effectiveExport (s : State) (x : Session) (f : Nat) : Bool := (s.covering x f).all fun g => g.exportable

/-- READBACK as stored beside a PLAY permission: no whenever PLAY is NONE (R92). -/
def storedReadback (p : PlayPermission) (readback : Bool) : Bool := readback && decide (p ≠ .none)

/-! ### Takes -/

/-- The arrived head of a session, as the take controller reads it. -/
def State.arrivedOf (s : State) (n : Nat) : Option Nat :=
  match s.session? n with
  | some x => x.arrivedHead
  | none => none

/-- A core length `f - core + 1`, taken as 0 when `f` is absent or below the core start (R55, R71). -/
def coreLength (core : Nat) (f : Option Nat) : Nat :=
  match f with
  | some f => f + 1 - core
  | none => 0

/-- Frames from the new core start to `f` at a soft cut: P / 2 rounded up (R52). -/
def halfPause (p : Nat) : Nat := (p + 1) / 2

/-- The lead-in start of a take opened at a cut (R58). -/
def leadInAt (c overlap closingLeadIn firstStored : Nat) : Nat := max (max (c - overlap) (closingLeadIn + 1)) firstStored

/-! ### Plans (R19, R24, R50) -/

def clampNominal (n : Nat) : Nat := clamp 625 112500 n
def clampGrace (n : Nat) : Nat := clamp 0 37500 n
def clampPause (n : Nat) : Nat := clamp 4 250 n
def clampSoft (n : Nat) : Nat := clamp 0 250 n
def clampHard (n : Nat) : Nat := clamp 0 625 n

/-- A plan with every field clamped. -/
def clampPlan (p : Plan) : Plan where
  nominal := clampNominal p.nominal
  grace := clampGrace p.grace
  pause := clampPause p.pause
  softOverlap := clampSoft p.softOverlap
  hardOverlap := clampHard p.hardOverlap

/-- The plan fields a request gives, each clamped to its range (R24, R50). -/
def clampPatch (r : PlanPatch) : PlanPatch where
  nominal := r.nominal.map clampNominal
  grace := r.grace.map clampGrace
  pause := r.pause.map clampPause
  softOverlap := r.softOverlap.map clampSoft
  hardOverlap := r.hardOverlap.map clampHard

/-- A plan with the fields a request gives replaced (R24, R50). -/
def applyPatch (r : PlanPatch) (p : Plan) : Plan where
  nominal := r.nominal.getD p.nominal
  grace := r.grace.getD p.grace
  pause := r.pause.getD p.pause
  softOverlap := r.softOverlap.getD p.softOverlap
  hardOverlap := r.hardOverlap.getD p.hardOverlap

/-! ### Channels -/

/-- The frame being assembled: the arrived head plus 1, or 0 (R15, R85). -/
def nextFrame (arrived : Option Nat) : Nat :=
  match arrived with
  | some h => h + 1
  | none => 0

/-- The channel numbers and analyses frames (R1). -/
def ChannelPhase.taking : ChannelPhase → Bool
  | .armed | .recording => true
  | .off | .closing => false

/-- An entry with samples (R166). -/
def CaptureEntry.hasSamples : CaptureEntry → Bool
  | .ordinary .. | .preRoll .. => true
  | .lost .. => false

def CaptureEntry.isOrdinary : CaptureEntry → Bool
  | .ordinary .. => true
  | .preRoll .. | .lost .. => false

def CaptureEntry.isPreRoll : CaptureEntry → Bool
  | .preRoll .. => true
  | .ordinary .. | .lost .. => false

/-- The level of a frame (R9): the mean of the absolute values of its samples. -/
def frameLevel (samples : List Sample) : Nat := (samples.map fun x => x.toInt.natAbs).sum / 256

/-- The voiced test (R10), on the noise floor before its update. -/
def isVoiced (cfg : ChannelConfig) (floor level : Nat) : Bool :=
  decide (cfg.ratio * floor ≤ 8 * level) && decide (cfg.minimum ≤ level)

/-- The noise floor after a frame (R11). -/
def nextFloor (floor level : Nat) : Nat :=
  clamp 8 8192 (if level < floor then floor - max 1 ((floor - level) >>> 3) else if floor < level then floor + 1 else floor)

/-- Stage 4 of the detector (R12). -/
def Detector.runs (cfg : ChannelConfig) (d : Detector) (voiced : Bool) : Detector :=
  let vr := if voiced then min 65535 (d.voicedRun + 1) else 0
  let q := if voiced then 0 else min 65535 (d.quietRun + 1)
  let phase :=
    match d.phase with
    | .quiet => if cfg.onsetRun ≤ vr then .speech else .quiet
    | .speech => if cfg.hangRun ≤ q then .quiet else .speech
  { d with voicedRun := vr, quietRun := q, phase := phase }

/-- The detector on one frame (R9 to R13): a frame without samples skips stages 1 to 3 and counts as unvoiced. -/
def Detector.analyse (cfg : ChannelConfig) (d : Detector) (samples : Option (List Sample)) : Detector :=
  match samples with
  | some l =>
    let level := frameLevel l
    let voiced := isVoiced cfg d.floor level
    { d with floor := nextFloor d.floor level, lastLevel := some level }.runs cfg voiced
  | none => d.runs cfg false

/-! ### The store condition (R36) -/

def storeCondition (free lowMark : Nat) : StoreCondition :=
  if free = 0 then .exhausted else if free ≤ lowMark then .low else .normal

/-! ### Stations -/

/-- The station wants work (R109). -/
def Station.wanting (st : Station) : Bool :=
  st.config.enable && decide (st.link = .present) && st.accepting && decide (st.takes.length < st.config.depth)

/-- Station `n` is eligible for a take (R109). -/
def Station.eligible (st : Station) (n : StationId) (t : Take) : Bool :=
  st.config.channelSet.getLsbD t.channel.val && st.config.classSet.getLsbD t.takeClass.code
    && decide (t.excluded ≠ some n)

/-- A frame with this effective PLAY is playable by the station (R134). -/
def Station.mayPlay (st : Station) (p : PlayPermission) : Bool :=
  match p with
  | .all => true
  | .cleared => st.config.cleared
  | .none => false

/-- The frame is playable by the station (R134). -/
def State.playable (s : State) (st : Station) (x : Session) (f : Nat) : Bool := st.mayPlay (s.effectivePlay x f)

/-- The upper bound of a take (R133). -/
def upperBound (x : Session) (t : Take) : Nat :=
  match t.stop with
  | some e => e
  | none => max t.leadIn (x.storedHead.getD t.leadIn)

/-- The first of `fuel` numbers from `g` up that satisfies `p`. -/
def firstUp (p : Nat → Bool) (g : Nat) : Nat → Option Nat
  | 0 => none
  | k + 1 => if p g then some g else firstUp p (g + 1) k

/-- The first of `fuel` numbers from `g` down that satisfies `p`. -/
def firstDown (p : Nat → Bool) (g : Nat) : Nat → Option Nat
  | 0 => none
  | k + 1 => if p g then some g else firstDown p (g - 1) k

/-- A forward landing on `g` (R134). -/
def landForward (p : Nat → Bool) (ub g : Nat) : Nat := (firstUp p g (ub + 1 - g)).getD ub

/-- A backward landing on `g` (R134). -/
def landBackward (p : Nat → Bool) (start ub g : Nat) : Nat :=
  match firstDown p g (g + 1 - start) with
  | some f => f
  | none => (firstUp p (g + 1) (ub - g)).getD ub

/-- The start position of a take before its landing (R132). -/
def startPosition (cfg : StationConfig) (x : Session) (t : Take) : Nat :=
  if cfg.startAtCore then
    if t.stop.isNone && decide (x.storedHead.getD 0 < t.core) then max t.leadIn (x.storedHead.getD t.leadIn) else t.core
  else t.leadIn

/-- The transport the governing pedal, the last of the held-pedal order, calls for (R135). -/
def wantedTransport (pedals : List Pedal) : Transport :=
  match pedals.getLast? with
  | some .play => .playing
  | some .fwd => .scanFwd
  | some .back => .scanBack
  | none => .stopped

/-! ### Read-back -/

/-- The outstanding count of a unit (R160). -/
def Readback.outstanding (u : Readback) : Nat := u.pending.length + (if u.current.isSome then 1 else 0)

/-- The link rate the straps LRT1, LRT0 select, in Mbit/s (00_scope, Pins). -/
def strapRate (lrt1 lrt0 : Bool) : Nat :=
  if lrt1 then (if lrt0 then 6 else 4) else (if lrt0 then 2 else 1)

/-- The block count the straps MSZ1, MSZ0 select (00_scope, Store size). -/
def strapBlocks (msz1 msz0 : Bool) : Nat :=
  if msz1 then (if msz0 then 16384 else 8192) else (if msz0 then 4096 else 2048)

end Sys2Proof.Machine
end

