-- ==== Sys2Proof/Machine/Ops.lean ====
section
/-! DEFINITION. The named operations every block uses: one update per component of the state, the bytes of the audio
store, and the recording of notices (R182). -/

namespace Sys2Proof.Machine

/-! ### Updates -/

def State.modChannel (s : State) (c : ChannelId) (f : Channel → Channel) : State :=
  { s with channels := s.channels.set c (f (s.channels.get c)) }

def State.modStation (s : State) (n : StationId) (f : Station → Station) : State :=
  { s with stations := s.stations.set n (f (s.stations.get n)) }

def State.modReadback (s : State) (c : ChannelId) (f : Readback → Readback) : State :=
  { s with readback := s.readback.set c (f (s.readback.get c)) }

def State.modLink (s : State) (f : Link → Link) : State := { s with link := f s.link }

def State.modStore (s : State) (f : Store → Store) : State := { s with store := f s.store }

def State.modArbiter (s : State) (f : Arbiter → Arbiter) : State := { s with arbiter := f s.arbiter }

def State.modExporter (s : State) (f : Exporter → Exporter) : State := { s with exporter := f s.exporter }

/-- The entry of session `n` changed. -/
def State.modSession (s : State) (n : Nat) (f : Session → Session) : State :=
  { s with sessions := s.sessions.map fun x => if x.number = n then f x else x }

/-- The record of a take changed. -/
def State.modTake (s : State) (r : TakeRef) (f : Take → Take) : State :=
  { s with takes := s.takes.map fun t => if t.session = r.session ∧ t.number = r.number then f t else t }

def State.setMarks (s : State) (l : List Mark) : State := { s with marks := l }

def State.setRanges (s : State) (l : List Range) : State := { s with ranges := l }

def State.setQueue (s : State) (l : List TakeRef) : State := { s with queue := l }

def State.setTakes (s : State) (l : List Take) : State := { s with takes := l }

def State.setSessions (s : State) (l : List Session) : State := { s with sessions := l }

/-- An element inserted before the first one it does not follow. -/
def insertBy {α : Type} (before : α → α → Bool) (a : α) : List α → List α
  | [] => [a]
  | b :: rest => if before a b then a :: b :: rest else b :: insertBy before a rest

/-! ### The bytes of the audio store (R31) -/

/-- The byte at an address; `none` where nothing has written it. -/
def readByte : AudioMemory → Nat → Option Byte
  | [], _ => none
  | (k, v) :: rest, a => if k = a then some v else readByte rest a

/-- A byte written, in rising address order. -/
def writeByte : AudioMemory → Nat → Byte → AudioMemory
  | [], a, b => [(a, b)]
  | (k, v) :: rest, a, b =>
    if a < k then (a, b) :: (k, v) :: rest
    else if a = k then (a, b) :: rest
    else (k, v) :: writeByte rest a b

/-- Bytes written from an address up. -/
def writeBytes (m : AudioMemory) (a : Nat) : List Byte → AudioMemory
  | [] => m
  | b :: bs => writeBytes (writeByte m a b) (a + 1) bs

/-- Bytes read from an address up; `none` if any of them was never written. -/
def readBytes (m : AudioMemory) (a : Nat) : Nat → Option (List Byte)
  | 0 => some []
  | k + 1 =>
    match readByte m a, readBytes m (a + 1) k with
    | some b, some bs => some (b :: bs)
    | _, _ => none

/-- Every key of the memory is above `lo`, in strictly rising order. -/
def risingFrom : Option Nat → AudioMemory → Bool
  | _, [] => true
  | none, (k, _) :: rest => risingFrom (some k) rest
  | some lo, (k, _) :: rest => decide (lo < k) && risingFrom (some k) rest

/-- The canonical form: addresses strictly rising.  An unlisted address reads as no value, so no entry repeats it. -/
def Memory.wf (m : AudioMemory) : Bool := risingFrom none m

/-- The byte offset of a slot of a block (R31). -/
def slotAddress (block slot : Nat) : Nat := block * Config.blockBytes + slot * Config.frameBytes

/-- The slot lies in the store. -/
def Store.holds (st : Store) (block slot : Nat) : Bool :=
  decide (block < st.blocks) && decide (slot < Config.blockSlots)

/-- A frame written to its slot. -/
def Store.writeFrame (st : Store) (block slot : Nat) (samples : List Sample) : Store :=
  { st with mem := writeBytes st.mem (slotAddress block slot) (samplesBytes samples) }

/-- The frame in a slot. -/
def Store.readFrame (st : Store) (block slot : Nat) : Option (List Sample) :=
  (readBytes st.mem (slotAddress block slot) Config.frameBytes).map bytesSamples

/-! ### Notices (R182) -/

/-- The contents of a DEVICE notice: event, reset cause, block count, link rate, revision, dropped count (R182, R184,
R200). -/
def startedContents (s : State) : List Byte :=
  u8 0 ++ u8 s.link.resetCause.code ++ u16 s.store.blocks ++ u8 s.link.rate ++ [Config.revision] ++ u16 0

def overflowContents (dropped : Nat) : List Byte := u8 1 ++ opt8 none ++ opt16 none ++ opt8 none ++ opt8 none ++ u16 dropped

/-- An entry of the same kind and subject takes new contents and raises its merged count. -/
def mergeNotice (k : NoticeKind) (sub : Subject) (contents : List Byte) (n : Notice) : Notice :=
  if n.kind = k ∧ n.subject = sub then { n with contents := contents, merged := min 65535 (n.merged + 1) } else n

/-- A notice recorded in the set, whatever the mask: merged with an entry of its kind and subject, or as the newest
entry. -/
def Link.merge (l : Link) (k : NoticeKind) (sub : Subject) (contents : List Byte) : Link :=
  if l.notices.any fun n => n.kind = k ∧ n.subject = sub then
    { l with notices := l.notices.map (mergeNotice k sub contents) }
  else { l with notices := l.notices ++ [⟨k, sub, 0, contents⟩] }

/-- A notice raised: dropped while its kind is masked; merged, recorded, or dropped with an OVERFLOW notice (R182,
R183). -/
def Link.raise (l : Link) (k : NoticeKind) (sub : Subject) (contents : List Byte) : Link :=
  if l.mask.getLsbD k.code then
    if (l.notices.any fun n => n.kind = k ∧ n.subject = sub) || decide (k = .device)
        || decide ((l.notices.countP fun n => n.kind ≠ .device) < Config.noticeEntries) then
      l.merge k sub contents
    else
      let dropped := min 65535 (l.dropped + 1)
      { l with dropped := dropped }.merge .device .whole (overflowContents dropped)
  else l

def State.raise (s : State) (k : NoticeKind) (sub : Subject) (contents : List Byte) : State :=
  s.modLink fun l => l.raise k sub contents

end Sys2Proof.Machine
end

