-- ==== Sys2Proof/Machine/StationPort.lean ====
section
/-! DEFINITION. The station port: its cursor, transport and playout FIFO (R131 to R140), the frames its reader handles
(R140), the packets of its line (R147, R201), and the STATION notice (R149). -/

namespace Sys2Proof.Machine

/-- The current take of a station, the head of its list, with its session (R131). -/
def State.currentOf (s : State) (n : StationId) : Option (Take × Session) :=
  match (s.stations.get n).takes.head? with
  | some r =>
    match s.take? r, s.session? r.session with
    | some t, some x => some (t, x)
    | _, _ => none
  | none => none

/-! ### STATION notices (R149) -/

/-- Events of a STATION notice, in the order of R149. -/
inductive StationEvent where
  | present | lost | absent | enabled | disabled | accepting | underrun
deriving DecidableEq, Repr

def StationEvent.code : StationEvent → Nat
  | .present => 0 | .lost => 1 | .absent => 2 | .enabled => 3 | .disabled => 4 | .accepting => 5 | .underrun => 6

/-- The contents of a STATION notice (R149); `remaining` is the grace remaining at LOST, `reclaimed` the takes reclaimed at
ABSENT, in one byte (DESIGN CHOICE, notes/assumptions/13.md). -/
def stationContents (n : StationId) (st : Station) (e : StationEvent) (remaining reclaimed : Option Nat) : List Byte :=
  u8 n.val ++ u8 e.code ++ yesNo st.config.enable ++ u8 st.link.code ++ yesNo st.accepting
    ++ opt16 (st.model.map (·.toNat)) ++ u8 st.takes.length
    ++ num16 (st.takes.head?.map (·.session)) ++ num16 (st.takes.head?.map (·.number))
    ++ u8 st.transport.code ++ u16 st.underruns ++ u16 st.badPackets ++ opt16 remaining ++ opt8 reclaimed

def State.raiseStation (s : State) (n : StationId) (e : StationEvent) (remaining reclaimed : Option Nat) : State :=
  s.raise .station (.station n) (stationContents n (s.stations.get n) e remaining reclaimed)

/-! ### The playout FIFO and the motion of the cursor -/

/-- A transfer in flight for a client whose FIFO is emptied will be discarded (R171). -/
def State.killGrant (s : State) (client : Client) : State :=
  s.modArbiter fun a =>
    { a with grant := a.grant.map fun g => if g.client = client then { g with live := false } else g }

/-- The playout FIFO emptied (R140): entries discarded, the transfer in flight orphaned, the frame timer restarted. -/
def State.emptyPlayout (s : State) (n : StationId) : State :=
  (s.killGrant (.station n)).modStation n fun st =>
    { st with fifo := [], resting := false, cycle := none, reader := .stopped, fetch := none, frameTimer := some 0 }

/-- The cursor lands on a frame that is not yet played. -/
def Station.landOn (st : Station) (f : Nat) : Station := { st with cursor := some f, cursorPlayed := false }

/-- A scan move takes effect after the last frame fetched, or at once when nothing is buffered (R138, R139). -/
def Station.takeMove (st : Station) (land : Nat) : Station :=
  match st.fifo.reverse with
  | [] => st.landOn land
  | e :: rest => { st with fifo := (({ e with move := some land }) :: rest).reverse }

/-- The scan parks at a frame (R138, R139).  DESIGN CHOICE: the fetch position stays as the reader left it
(notes/assumptions/61.md). -/
def Station.park (st : Station) (f : Nat) : Station :=
  { st.landOn f with parked := true, cycle := none, reader := .stopped }

/-- A forward scan cycle begins at `g` (R138); with X = 0 the reader has no frame to handle.  DESIGN CHOICE: the window ends at
the upper bound as it stands here, and does not grow with it (notes/assumptions/56.md); with X = 0 the fetch position is the cycle
start (notes/assumptions/61.md). -/
def Station.beginForward (st : Station) (ub g : Nat) : Station :=
  let x := st.config.scanPlay
  { st with
    cycle := some
      { start := g, scanPlay := x, scanStride := st.config.scanStride, windowEnd := min (g + x - 1) ub, last := false,
        cursor := g }
    fetch := some g
    reader := if x = 0 then .stopped else .idle }

/-- A backward scan cycle begins from cursor `p` (R139); with X = 0 the move is made at the frame time.  The window is bounded
and the fetch position set as in a forward scan (notes/assumptions/56.md, 61.md). -/
def Station.beginBackward (st : Station) (playable : Nat → Bool) (start ub p : Nat) : Station :=
  let x := st.config.scanPlay
  let y := st.config.scanStride
  if x = 0 then
    { st with
      cycle := some { start := p, scanPlay := 0, scanStride := y, windowEnd := p, last := false, cursor := p }
      fetch := some p
      reader := .stopped }
  else
    let last := decide (p < start + y)
    let land := landBackward playable start ub (if p < start + y then start else p - y)
    { st.takeMove land with
      cycle := some
        { start := land, scanPlay := x, scanStride := y, windowEnd := min (land + x - 1) ub, last := last, cursor := land }
      fetch := some land
      reader := .idle }

/-- The reader set to the next frame of the station's motion (R137 to R140). -/
def State.beginMotion (s : State) (n : StationId) : State :=
  let st := s.stations.get n
  match s.currentOf n, st.cursor with
  | some (t, x), some c =>
    let playable := s.playable st x
    let ub := upperBound x t
    match st.transport with
    | .stopped => s
    | .playing | .holding =>
      s.modStation n fun st => { st with fetch := some (if st.cursorPlayed then c + 1 else c), reader := .idle }
    | .scanFwd =>
      let g := if st.cursorPlayed then (firstUp playable (c + 1) (ub - c)).getD (ub + 1) else c
      s.modStation n fun st => st.beginForward ub g
    | .scanBack => s.modStation n fun st => st.beginBackward playable t.leadIn ub c
  | _, _ => s

/-- The FIFO emptied and the reader working afresh from the cursor (R140). -/
def State.restartPlayout (s : State) (n : StationId) : State := (s.emptyPlayout n).beginMotion n

/-- The automatic backspace (R136): a backward landing on the cursor minus B, or on the take start. -/
def State.backspace (s : State) (n : StationId) : State :=
  let st := s.stations.get n
  match s.currentOf n, st.cursor with
  | some (t, x), some c =>
    let g := max t.leadIn (c - st.config.backspace)
    let land := landBackward (s.playable st x) t.leadIn (upperBound x t) g
    s.modStation n fun st => st.landOn land
  | _, _ => s

/-- A transport that plays or scans. -/
def Transport.isScan : Transport → Bool
  | .scanFwd | .scanBack => true
  | .stopped | .playing | .holding => false

/-- The backspace due flag after a change of transport (R136). -/
def nextBackspaceDue (old new : Transport) (due : Bool) : Bool :=
  if new.isScan then false
  else if new = .stopped ∧ (old = .playing ∨ old = .holding) then true
  else due

/-- An AUDIO packet that waits is sent only while the transport is not STOPPED (R141, R202). -/
def waitingUnder (t : Transport) (audio : Option (List Sample)) : Option (List Sample) :=
  if t = .stopped then none else audio

/-- A change of transport (R135, R136); no change leaves everything as it stands. -/
def State.setTransport (s : State) (n : StationId) (t : Transport) : State :=
  let st := s.stations.get n
  if st.transport = t then s
  else
    let s := s.modStation n fun st =>
      { st with
        transport := t, parked := false, backspaceDue := nextBackspaceDue st.transport t st.backspaceDue, stateDue := true
        audioWaiting := waitingUnder t st.audioWaiting }
    let s := if st.transport = .stopped ∧ t = .playing ∧ st.backspaceDue then s.backspace n else s
    s.restartPlayout n

/-- A stop by the part (R135). -/
def State.stopByPart (s : State) (n : StationId) : State :=
  (s.setTransport n .stopped).modStation n fun st => { st with stoppedByPart := true }

/-- The last status set (R142). -/
def State.setStatus (s : State) (n : StationId) (e : StationStatus) (mark : Option Nat) : State :=
  s.modStation n fun st => { st with status := e, statusMark := mark, stateDue := true }

/-- The head of the list has become the current take, or the list is empty (R131, R132). -/
def State.newCurrent (s : State) (n : StationId) : State :=
  let s := s.stopByPart n
  let st := s.stations.get n
  let cursor :=
    match s.currentOf n with
    | some (t, x) => some (landForward (s.playable st x) (upperBound x t) (startPosition st.config x t))
    | none => none
  (s.modStation n fun st =>
    { st with cursor := cursor, cursorPlayed := false, backspaceDue := false, stateDue := true }).restartPlayout n

/-- A take leaves a station's list (R107, R131). -/
def State.leaveList (s : State) (n : StationId) (r : TakeRef) : State :=
  let wasCurrent := (s.stations.get n).takes.head? = some r
  let s := s.modStation n fun st => { st with takes := st.takes.erase r, stateDue := true }
  if wasCurrent then s.newCurrent n else s

/-- A take appended to a station's list (R115, R131). -/
def State.joinList (s : State) (n : StationId) (r : TakeRef) : State :=
  let first := (s.stations.get n).takes.isEmpty
  let s := s.modStation n fun st => { st with takes := st.takes ++ [r], stateDue := true }
  if first then s.newCurrent n else s

/-- The reader has gone past frame `e`: it has fetched or asked for a frame above it, or begun a scan cycle there.  With X = 0
and nothing buffered it has fetched nothing and made no move ahead: the scan moves at its frame time (R138). -/
def Station.beyond (st : Station) (e : Nat) : Bool :=
  st.fifo.any (fun p => decide (e < p.frame))
    || (match st.reader with
      | .request f _ _ => decide (e < f)
      | .idle | .waiting | .stopped => false)
    || st.cycle.any fun k => decide (e < k.start) && (decide (k.scanPlay ≠ 0) || !st.fifo.isEmpty)

/-- What stays of a playout FIFO that a cut ends at `e`, with the scan cycle the reader is then in.  A move that led to a
cycle above `e` is undone, to be made again under the new upper bound. -/
def Station.keptUpTo (st : Station) (e : Nat) : List PlayEntry × Option ScanCycle :=
  let kept := st.fifo.takeWhile fun p => decide (p.frame ≤ e)
  let cycle := match (st.fifo.drop kept.length).head? with | some p => p.cycle | none => st.cycle
  match cycle, kept.reverse with
  | some k, p :: rest => if e < k.start then (({ p with move := none } :: rest).reverse, p.cycle) else (kept, cycle)
  | _, _ => (kept, cycle)

/-- Where the cursor will stand once what is buffered has been sent. -/
def Station.sentTo (cursor : Option Nat) (fifo : List PlayEntry) (e : Nat) : Nat :=
  match fifo.getLast? with
  | some p => p.move.getD p.frame
  | none => cursor.getD e

/-- The playout of a station whose take a cut ends at `e`, at or above the cursor: frames above the end are not sent, and
the reader goes on under the new upper bound.  DEDUCED from R133 (notes/assumptions/20.md). -/
def Station.clip (st : Station) (e : Nat) : Station :=
  if st.beyond e then
    let r := st.keptUpTo e
    { st with
      fifo := r.1
      resting := st.resting && decide (2 < r.1.length)
      cycle := r.2.map fun k => { k with windowEnd := min k.windowEnd e, cursor := Station.sentTo st.cursor r.1 e }
      fetch := some (e + 1)
      reader := .idle }
  else { st with cycle := st.cycle.map fun k => { k with windowEnd := min k.windowEnd e } }

def State.clipPlayout (s : State) (n : StationId) (e : Nat) : State :=
  let s := if (s.stations.get n).beyond e then s.killGrant (.station n) else s
  s.modStation n fun st => st.clip e

/-- What a cut does to a station whose current take it closes at `e` (R133). -/
def State.cutStation (s : State) (n : StationId) (e : Nat) : State :=
  match (s.stations.get n).cursor with
  | some c =>
    if e < c then
      let moving := decide ((s.stations.get n).transport ≠ .stopped)
      let s := (s.modStation n fun st => { st with cursor := some e, cursorPlayed := true, stateDue := true }).emptyPlayout n
      if moving then (s.stopByPart n).setStatus n .endOfTake none else s
    else s.clipPlayout n e
  | none => s

/-! ### The reader (R140) -/

/-- An entry joins the playout FIFO; the fourth sets the resting flag (R167). -/
def Station.push (st : Station) (f : Nat) (samples : Option (List Sample)) : Station :=
  let cycle := st.cycle.map fun k => { k with cursor := f }
  let fifo := st.fifo ++ [⟨f, samples, none, cycle⟩]
  { st with
    fifo := fifo
    resting := st.resting || decide (fifo.length = Config.playFifo)
    cycle := cycle
    fetch := some (f + 1)
    reader := .idle }

/-- The head entry leaves the playout FIFO; at two entries or fewer the reader no longer rests (R167). -/
def Station.pop (st : Station) : Station :=
  { st with fifo := st.fifo.tail, resting := st.resting && decide (2 < st.fifo.tail.length) }

/-- The window of a scan cycle has been handled: the move to the next cycle, which the reader may fetch ahead, or the park,
made when the window has been sent (R138, R139).  The station after it, and whether the reader goes on. -/
def Station.nextCycle (st : Station) (playable : Nat → Bool) (start ub : Nat) (k : ScanCycle) : Station × Bool :=
  match st.transport with
  | .scanFwd =>
    if ub < k.start + k.scanStride then (if st.fifo.isEmpty then st.park ub else st, false)
    else
      let land := landForward playable ub (k.start + k.scanStride)
      ((st.takeMove land).beginForward ub land, true)
  | .scanBack =>
    if k.last then (if st.fifo.isEmpty then st.park (landBackward playable start ub start) else st, false)
    else (st.beginBackward playable start ub k.cursor, true)
  | .stopped | .playing | .holding => ({ st with reader := .stopped }, false)

/-- What the reader of a station does with one frame (R140): the station after it, and whether it goes on.  DESIGN CHOICE:
a frame not yet stored that is not playable is skipped at once (notes/assumptions/50.md). -/
def State.handleFrame (s : State) (st : Station) (x : Session) (f : Nat) : Station × Bool :=
  let category := s.category x f
  if st.reader = .waiting ∧ category = .notYet then (st, false)
  else if ¬ s.playable st x f then ({ st with fetch := some (f + 1), skipFlag := true, reader := .idle }, true)
  else
    match category with
    | .present =>
      match s.store.place? x.number f with
      | some (b, slot) => ({ st with reader := .request f b slot }, false)
      | none => (st, false)
    | .lost | .unstored => (st.push f none, true)
    | .notYet => ({ st with reader := .waiting }, false)
    | .trimmed => ({ st with reader := .stopped }, false)

/-- One step of the reader of a station: the station after it, and whether it goes on (R138 to R140). -/
def State.readerStep (s : State) (st : Station) (t : Take) (x : Session) : Station × Bool :=
  match st.reader, st.fetch with
  | .idle, some f | .waiting, some f =>
    match st.transport with
    | .stopped => (st, false)
    | .playing | .holding =>
      if (t.stop.any fun e => decide (e < f)) then ({ st with reader := .stopped }, false)
      else if Config.playFifo ≤ st.fifo.length then (st, false)
      else s.handleFrame st x f
    | .scanFwd | .scanBack =>
      match st.cycle with
      | none => ({ st with reader := .stopped }, false)
      | some k =>
        if k.windowEnd < f then st.nextCycle (s.playable st x) t.leadIn (upperBound x t) k
        else if Config.playFifo ≤ st.fifo.length then (st, false)
        else s.handleFrame st x f
  | _, _ => (st, false)

/-- The steps of a reader until it waits, rests or stops. -/
def State.readerSteps (s : State) (t : Take) (x : Session) : Nat → Station → Station
  | 0, st => st
  | k + 1, st =>
    let r := s.readerStep st t x
    if r.2 then s.readerSteps t x k r.1 else r.1

/-- The reader of station `n` handles frames while it may (R140, R167): the port is enabled, has a current take and is not
STOPPED. -/
def State.runStation (s : State) (n : StationId) : State :=
  let st := s.stations.get n
  if st.config.enable ∧ st.transport ≠ .stopped then
    match s.currentOf n with
    | some (t, x) => s.modStation n fun st => s.readerSteps t x (Config.frameLimit + 16) st
    | none => s
  else s

def State.runStations (s : State) : State := allStations.foldl (fun s n => s.runStation n) s

/-! ### The station line (R147, R201) -/

/-- What a STATE packet shows besides the cursor, in two parts: before and after it (R201). -/
def State.stateHead (s : State) (n : StationId) : List Byte :=
  let st := s.stations.get n
  let t := (s.currentOf n).map (·.1)
  u8 st.link.code ++ yesNo st.config.enable ++ yesNo st.accepting ++ u8 st.transport.code ++ yesNo st.parked
    ++ num16 (st.takes.head?.map (·.session)) ++ num16 (st.takes.head?.map (·.number))
    ++ opt8 (t.map (·.capture.code)) ++ opt8 (t.map (·.dispatch.code)) ++ opt8 (t.map (·.takeClass.code))

def Station.stateTail (st : Station) : List Byte :=
  u8 st.takes.length ++ u8 st.config.depth ++ u8 st.status.code ++ num16 st.statusMark ++ yesNo st.skipFlag ++ st.config.text

/-- The body of a STATE packet (R201). -/
def State.stateBody (s : State) (n : StationId) : List Byte :=
  let st := s.stations.get n
  s.stateHead n ++ opt32 st.cursor ++ yesNo st.cursorPlayed ++ st.stateTail

/-- The contents of the STATE packet of a station have changed, other than by the advance of the cursor during play or a
scan (R147). -/
def State.stateChanged (before s : State) (n : StationId) : Bool :=
  let b := before.stations.get n
  let a := s.stations.get n
  decide (before.stateHead n ≠ s.stateHead n) || decide (b.stateTail ≠ a.stateTail)
    || (decide (b.transport = .stopped) && decide (a.transport = .stopped)
      && (decide (b.cursor ≠ a.cursor) || decide (b.cursorPlayed ≠ a.cursorPlayed)))

/-- The port sends AUDIO: it is enabled and not STOPPED (R129, R202). -/
def Station.sendsAudio (st : Station) : Bool := st.config.enable && decide (st.transport ≠ .stopped)

/-- The next packet of a station line begins when the line is free: a waiting AUDIO packet, if the port still sends AUDIO,
else a due STATE packet (R147, R202).  DESIGN CHOICE: AUDIO goes first where both fall due on a free line in one command
(notes/assumptions/58.md). -/
def Station.startPacket (st : Station) (body : List Byte) : Station :=
  match st.line with
  | some _ => st
  | none =>
    match st.audioWaiting, st.sendsAudio with
    | some a, true => { st with line := some (.audio a), audioWaiting := none }
    | _, _ =>
      if st.stateDue then { st with line := some (.state body st.skipFlag), stateDue := false, audioWaiting := none }
      else { st with audioWaiting := none }

/-- The station lines at the end of a command that began in state `before`; nothing is sent while STARTING (R126, R147). -/
def State.stationLines (before s : State) : State :=
  match s.link.device with
  | .starting => s
  | .ready =>
    allStations.foldl
      (fun r n =>
        r.modStation n fun st =>
          { st with stateDue := st.stateDue || before.stateChanged s n }.startPacket (s.stateBody n)) s

end Sys2Proof.Machine
end

