-- ==== Sys2Proof/Machine/DispatchUnit.lean ====
section
/-! DEFINITION. The dispatch unit: TAKE notices (R70), the dispatch queue (R104 to R106), the matching pass (R111 to R115),
and the reclaim of a station (R118). -/

namespace Sys2Proof.Machine

/-! ### TAKE notices (R70) -/

/-- Events of a TAKE notice, in the order of R70. -/
inductive TakeEvent where
  | opened | closed | discarded | released | dispatch | takeClass
deriving DecidableEq, Repr

def TakeEvent.code : TakeEvent → Nat
  | .opened => 0 | .closed => 1 | .discarded => 2 | .released => 3 | .dispatch => 4 | .takeClass => 5

/-- The contents of a TAKE notice. -/
def takeContents (t : Take) (e : TakeEvent) : List Byte :=
  u16 t.session ++ u16 t.number ++ u8 t.channel.val ++ u8 e.code ++ u32 t.leadIn ++ u32 t.core ++ opt32 t.stop
    ++ u8 t.capture.code ++ opt8 (t.cutKind.map (·.code)) ++ u8 t.dispatch.code ++ u8 t.takeClass.code
    ++ opt8 (t.station.map (·.val)) ++ opt8 (t.lastStation.map (·.val)) ++ opt8 (t.excluded.map (·.val))
    ++ u8 t.returns ++ u32 t.lostFrames ++ yesNo t.readback

/-- A TAKE notice for the take as it stands. -/
def State.raiseTake (s : State) (r : TakeRef) (e : TakeEvent) : State :=
  match s.take? r with
  | some t => s.raise .take (.take r.session r.number) (takeContents t e)
  | none => s

/-! ### The queue (R104, R105) -/

/-- The class of a queued take, as its record stands. -/
def State.classOf (s : State) (r : TakeRef) : Nat :=
  match s.take? r with
  | some t => t.takeClass.code
  | none => TakeClass.regular.code

/-- A take placed at its class tail: behind every take of its class and of more urgent classes. -/
def State.atClassTail (s : State) (r : TakeRef) : State :=
  s.setQueue (insertBy (fun a b => decide (s.classOf a < s.classOf b)) r s.queue)

/-- A take placed at its class head: ahead of its class, behind every more urgent take. -/
def State.atClassHead (s : State) (r : TakeRef) : State :=
  s.setQueue (insertBy (fun a b => decide (s.classOf a ≤ s.classOf b)) r s.queue)

/-- A take leaves the queue; the takes behind it close up (R106). -/
def State.dequeue (s : State) (r : TakeRef) : State := s.setQueue (s.queue.filter fun q => q ≠ r)

/-- The record changes that make a take QUEUED (R65, R105). -/
def Take.enqueue (t : Take) : Take := { t with dispatch := .queued, station := none }

/-- A take becomes QUEUED at its class tail, with its notice. -/
def State.queueTail (s : State) (r : TakeRef) : State := ((s.modTake r Take.enqueue).atClassTail r).raiseTake r .dispatch

/-- A take becomes QUEUED at its class head, with its notice. -/
def State.queueHead (s : State) (r : TakeRef) : State := ((s.modTake r Take.enqueue).atClassHead r).raiseTake r .dispatch

/-! ### The matching pass (R111 to R115) -/

/-- Station `n` is eligible for the take and wanting (R109). -/
def State.mayReceive (s : State) (t : Take) (n : StationId) : Bool :=
  (s.stations.get n).wanting && (s.stations.get n).eligible n t

/-- The stations in the order rotation tries them: after the pointer, round to the pointer itself (R114). -/
def rotationOrder (p : StationId) : List StationId := (allStations.map fun k => p + 1 + k)

/-- The follow station of a take, when its session follows and the station may be given it (R113). -/
def State.followStation (s : State) (t : Take) : Option StationId :=
  match s.session? t.session with
  | some x =>
    if x.stationChoice = .follow then
      match s.take? ⟨t.session, t.number - 1⟩ with
      | some p => p.lastStation.filter fun n => s.mayReceive t n
      | none => none
    else none
  | none => none

/-- The station chosen for a take (R113, R114); `none` when no station is eligible and wanting. -/
def State.chooseStation (s : State) (t : Take) : Option StationId :=
  match (rotationOrder s.rotation).find? fun n => s.mayReceive t n with
  | some byRotation =>
    match s.followStation t with
    | some n => some n
    | none => some byRotation
  | none => none

/-- The first take of the queue with an eligible wanting station, and the station chosen for it (R112, R113). -/
def State.findMatch (s : State) : Option (TakeRef × StationId) :=
  s.queue.findSome? fun r =>
    match s.take? r with
    | some t => (s.chooseStation t).map fun n => (r, n)
    | none => none

/-- A take assigned to a station: the steps of R115 but for the pointer. -/
def State.assign (s : State) (r : TakeRef) (n : StationId) : State :=
  ((((s.dequeue r).modTake r fun t =>
    { t with dispatch := .assigned, station := some n, lastStation := some n }).joinList n r).raiseTake r .dispatch)

/-- A matching pass of at most `fuel` assignments (R111). -/
def State.matching (s : State) : Nat → State
  | 0 => s
  | k + 1 =>
    match s.findMatch with
    | some (r, n) => State.matching { s.assign r n with rotation := n } k
    | none => s

/-- The matching pass: at most 32 assignments, since each raises one of eight list counts of at most 4. -/
def State.matchingPass (s : State) : State := s.matching 32

/-- A matching pass that runs when station `n` is wanting after its list count has fallen (R107, R110). -/
def State.passIfWanting (s : State) (n : StationId) : State := if (s.stations.get n).wanting then s.matchingPass else s

/-- The take controller hands a take over, to be queued at its class tail (R68); the pass follows (R105). -/
def State.handOver (s : State) (r : TakeRef) : State := (s.queueTail r).matchingPass

/-! ### Reclaim (R118) -/

/-- The takes of a station return to the queue, each class at its class head in list order, and its list is empty; the pass
runs after. -/
def State.reclaim (s : State) (n : StationId) : State :=
  let refs := (s.stations.get n).takes
  let s := s.modStation n fun st => { st with takes := [] }
  let s := refs.foldl (fun s r => s.modTake r Take.enqueue) s
  let s := refs.reverse.foldl (fun s r => s.atClassHead r) s
  let s := refs.foldl (fun s r => s.raiseTake r .dispatch) s
  let s := if refs.isEmpty then s else (s.newCurrent n).setStatus n .removed none
  s.matchingPass

end Sys2Proof.Machine
end

