-- ==== Sys2Proof/Machine/AudioStore.lean ====
section
/-! DEFINITION. The audio store: the free-block list and the chains (R31 to R34), the store condition (R36) and the
trimming of a chain (R42). -/

namespace Sys2Proof.Machine

/-- The event code of a STORE notice: "low" 0, "exhausted" 1, "relief" 2 (R36, R200). -/
def StoreCondition.event : StoreCondition → Nat
  | .low => 0 | .exhausted => 1 | .normal => 2

/-- The contents of a STORE notice (R36). -/
def storeContents (st : Store) : List Byte :=
  u8 st.condition.event ++ u8 st.condition.code ++ u16 st.free.length ++ u16 st.lowMark ++ u16 st.blocks

/-- The check of the store condition (R36): a different condition is held and reported. -/
def State.checkCondition (s : State) : State :=
  let new := storeCondition s.store.free.length s.store.lowMark
  if new = s.store.condition then s
  else
    let s := s.modStore fun st => { st with condition := new }
    s.raise .store .whole (storeContents s.store)

/-- A session's chain begins empty at its opening (R24). -/
def Store.openChain (st : Store) (n : Nat) : Store := { st with chains := st.chains ++ [⟨n, []⟩] }

/-- The chain of a session changed. -/
def Store.setChain (st : Store) (n : Nat) (l : List ChainBlock) : Store :=
  { st with chains := st.chains.map fun k => if k.owner = n then { k with blocks := l } else k }

/-- The blocks of a chain return to the tail of the free list, front first, and the chain is gone (R29). -/
def Store.freeChain (st : Store) (n : Nat) : Store :=
  { st with
    free := st.free ++ (st.chains.filter fun k => k.owner = n).flatMap fun k => k.blocks.map (·.block)
    chains := st.chains.filter fun k => k.owner ≠ n }

/-- The blocks that leave the front of a chain below a trim point, and what stays (R42); a block with a transfer in
flight does not leave. -/
def splitTrim (point : Nat) (inFlight : Nat → Bool) : List ChainBlock → List ChainBlock × List ChainBlock
  | [] => ([], [])
  | b :: rest =>
    if decide (b.first + b.held ≤ point) && !inFlight b.block then
      let r := splitTrim point inFlight rest
      (b :: r.1, r.2)
    else ([], b :: rest)

/-- One chain trimmed: it keeps its owner. -/
def Chain.trim (k : Chain) (point : Nat) (inFlight : Nat → Bool) : Chain :=
  { k with blocks := (splitTrim point inFlight k.blocks).2 }

/-- The chain of session `n` trimmed (R42); the blocks that leave join the free list at its tail (R33). -/
def Store.trim (st : Store) (n point : Nat) (inFlight : Nat → Bool) : Store :=
  { st with
    free := st.free ++ (st.chains.filter fun k => k.owner = n).flatMap fun k =>
      (splitTrim point inFlight k.blocks).1.map (·.block)
    chains := st.chains.map fun k => if k.owner = n then k.trim point inFlight else k }

/-- The block of the frame transfer in flight, if any. -/
def Arbiter.inFlight (a : Arbiter) (b : Nat) : Bool :=
  match a.grant with
  | some g => decide (g.client ≠ .refresh) && decide (g.block = b)
  | none => false

/-- The trim of R42 applied to a session, with the check of the store condition. -/
def State.trimStore (s : State) (n : Nat) : State :=
  match s.session? n with
  | some x =>
    match x.trimPoint with
    | some p => (s.modStore fun st => st.trim n p s.arbiter.inFlight).checkCondition
    | none => s
  | none => s

/-- A block added at the tail of a chain (R34). -/
def Store.appendBlock (st : Store) (n : Nat) (b : ChainBlock) : Store :=
  { st with chains := st.chains.map fun k => if k.owner = n then { k with blocks := k.blocks ++ [b] } else k }

/-- The last block of a chain holds one frame more (R34). -/
def growLast : List ChainBlock → List ChainBlock
  | [] => []
  | [b] => [{ b with held := b.held + 1 }]
  | b :: rest => b :: growLast rest

def Store.growCurrent (st : Store) (n : Nat) : Store :=
  { st with chains := st.chains.map fun k => if k.owner = n then { k with blocks := growLast k.blocks } else k }

/-- The session has a chain; a frame of a session always does. -/
def Store.hasChain (st : Store) (n : Nat) : Bool := st.chains.any fun k => k.owner = n

/-- The place the store chooses for a frame of a session (R34): the next slot of the current block, slot 0 of the block at
the head of the free list, or none. -/
def Store.place (st : Store) (n f : Nat) : Option (Store × Nat × Nat) :=
  let fresh : Option (Store × Nat × Nat) :=
    match st.free with
    | b :: rest => some ({ st with free := rest }.appendBlock n ⟨b, f, 1⟩, b, 0)
    | [] => none
  match (st.chain n).getLast? with
  | some cur =>
    if cur.held < Config.blockSlots ∧ f = cur.first + cur.held then some (st.growCurrent n, cur.block, cur.held)
    else fresh
  | none => fresh

end Sys2Proof.Machine
end

