-- ==== Sys2Proof/Machine/MarkList.lean ====
section
/-! DEFINITION. The mark list: order and numbering (R74), the addition of a mark (R76, R77), trimming (R79), the move at a
close (R80), and the MARK notice (R83). -/

namespace Sys2Proof.Machine

/-- The order of R74: by session, then frame, then mark number. -/
def Mark.before (a b : Mark) : Bool :=
  decide (a.session < b.session) ||
    (decide (a.session = b.session) &&
      (decide (a.frame < b.frame) || (decide (a.frame = b.frame) && decide (a.number < b.number))))

/-- Two marks are identical in the sense of R76. -/
def Mark.identical (a b : Mark) : Bool :=
  decide (a.session = b.session) && decide (a.frame = b.frame) && decide (a.kind = b.kind)
    && decide (a.source = b.source) && decide (a.tag = b.tag) && decide (a.speaker = b.speaker)
    && (decide (a.source ≠ .device)
      || (decide (a.cause = b.cause) && decide (a.span = b.span) && decide (a.serial = b.serial)))

/-- Which limit an addition met (R77, R200). -/
inductive MarkLimit where
  | others | device | numbers
deriving DecidableEq, Repr

def MarkLimit.code : MarkLimit → Nat
  | .others => 0 | .device => 1 | .numbers => 2

/-- What became of an addition (R76, R77). -/
inductive MarkOutcome where
  | inserted (number : Nat)
  | merged (number : Nat)
  | dropped (limit : MarkLimit)
deriving DecidableEq, Repr

/-- The number of the mark an addition left in the list, if any. -/
def MarkOutcome.number? : MarkOutcome → Option Nat
  | .inserted n | .merged n => some n
  | .dropped _ => none

/-- The in-use count below which a source may insert (R77), and the limit it then meets. -/
def MarkSource.room : MarkSource → Nat
  | .device => Config.markRecords
  | .host | .keypad | .station _ => Config.markLimit

def MarkSource.limit : MarkSource → MarkLimit
  | .device => .device
  | .host | .keypad | .station _ => .others

/-- An addition tested, then merged, inserted or dropped (R74, R76, R77).  The number of `m` is not used. -/
def State.placeMark (s : State) (m : Mark) : State × MarkOutcome :=
  match s.marks.find? fun e => e.identical m with
  | some e => (s, .merged e.number)
  | none =>
    let issued := match s.session? m.session with | some x => x.markIssued | none => 65535
    if 65535 ≤ issued then (s, .dropped .numbers)
    else if m.source.room ≤ s.marks.length then (s, .dropped m.source.limit)
    else
      let k := issued + 1
      ((s.modSession m.session fun x => { x with markIssued := k }).setMarks
        (insertBy Mark.before { m with number := k } s.marks), .inserted k)

/-- The contents of the TABLE notice of the mark list (R77). -/
def marksFullContents (s : State) (m : Mark) (limit : MarkLimit) : List Byte :=
  u16 Config.markRecords ++ u8 limit.code ++ u16 s.marks.length ++ u16 m.session ++ u32 m.frame ++ u8 m.kind.code
    ++ u8 m.source.code

/-- An addition from a keypad, a station or the part: a drop is reported by a TABLE notice (R77). -/
def State.addMark (s : State) (m : Mark) : State × MarkOutcome :=
  let r := s.placeMark m
  match r.2 with
  | .dropped limit => (r.1.raise .table (.table .marks) (marksFullContents r.1 m limit), r.2)
  | .inserted _ | .merged _ => r

/-- A mark with no optional field. -/
def plainMark (session frame : Nat) (kind : MarkKind) (source : MarkSource) : Mark where
  session := session
  number := 0
  frame := frame
  kind := kind
  source := source
  tag := none
  speaker := none
  length := none
  cause := none
  span := none
  serial := none

/-- The contents of a MARK notice for an addition (R83): event ADDED 0 or MERGED 1. -/
def markContents (c : ChannelId) (m : Mark) (event number : Nat) : List Byte :=
  u16 m.session ++ u8 c.val ++ u8 event ++ u16 number ++ u32 m.frame ++ u8 m.kind.code ++ u8 m.source.code
    ++ opt8 m.speaker ++ num16 none ++ opt32 none ++ opt8 none

/-- The contents of a MARK notice for an off-record press (R83): event OFF_RECORD_OPENED 2 or OFF_RECORD_CLOSED 3. -/
def offRecordContents (c : ChannelId) (session event range frame : Nat) : List Byte :=
  u16 session ++ u8 c.val ++ u8 event ++ num16 none ++ opt32 none ++ opt8 none ++ opt8 none ++ opt8 none
    ++ u16 range ++ u32 frame ++ u8 MarkSource.keypad.code

/-- An addition from a keypad or a station, with its MARK notice (R83) or TABLE notice (R77). -/
def State.addReportedMark (s : State) (c : ChannelId) (m : Mark) : State × MarkOutcome :=
  let r := s.addMark m
  match r.2 with
  | .inserted k => (r.1.raise .mark (.session m.session) (markContents c m 0 k), r.2)
  | .merged k => (r.1.raise .mark (.session m.session) (markContents c m 1 k), r.2)
  | .dropped _ => r

/-- The marks of a session below its new trim point are freed (R79); a growing gap run loses its mark (R38). -/
def State.trimMarks (s : State) (n point : Nat) : State :=
  (s.modSession n fun x =>
    { x with gapRun := x.gapRun.map fun g => if g.first < point then { g with mark := none } else g }).setMarks
    (s.marks.filter fun m => decide (m.session ≠ n) || decide (point ≤ m.frame))

/-- A mark moved to the last frame, or freed when it is then identical to a mark of lower number (R80). -/
def moveMark (last : Nat) (l : List Mark) (m : Mark) : List Mark :=
  let m' := { m with frame := last }
  if l.any fun e => e.identical m' && decide (e.number < m.number) then l else insertBy Mark.before m' l

/-- The marks of a session above its last frame are moved to it, in the order of their numbers (R80). -/
def State.moveMarks (s : State) (n last : Nat) : State :=
  let above := fun m : Mark => decide (m.session = n) && decide (last < m.frame)
  let moving := (s.marks.filter above).foldl (fun l m => insertBy (fun a b => decide (a.number < b.number)) m l) []
  s.setMarks (moving.foldl (moveMark last) (s.marks.filter fun m => !above m))

/-- Every mark of a session is freed (R29, R79). -/
def State.freeMarks (s : State) (n : Nat) : State := s.setMarks (s.marks.filter fun m => m.session ≠ n)

end Sys2Proof.Machine
end

