-- ==== Sys2Proof/Machine/RangeTable.lean ====
section
/-! DEFINITION. The range table: order and numbering (R90), the insertion of a range (R95, R96), its closing and removal
(R97, R99), the end of a recording (R100, R101) and trimming (R102), with the off-record toggle that follows (R88). -/

namespace Sys2Proof.Machine

/-- The order of R90: by session, then start, then range number. -/
def Range.before (a b : Range) : Bool :=
  decide (a.session < b.session) ||
    (decide (a.session = b.session) &&
      (decide (a.start < b.start) || (decide (a.start = b.start) && decide (a.number < b.number))))

/-- Which limit an addition met (R96, R200). -/
inductive RangeLimit where
  | table | opened | numbers
deriving DecidableEq, Repr

def RangeLimit.code : RangeLimit → Nat
  | .table => 0 | .opened => 1 | .numbers => 2

/-- The limit that keeps a range of session `x` from being inserted, if any (R90, R95, R96).  DESIGN CHOICE: of several
limits TABLE is named first and NUMBERS last (notes/assumptions/48.md). -/
def State.rangeLimit? (s : State) (x : Session) (isOpen : Bool) : Option RangeLimit :=
  if Config.rangeRecords ≤ s.ranges.length then some .table
  else if isOpen && decide (Config.openRangeLimit ≤ s.openRanges x.number) then some .opened
  else if 65535 ≤ x.rangeIssued then some .numbers
  else none

/-- A range inserted under the session's next range number (R90).  The number of `g` is not used. -/
def State.insertRange (s : State) (x : Session) (g : Range) : State × Range :=
  let g := { g with number := x.rangeIssued + 1 }
  ((s.modSession x.number fun y => { y with rangeIssued := x.rangeIssued + 1 }).setRanges
    (insertBy Range.before g s.ranges), g)

/-- The off-record toggle of the channel that session `n` is open on, where it names a range, is OFF unless `keep` holds of
that range's number (R88). -/
def State.keepToggle (s : State) (n : Nat) (keep : Nat → Bool) : State :=
  match s.session? n with
  | some x =>
    if (s.channels.get x.channel).session = some n then
      s.modChannel x.channel fun ch =>
        { ch with keypad := { ch.keypad with offRecord := ch.keypad.offRecord.filter keep } }
    else s
  | none => s

/-- The range is in the table and open. -/
def State.rangeOpen (s : State) (n k : Nat) : Bool := (s.range? n k).any fun g => g.stop.isNone

/-- The toggle after several ranges of a session have been closed or freed (R100, R101). -/
def State.syncToggle (s : State) (n : Nat) : State := s.keepToggle n (s.rangeOpen n)

/-- A range record changed. -/
def State.modRange (s : State) (n k : Nat) (f : Range → Range) : State :=
  s.setRanges (s.ranges.map fun g => if g.session = n ∧ g.number = k then f g else g)

/-- An open range closed at a frame; a toggle that names it turns OFF (R88, R97). -/
def State.closeRangeAt (s : State) (n k stop : Nat) : State :=
  (s.modRange n k fun g => { g with stop := some stop }).keepToggle n (fun j => j ≠ k)

/-- A range freed; a toggle that names it turns OFF (R99). -/
def State.removeRange (s : State) (n k : Nat) : State :=
  (s.setRanges (s.ranges.filter fun g => decide (g.session ≠ n) || decide (g.number ≠ k))).keepToggle n (fun j => j ≠ k)

/-- The closed ranges of a session that end below its new trim point are freed (R102). -/
def State.trimRanges (s : State) (n point : Nat) : State :=
  s.setRanges (s.ranges.filter fun g =>
    decide (g.session ≠ n) ||
      match g.stop with
      | some e => decide (point ≤ e)
      | none => true)

/-- One range brought within a recording that ends at `last` (R100): `none` when it is freed. -/
def fitRange (n last : Nat) (g : Range) : Option Range :=
  if g.session ≠ n then some g
  else if last < g.start then none
  else some { g with stop := g.stop.map fun e => min e last }

/-- The ranges of a session brought within its recording when its last frame is set (R100). -/
def State.fitRanges (s : State) (n last : Nat) : State := (s.setRanges (s.ranges.filterMap (fitRange n last))).syncToggle n

/-- The open ranges of a session closed at its last frame at the drain, or freed when it has none (R101). -/
def State.closeOpenRanges (s : State) (n : Nat) (last : Option Nat) : State :=
  (s.setRanges (match last with
    | some e => s.ranges.map fun g => if g.session = n ∧ g.stop.isNone then { g with stop := some e } else g
    | none => s.ranges.filter fun g => decide (g.session ≠ n) || g.stop.isSome)).syncToggle n

/-- Every range of a session is freed (R29, R102). -/
def State.freeRanges (s : State) (n : Nat) : State := s.setRanges (s.ranges.filter fun g => g.session ≠ n)

/-- The contents of the TABLE notice of the range table (R96).  DESIGN CHOICE: the subject bytes alone name the table
(notes/assumptions/54.md). -/
def rangesFullContents (s : State) (n frame : Nat) (limit : RangeLimit) : List Byte :=
  u8 Config.rangeRecords ++ u8 limit.code ++ u16 s.ranges.length ++ u16 n ++ u32 frame ++ u8 RangeSource.keypad.code

end Sys2Proof.Machine
end

