-- ==== Sys2Proof/Machine/TrimPoint.lean ====
section
/-! DEFINITION. The trim point of a session (R41) and what follows its recomputation: marks and ranges below it are freed
(R79, R102) and blocks below it leave the chain (R42). -/

namespace Sys2Proof.Machine

/-- The frames that hold a session's trim point (R41): lead-in starts of its takes, the current frame of a read-back that
plays from it, the cursor of an export of it. -/
def State.trimInputs (s : State) (x : Session) : List Nat :=
  let u := s.readback.get x.channel
  let fromReadback :=
    match u.current with
    | some e => if e.entry.session = x.number then u.fetch.toList else []
    | none => []
  let fromExport :=
    if s.exporter.phase = .streaming ∧ s.exporter.session = x.number then s.exporter.cursor.toList else []
  (s.takesOf x.number).map (·.leadIn) ++ fromReadback ++ fromExport

/-- The trim point of a session (R41). -/
def State.trimPointOf (s : State) (x : Session) : Option Nat :=
  match x.firstStored with
  | none => none
  | some _ =>
    match s.trimInputs x with
    | [] => some (nextFrame x.arrivedHead)
    | a :: rest => some (rest.foldl min a)

/-- The trim point recomputed (R41), reported to the mark list and the range table at a change, and the trim applied. -/
def State.recomputeTrim (s : State) (n : Nat) : State :=
  match s.session? n with
  | some x =>
    let p := s.trimPointOf x
    if p = x.trimPoint then s.trimStore n
    else
      let s := s.modSession n fun y => { y with trimPoint := p }
      match p with
      | some p => ((s.trimMarks n p).trimRanges n p).trimStore n
      | none => s
  | none => s

end Sys2Proof.Machine
end

