-- ==== Sys2Proof/Machine/TakeController.lean ====
section
/-! DEFINITION. The take controller: opening (R47, R48), the cut search and the cut (R51 to R59), the close of a take at its
session's end (R61, R62), and the lost frames a take counts (R63). -/

namespace Sys2Proof.Machine

/-- Table order of the takes: by session, then take number (R46). -/
def Take.before (a b : Take) : Bool :=
  decide (a.session < b.session) || (decide (a.session = b.session) && decide (a.number < b.number))

/-- The lost frames of a session from `a` to `b`, both included (R40, R63). -/
def State.lostBetween (s : State) (x : Session) (a b : Nat) : Nat :=
  (List.range' a (b + 1 - a)).countP fun f => s.category x f = .lost

/-- The lost frames of a session from a frame to its stored head (R63). -/
def State.lostFrom (s : State) (x : Session) (a : Nat) : Nat :=
  match x.storedHead with
  | some h => s.lostBetween x a h
  | none => 0

/-- The record of a new take (R47). -/
def newTake (x : Session) (leadIn core lost : Nat) : Take where
  session := x.number
  number := x.takeCount + 1
  channel := x.channel
  leadIn := leadIn
  core := core
  stop := none
  capture := .opened
  cutKind := none
  dispatch := .unqueued
  takeClass := x.takeClass
  station := none
  lastStation := none
  excluded := none
  returns := 0
  lostFrames := lost
  readback := false

/-- A take opens (R47); a reserved record of the session becomes the one it uses (R48). -/
def State.openTake (s : State) (n leadIn core : Nat) : State :=
  match s.session? n with
  | some x =>
    let t := newTake x leadIn core (s.lostFrom x leadIn)
    let s := (s.setTakes (insertBy Take.before t s.takes)).modSession n fun y =>
      { y with takeCount := y.takeCount + 1, openTake := some t.number, reserved := false }
    (s.raiseTake t.ref .opened).recomputeTrim n
  | none => s

/-- The first take of a session opens at its first stored frame; a LIVE one is handed over (R47, R48, R68). -/
def State.openFirstTake (s : State) (n first : Nat) : State :=
  let s := s.openTake n first first
  match s.session? n with
  | some x => if x.dispatchMode = .live then s.handOver ⟨n, x.takeCount⟩ else s
  | none => s

/-- A take closes: end, CLOSED and cut kind, with its notice (R57, R61). -/
def State.closeTake (s : State) (r : TakeRef) (e : Nat) (k : CutKind) : State :=
  (s.modTake r fun t => { t with stop := some e, capture := .closed, cutKind := some k }).raiseTake r .closed

/-- The cut state returns to no (R49). -/
def Session.clearCut (x : Session) : Session := { x with forcedPending := false, extensionReported := false }

/-- The overlap of a cut (R58). -/
def overlapOf (p : Plan) (k : CutKind) : Nat := if k = .soft then p.softOverlap else p.hardOverlap

/-- The station whose current take is `r`, when there is one. -/
def State.stationPlaying (s : State) (r : TakeRef) : Option StationId :=
  allStations.find? fun n => (s.stations.get n).takes.head? = some r

/-- A cut at new core start `c` (R57, R58), with what it does to the station on the closing take (R133). -/
def State.makeCut (s : State) (n c : Nat) (k : CutKind) : State :=
  match s.session? n with
  | some x =>
    match x.openTake with
    | some m =>
      let r : TakeRef := ⟨n, m⟩
      match s.take? r with
      | some t =>
        let taken := if k = .soft then s.lostFrom x c else 0
        let s := s.modTake r fun t => { t with lostFrames := t.lostFrames - taken }
        let s := (s.closeTake r (c - 1) k).modSession n Session.clearCut
        let s := match s.stationPlaying r with | some st => s.cutStation st (c - 1) | none => s
        let s := s.openTake n (leadInAt c (overlapOf x.planInForce k) t.leadIn (x.firstStored.getD 0)) c
        let s := if x.dispatchMode = .onClose ∧ t.dispatch = .unqueued then s.handOver r else s
        if x.dispatchMode = .live then s.handOver ⟨n, x.takeCount + 1⟩ else s
      | none => s
    | none => s
  | none => s

/-- The contents of the TABLE notice of the take table (R59). -/
def takesFullContents (s : State) (n take : Nat) : List Byte :=
  u8 TableName.takes.code ++ u8 Config.takeRecords ++ u16 s.takesInUse ++ u16 s.takesFree ++ u16 n ++ u16 take

/-- A due cut finds no free record: the take is extended, and reported once (R59). -/
def State.extendTake (s : State) (x : Session) (m : Nat) : State :=
  if x.extensionReported then s
  else
    (s.modSession x.number fun y => { y with extensionReported := true }).raise .table (.table .takes)
      (takesFullContents s x.number m)

/-- The cut due on frame `f`, if any: its new core start and its kind (R50 to R52, R54, R56). -/
def dueCut (x : Session) (core f quiet : Nat) (readbackPlays : Bool) : Option (Nat × CutKind) :=
  let len := f + 1 - core
  let atLimit := decide (f = Config.frameLimit)
  if x.forcedPending && decide (Config.forcedCore ≤ len) && !atLimit then some (f + 1, .forced)
  else if decide (x.planInForce.nominal ≤ len) && decide (x.planInForce.pause ≤ quiet) && !readbackPlays then
    some (f + 1 - halfPause x.planInForce.pause, .soft)
  else if decide (x.planInForce.nominal + x.planInForce.grace ≤ len) && !atLimit then some (f + 1, .hard)
  else none

/-- The cut search on frame `f` of a session (R51): a due cut is made, or the take is extended (R59). -/
def State.cutSearch (s : State) (n f quiet : Nat) : State :=
  match s.session? n with
  | some x =>
    match x.openTake with
    | some m =>
      match s.take? ⟨n, m⟩ with
      | some t =>
        if f < t.core then s
        else
          match dueCut x t.core f quiet (s.readback.get x.channel).current.isSome with
          | some (c, k) =>
            if 65535 ≤ x.takeCount then s
            else if s.takesFree = 0 then s.extendTake x m
            else s.makeCut n c k
          | none => s
      | none => s
    | none => s
  | none => s

/-- A take leaves the queue or the list that holds it (R62, R106, R107). -/
def State.withdraw (s : State) (t : Take) : State :=
  match t.dispatch, t.station with
  | .queued, _ => s.dequeue t.ref
  | .assigned, some n | .inWork, some n =>
    let wasCurrent := (s.stations.get n).takes.head? = some t.ref
    let s := s.leaveList n t.ref
    if wasCurrent then s.setStatus n .removed none else s
  | _, _ => s

/-- The matching pass after a take has left a station's list (R107). -/
def State.passAfter (s : State) (t : Take) : State :=
  match t.dispatch, t.station with
  | .assigned, some n | .inWork, some n => s.passIfWanting n
  | _, _ => s

/-- A take record freed. -/
def State.dropTake (s : State) (r : TakeRef) : State :=
  s.setTakes (s.takes.filter fun t => decide (t.session ≠ r.session) || decide (t.number ≠ r.number))

/-- A take whose core is empty is discarded at its session's close (R62). -/
def State.discardTake (s : State) (r : TakeRef) : State :=
  match s.take? r with
  | some t =>
    let s := s.raiseTake r .discarded
    let s := ((s.withdraw t).dropTake r).modSession r.session fun x => { x with openTake := none }
    (s.recomputeTrim r.session).passAfter t
  | none => s

/-- The open take of a session closes at the session's completion (R27 step 3, R61, R62). -/
def State.closeFinalTake (s : State) (n : Nat) : State :=
  match s.session? n with
  | some x =>
    match x.openTake with
    | some m =>
      let r : TakeRef := ⟨n, m⟩
      match s.take? r, x.lastFrame with
      | some t, some e =>
        if e < t.core then (s.discardTake r).modSession n Session.clearCut
        else
          let k : CutKind := if x.closeReason = some .limit then .limit else .final
          let s := (s.closeTake r e k).modSession n fun y => { y.clearCut with openTake := none }
          if x.dispatchMode = .onClose ∧ t.dispatch = .unqueued then s.handOver r else s
      | some _, none => (s.discardTake r).modSession n Session.clearCut
      | none, _ => s.modSession n fun y => { y.clearCut with openTake := none }
    | none => s.modSession n fun y => { y.clearCut with reserved := false }
  | none => s

/-- A lost frame counted into every take whose span holds it (R63). -/
def State.countLost (s : State) (n f : Nat) : State :=
  s.setTakes (s.takes.map fun t =>
    if t.session = n ∧ t.leadIn ≤ f ∧ (t.stop.all fun e => decide (f ≤ e)) then { t with lostFrames := t.lostFrames + 1 }
    else t)

end Sys2Proof.Machine
end

