-- ==== Sys2Proof/Machine/ReadbackUnit.lean ====
section
/-! DEFINITION. The read-back unit: resolving and starting an entry (R155, R156), its reader (R157), finishing it (R159),
the drain test (R160) and READBACK notices (R162). -/

namespace Sys2Proof.Machine

/-- Events of a READBACK notice, in the order of R162. -/
inductive ReadbackEvent where
  | started | skipped | ended | endedShort | aborted | discarded | drained
deriving DecidableEq, Repr

def ReadbackEvent.code : ReadbackEvent → Nat
  | .started => 0 | .skipped => 1 | .ended => 2 | .endedShort => 3 | .aborted => 4 | .discarded => 5 | .drained => 6

/-- What a READBACK notice tells of the entry its event is about; what does not apply is absent (R162, R199). -/
structure ReadbackInfo where
  entry : Option ReadbackEntry := none
  start : Option Nat := none
  stop : Option Nat := none
  reason : Option SkipReason := none
  startMark : Option Nat := none
  played : Nat := 0
  withheld : Nat := 0
  silent : Nat := 0
  endMark : Option Nat := none
  discarded : Option Nat := none

/-- The contents of a READBACK notice. -/
def readbackContents (c : ChannelId) (u : Readback) (e : ReadbackEvent) (i : ReadbackInfo) : List Byte :=
  u8 c.val ++ u8 e.code ++ opt16 (i.entry.map (·.serial)) ++ num16 (i.entry.map (·.session))
    ++ opt32 i.start ++ opt32 i.stop ++ opt8 (i.reason.map (·.code)) ++ num16 i.startMark
    ++ u32 i.played ++ u32 i.withheld ++ u32 i.silent ++ num16 i.endMark ++ opt8 i.discarded
    ++ opt16 (u.current.map (·.entry.serial)) ++ u8 u.pending.length ++ u8 u.outstanding

def State.raiseReadback (s : State) (c : ChannelId) (e : ReadbackEvent) (i : ReadbackInfo) : State :=
  s.raise .readback (.channel c) (readbackContents c (s.readback.get c) e i)

/-! ### Starting (R155, R156) -/

/-- The frame a start names (R155). -/
def State.resolveStart (s : State) (n : Nat) : ReadbackStart → Option Nat
  | .frame f => some f
  | .mark m => (s.mark? n m).map (·.frame)

/-- The frame an end names, for a resolved start (R155).  DESIGN CHOICE: the sum for a length is exact, also above the four bytes
it is sent in (notes/assumptions/63.md). -/
def State.resolveStop (s : State) (n start : Nat) : ReadbackStop → Option Nat
  | .frame f => some f
  | .mark m => (s.mark? n m).map (·.frame)
  | .length k => some (start + k - 1)

/-- Why an entry is skipped, with the start and end as far as they were resolved (R155, R162). -/
structure Skip where
  reason : SkipReason
  start : Option Nat := none
  stop : Option Nat := none

/-- The tests of R155 in order: the resolved span, or why the entry is skipped. -/
def State.resolveEntry (s : State) (c : ChannelId) (e : ReadbackEntry) : Except Skip (Nat × Nat) :=
  match s.session? e.session with
  | none => .error { reason := .noSession }
  | some x =>
    if x.channel ≠ c then .error { reason := .noSession }
    else
      match s.resolveStart e.session e.start with
      | none => .error { reason := .noMark }
      | some a =>
        match s.resolveStop e.session a e.stop with
        | none => .error { reason := .noMark, start := some a }
        | some b =>
          if b < a then .error { reason := .badSpan, start := some a, stop := some b }
          else if s.category x a = .unstored ∨ s.category x a = .trimmed then
            .error { reason := .gone, start := some a, stop := some b }
          else
            match x.lastFrame with
            | none => .ok (a, b)
            | some l =>
              if l < a then .error { reason := .notRecorded, start := some a, stop := some b } else .ok (a, min b l)

/-- A read-back mark of the session recording on the channel, at its next arrived frame (R156, R159). -/
def readbackMark (rec : Session) (kind : MarkKind) (e : ReadbackEntry) (a b : Nat) : Mark :=
  { plainMark rec.number (nextFrame rec.arrivedHead) kind .device with
    span := some ⟨e.session, a, b⟩
    serial := some e.serial }

/-- The session recording on a channel, when the channel is RECORDING. -/
def State.recordingOn (s : State) (c : ChannelId) : Option Session :=
  if (s.channels.get c).phase = .recording then s.channelSession? c else none

/-- A read-back mark added to the session recording on the channel, when there is one; the number it has (R156, R159). -/
def State.addReadbackMark (s : State) (c : ChannelId) (kind : MarkKind) (e : ReadbackEntry) (a b : Nat) :
    State × Option Nat :=
  match s.recordingOn c with
  | some rec =>
    let r := s.addMark (readbackMark rec kind e a b)
    (r.1, r.2.number?)
  | none => (s, none)

/-- The take open on the channel carries the read-back flag from now on (R64). -/
def State.flagOpenTake (s : State) (c : ChannelId) : State :=
  match s.recordingOn c with
  | some rec =>
    match rec.openTake with
    | some m => s.modTake ⟨rec.number, m⟩ fun t => { t with readback := true }
    | none => s
  | none => s

/-- An entry that has passed its tests becomes current and begins to play (R156). -/
def State.playEntry (s : State) (c : ChannelId) (e : ReadbackEntry) (a b : Nat) : State :=
  let s := s.modReadback c fun u =>
    { u with
      current := some { entry := e, start := a, stop := b, startMark := none, played := 0, withheld := 0, silent := 0 }
      fifo := [], fetch := some a, finished := false, reader := .idle, resting := false }
  let s := s.recomputeTrim e.session
  let r := s.addReadbackMark c .readbackStart e a b
  let s := (r.1.modReadback c fun u => { u with current := u.current.map fun k => { k with startMark := r.2 } }).flagOpenTake c
  s.raiseReadback c .started { entry := some e, start := some a, stop := some b, startMark := r.2 }

/-- An entry starts or is skipped (R155). -/
def State.startEntry (s : State) (c : ChannelId) (e : ReadbackEntry) : State × Option SkipReason :=
  match s.resolveEntry c e with
  | .ok (a, b) => (s.playEntry c e a b, none)
  | .error why =>
    (s.raiseReadback c .skipped { entry := some e, start := why.start, stop := why.stop, reason := some why.reason },
      some why.reason)

/-- The head of the pending queue starts, and so on until an entry plays or the queue is empty (R155); with the serials that
were skipped. -/
def State.startPending (s : State) (c : ChannelId) : Nat → State × List (Nat × SkipReason)
  | 0 => (s, [])
  | k + 1 =>
    match (s.readback.get c).pending with
    | [] => (s, [])
    | e :: rest =>
      let r := (s.modReadback c fun u => { u with pending := rest }).startEntry c e
      match r.2 with
      | none => (r.1, [])
      | some why =>
        let q := State.startPending r.1 c k
        (q.1, (e.serial, why) :: q.2)

def State.startNext (s : State) (c : ChannelId) : State × List (Nat × SkipReason) :=
  s.startPending c (s.readback.get c).pending.length

/-! ### Finishing (R159, R160) -/

/-- Steps 1 to 5 of R159: the current entry is finished with.  DESIGN CHOICE: reader finished returns to no
(notes/assumptions/62.md). -/
def State.finishEntry (s : State) (c : ChannelId) (event : ReadbackEvent) : State :=
  match (s.readback.get c).current with
  | none => s
  | some k =>
    let s := (s.killGrant (.readback c)).modReadback c fun u =>
      { u with current := none, fifo := [], fetch := none, finished := false, reader := .stopped, resting := false }
    let s := s.recomputeTrim k.entry.session
    let r := s.addReadbackMark c .readbackEnd k.entry k.start k.stop
    r.1.raiseReadback c event
      { entry := some k.entry, start := some k.start, stop := some k.stop, played := k.played, withheld := k.withheld,
        silent := k.silent, endMark := r.2 }

/-- The drain test (R160), for the outstanding count before the event. -/
def State.drainTest (s : State) (c : ChannelId) (before : Nat) : State :=
  let u := s.readback.get c
  if u.threshold < before ∧ u.outstanding ≤ u.threshold then s.raiseReadback c .drained {} else s

/-- What follows an entry that has been finished with: the next one started, the drain test made (R159, R160). -/
def State.startAfter (s : State) (c : ChannelId) (before : Nat) : State := ((s.startNext c).1).drainTest c before

/-- An entry that ends or ends short: finished with, then what follows it (R158, R159). -/
def State.endEntry (s : State) (c : ChannelId) (event : ReadbackEvent) : State :=
  (s.finishEntry c event).startAfter c (s.readback.get c).outstanding

/-- The pending entries discarded, with their notice (R154, R161).  DESIGN CHOICE: no notice when none is discarded, at a
CANCEL_READBACK with scope ALL as at a preemption (notes/assumptions/52.md). -/
def State.discardPending (s : State) (c : ChannelId) : State :=
  let k := (s.readback.get c).pending.length
  let s := s.modReadback c fun u => { u with pending := [] }
  if k = 0 then s else s.raiseReadback c .discarded { discarded := some k }

/-! ### The reader (R157) -/

/-- The fetch position after a frame handled: the next frame, or the resolved end with the reader finished. -/
def Readback.advance (u : Readback) (f stop : Nat) : Readback :=
  if f = stop then { u with finished := true, reader := .stopped } else { u with fetch := some (f + 1), reader := .idle }

/-- An entry joins the read-back FIFO; the fourth sets the resting flag (R167). -/
def Readback.push (u : Readback) (f : Nat) (samples : Option (List Sample)) : Readback :=
  let fifo := u.fifo ++ [⟨f, samples⟩]
  { u with fifo := fifo, resting := u.resting || decide (fifo.length = Config.playFifo) }

/-- The head entry leaves the FIFO; at two entries or fewer the reader no longer rests (R167). -/
def Readback.pop (u : Readback) : Readback :=
  { u with fifo := u.fifo.tail, resting := u.resting && decide (2 < u.fifo.tail.length) }

/-- The frames withheld, or silent, of the current entry raised by one. -/
def Readback.countWithheld (u : Readback) : Readback :=
  { u with current := u.current.map fun k => { k with withheld := k.withheld + 1 } }
def Readback.countSilent (u : Readback) : Readback :=
  { u with current := u.current.map fun k => { k with silent := k.silent + 1 } }
def Readback.countPlayed (u : Readback) : Readback :=
  { u with current := u.current.map fun k => { k with played := k.played + 1 } }

/-- One step of the reader of a read-back unit (R157): the state after it, and whether it goes on. -/
def State.readbackStep (s : State) (c : ChannelId) : State × Bool :=
  let u := s.readback.get c
  match u.current, u.fetch, u.reader with
  | some k, some f, .idle | some k, some f, .waiting =>
    if Config.playFifo ≤ u.fifo.length then (s, false)
    else
      match s.session? k.entry.session with
      | none => (s.endEntry c .endedShort, true)
      | some x =>
        let category := s.category x f
        let above := x.lastFrame.any fun l => decide (l < f)
        if u.reader = .waiting ∧ category = .notYet ∧ above = false then (s, false)
        else if ¬ s.effectiveReadback x f then
          ((s.modReadback c fun u => u.countWithheld.advance f k.stop).recomputeTrim x.number, true)
        else
          match category with
          | .present =>
            match s.store.place? x.number f with
            | some (b, slot) => (s.modReadback c fun u => { u with reader := .request f b slot }, false)
            | none => (s, false)
          | .lost =>
            ((s.modReadback c fun u => (u.countSilent.push f none).advance f k.stop).recomputeTrim x.number, true)
          | .notYet =>
            if above then (s.modReadback c fun u => { u with finished := true, reader := .stopped }, false)
            else (s.modReadback c fun u => { u with reader := .waiting }, false)
          | .trimmed | .unstored => (s.endEntry c .endedShort, true)
  | _, _, _ => (s, false)

/-- The reader of a unit until it waits, rests or is finished. -/
def State.readbackSteps (s : State) (c : ChannelId) : Nat → State
  | 0 => s
  | k + 1 =>
    let r := s.readbackStep c
    if r.2 then State.readbackSteps r.1 c k else r.1

def State.runReadbacks (s : State) : State :=
  allChannels.foldl (fun s c => s.readbackSteps c (Config.frameLimit + 16)) s

end Sys2Proof.Machine
end

