-- ==== Sys2Proof/Machine/ExportUnit.lean ====
section
/-! DEFINITION. The audio export: its reader (R189), the DATA message (R190) and the end of an export (R191). -/

namespace Sys2Proof.Machine

/-- The frame of the last sample of the export (R189). -/
def Exporter.lastFrame (e : Exporter) : Nat := (e.start + e.count - 1) / 256

/-- The send position (R190). -/
def Exporter.sendPosition (e : Exporter) : Nat := e.start + e.sent

/-- The end of an export (R191); after SHORT the resume point is absent. -/
def State.endExport (s : State) (why : EndReason) : State :=
  if s.exporter.phase = .streaming then
    let s := (s.killGrant .exporter).modExporter fun e =>
      { e with
        phase := .ending, reason := some why, fifo := [], cursor := none, reader := .stopped
        resume := if why = .short then none else e.resume }
    s.recomputeTrim s.exporter.session
  else s

/-- The cursor after a frame handled: the next frame, or the last one, where the reader stops (R189). -/
def Exporter.advance (e : Exporter) (f : Nat) : Exporter :=
  if f = e.lastFrame then { e with reader := .stopped } else { e with cursor := some (f + 1), reader := .idle }

/-- An entry joins the export FIFO. -/
def Exporter.push (e : Exporter) (f : Nat) (content : ExportContent) : Exporter :=
  { e with fifo := e.fifo ++ [⟨f, content⟩] }

/-- One step of the export reader (R189): the state after it, and whether it goes on. -/
def State.exportStep (s : State) : State × Bool :=
  let e := s.exporter
  match e.phase, e.cursor, e.reader with
  | .streaming, some f, .idle | .streaming, some f, .waiting =>
    if Config.exportFifo ≤ e.fifo.length then (s, false)
    else
      match s.session? e.session with
      | none => (s.endExport .short, false)
      | some x =>
        let category := s.category x f
        let above := x.lastFrame.any fun l => decide (l < f)
        if e.reader = .waiting ∧ category = .notYet ∧ above = false then (s, false)
        else if ¬ s.effectiveExport x f then
          ((s.modExporter fun e => (e.push f .withheld).advance f).recomputeTrim x.number, true)
        else
          match category with
          | .present =>
            match s.store.place? x.number f with
            | some (b, slot) => (s.modExporter fun e => { e with reader := .request f b slot }, false)
            | none => (s, false)
          | .lost => ((s.modExporter fun e => (e.push f .lost).advance f).recomputeTrim x.number, true)
          | .notYet =>
            if above then ((s.modExporter fun e => (e.push f .lost).advance f).recomputeTrim x.number, true)
            else (s.modExporter fun e => { e with reader := .waiting }, false)
          | .trimmed | .unstored => (s.endExport .short, false)
  | _, _, _ => (s, false)

/-- The export reader until it waits, stops or its FIFO is full: at most one entry for each place of the FIFO. -/
def State.exportSteps (s : State) : Nat → State
  | 0 => s
  | k + 1 =>
    let r := s.exportStep
    if r.2 then State.exportSteps r.1 k else r.1

def State.runExport (s : State) : State := s.exportSteps (Config.exportFifo + 1)

/-! ### DATA messages (R190) -/

/-- The samples the next DATA message carries: 256, or the rest of the count. -/
def Exporter.nextCount (e : Exporter) : Nat := min Config.frameSamples (e.count - e.sent)

/-- The FIFO holds a frame. -/
def Exporter.holdsFrame (e : Exporter) (f : Nat) : Bool := e.fifo.any fun p => p.frame = f

/-- A DATA message is ready: the FIFO holds every sample of it. -/
def Exporter.dataReady (e : Exporter) : Bool :=
  decide (e.phase = .streaming) && decide (0 < e.nextCount)
    && e.holdsFrame (e.sendPosition / 256) && e.holdsFrame ((e.sendPosition + e.nextCount - 1) / 256)

/-- The content of a sample position in the FIFO; a position in no entry does not arise in a ready message. -/
def Exporter.contentAt (e : Exporter) (p : Nat) : ExportContent :=
  match e.fifo.find? fun k => k.frame = p / 256 with
  | some k => k.content
  | none => .lost

/-- The sample sent for a position: as stored, or 0. -/
def ExportContent.sample (k : ExportContent) (i : Nat) : Sample :=
  match k with
  | .samples l => l.getD i 0
  | .withheld | .lost => 0

def ExportContent.isWithheld : ExportContent → Bool
  | .withheld => true
  | .samples _ | .lost => false

def ExportContent.isLost : ExportContent → Bool
  | .lost => true
  | .samples _ | .withheld => false

/-- The DATA message formed from the export record and the FIFO (R190). -/
def Exporter.formData (e : Exporter) : DataMessage :=
  let positions := List.range' e.sendPosition e.nextCount
  { tag := e.tag
    position := e.sendPosition
    samples := positions.map fun p => (e.contentAt p).sample (p % 256)
    withheld := positions.countP fun p => (e.contentAt p).isWithheld
    lost := positions.countP fun p => (e.contentAt p).isLost }

/-- The FIFO after a message whose samples end before position `p`: an entry whose last sample has been taken leaves. -/
def Exporter.takeUpTo (e : Exporter) (p : Nat) : Exporter :=
  { e with fifo := e.fifo.filter fun k => decide (p < (k.frame + 1) * 256) }

/-- The FETCH_END message (R191). -/
def Exporter.formEnd (e : Exporter) : FetchEnd where
  tag := e.tag
  session := e.session
  start := e.start
  sent := e.sent
  withheld := e.withheld
  lost := e.lost
  reason := e.reason.getD .complete
  resume := e.resume

/-- A DATA message has been sent in full: its samples count, and the resume point moves on.  A resume point that an end
with SHORT (R191) or the freeing of its session (R29) has made absent stays absent (R190). -/
def Exporter.countData (e : Exporter) (d : DataMessage) : Exporter :=
  let sent := e.sent + d.samples.length
  { e with
    sent := sent, withheld := e.withheld + d.withheld, lost := e.lost + d.lost
    resume := e.resume.map fun _ => ⟨e.session, e.start + sent⟩ }

end Sys2Proof.Machine
end

