-- ==== Sys2Proof/Machine/SessionTable.lean ====
section
/-! DEFINITION. The session table: numbering (R23), SESSION notices (R30), the end of the taking of frames (R3, R26, R28),
gap runs (R38, R39), the settling of frames (R35), completion at the drain (R27) and freeing (R29). -/

namespace Sys2Proof.Machine

/-! ### Numbers (R23) -/

/-- The session number after `last`, skipping numbers in use; a free one is found within 17 tries. -/
def nextSessionNumber (used : Nat → Bool) (last : Nat) : Nat → Nat
  | 0 => if last = 65535 then 1 else last + 1
  | k + 1 =>
    let n := if last = 65535 then 1 else last + 1
    if used n then nextSessionNumber used n k else n

/-- The number OPEN_SESSION gives. -/
def State.issueSession (s : State) : Nat := nextSessionNumber (fun n => (s.session? n).isSome) s.lastSession 16

/-! ### SESSION notices (R30) -/

/-- Events of a SESSION notice, in the order of R30. -/
inductive SessionEvent where
  | recording | closing | closed | freed
deriving DecidableEq, Repr

def SessionEvent.code : SessionEvent → Nat
  | .recording => 0 | .closing => 1 | .closed => 2 | .freed => 3

/-- The contents of a SESSION notice. -/
def sessionContents (x : Session) (e : SessionEvent) : List Byte :=
  u16 x.number ++ u8 x.channel.val ++ u8 e.code ++ u8 x.phase.code ++ opt8 (x.closeReason.map (·.code))
    ++ opt32 x.firstStored ++ opt32 x.lastFrame ++ opt32 x.storedHead ++ u16 x.takeCount

/-- A SESSION notice for the session as it stands. -/
def State.raiseSession (s : State) (n : Nat) (e : SessionEvent) : State :=
  match s.session? n with
  | some x => s.raise .session (.session n) (sessionContents x e)
  | none => s

/-! ### Recording starts (R15, R25) -/

/-- An ARMED session starts recording at its first stored frame, with its first take (R15, R25, R48).  DESIGN CHOICE: the
SESSION notice comes before the first take opens (notes/assumptions/45.md). -/
def State.startRecording (s : State) (c : ChannelId) (n first : Nat) : State :=
  let s := s.modChannel c fun ch => { ch with phase := .recording, ring := [] }
  let s := s.modSession n fun x => { x with phase := .recording, firstStored := some first }
  (s.raiseSession n .recording).openFirstTake n first

/-! ### The end of the taking of frames -/

/-- A channel goes to OFF (R1, R3, R27).  Its arrived head, last frame and detector stay as the session left them
(notes/assumptions/25.md). -/
def Channel.off (ch : Channel) : Channel :=
  { ch with phase := .off, session := none, startMode := none, ring := [], fifo := [] }

/-- The current read-back entry of channel `c` plays from session `n`. -/
def State.playsFrom (s : State) (c : ChannelId) (n : Nat) : Bool :=
  (s.readback.get c).current.any fun k => decide (k.entry.session = n)

/-- A session freed, in the order of R29.  An entry that plays from it ends short while the session is in the table; what
starts after that entry is resolved once the number is out of use (R155; notes/assumptions/26.md). -/
def State.freeSession (s : State) (n : Nat) : State :=
  match s.session? n with
  | none => s
  | some x =>
    let c := x.channel
    let s := (s.modStore fun st => st.freeChain n).checkCondition
    let s := (s.freeMarks n).freeRanges n
    let plays := s.playsFrom c n
    let before := (s.readback.get c).outstanding
    let s := if plays then s.finishEntry c .endedShort else s
    let s := if s.exporter.phase = .streaming ∧ s.exporter.session = n then s.endExport .short else s
    let s := s.modExporter fun e => { e with resume := e.resume.filter fun r => r.session ≠ n }
    let s := s.setSessions (s.sessions.filter fun y => y.number ≠ n)
    let s := if plays then s.startAfter c before else s
    s.raise .session (.session n) (sessionContents x .freed)

/-- A CLOSED session that holds no unreleased take is freed (R29). -/
def State.freeIfDone (s : State) (n : Nat) : State :=
  match s.session? n with
  | some x => if x.phase = .closed ∧ (s.takesOf n).isEmpty then s.freeSession n else s
  | none => s

/-- An ARMED session closes and is freed at once (R3, R26, R28); `last` is its last frame, set at the limit alone. -/
def State.closeArmed (s : State) (c : ChannelId) (n : Nat) (why : CloseReason) (last : Option Nat) : State :=
  let s := s.modChannel c fun ch => { ch.off with assembler := [], lastFrame := last }
  let s := s.modSession n fun x =>
    { x with phase := .closed, closeReason := some why, reserved := false, lastFrame := last }
  s.freeIfDone n

/-- A RECORDING session stops taking frames at its arrived head (R3, R26, R28, R80, R100). -/
def State.stopTaking (s : State) (c : ChannelId) (n : Nat) (why : CloseReason) : State :=
  let last := s.arrivedOf n
  let s := s.modChannel c fun ch => { ch with phase := .closing, assembler := [], lastFrame := last }
  let s := s.modSession n fun x => { x with phase := .closing, closeReason := some why, lastFrame := last }
  let s := match last with | some e => (s.moveMarks n e).fitRanges n e | none => s
  s.raiseSession n .closing

/-! ### Gap runs (R38, R39) -/

/-- The contents of a GAP notice: growing 0, ended 1 (R39). -/
def gapContents (x : Session) (g : GapRun) (ended : Bool) : List Byte :=
  u16 x.number ++ u8 x.channel.val ++ u8 g.cause.code ++ u32 g.first ++ u32 g.length ++ num16 g.mark
    ++ u8 (if ended then 1 else 0)

/-- A growing run ends, and is reported. -/
def State.endGap (s : State) (n : Nat) : State :=
  match s.session? n with
  | some x =>
    match x.gapRun with
    | some g =>
      (s.modSession n fun y => { y with gapRun := none }).raise .gap (.session n) (gapContents x g true)
    | none => s
  | none => s

/-- The GAP mark of a run that begins at `f` (R38, R75). -/
def gapMark (n f : Nat) (cause : LostCause) : Mark :=
  { plainMark n f .gap .device with length := some 1, cause := some cause }

/-- A run begins at a lost frame: its mark, unless it begins below the trim point, and its notice. -/
def State.beginGap (s : State) (n f : Nat) (cause : LostCause) : State :=
  match s.session? n with
  | some x =>
    let r : State × Option Nat :=
      if f < x.trimPoint.getD 0 then (s, none)
      else
        let a := s.addMark (gapMark n f cause)
        (a.1, a.2.number?)
    let g : GapRun := ⟨cause, f, 1, r.2⟩
    (r.1.modSession n fun y => { y with gapRun := some g }).raise .gap (.session n) (gapContents x g false)
  | none => s

/-- The growing run and its mark lengthened by 1. -/
def State.growGap (s : State) (n : Nat) (g : GapRun) : State :=
  let s := s.modSession n fun y => { y with gapRun := some { g with length := g.length + 1 } }
  match g.mark with
  | some k =>
    s.setMarks (s.marks.map fun m =>
      if m.session = n ∧ m.number = k then { m with length := some (g.length + 1) } else m)
  | none => s

/-- The gap accounting of a frame settled as lost. -/
def State.gapLost (s : State) (n f : Nat) (cause : LostCause) : State :=
  match s.session? n with
  | some x =>
    match x.gapRun with
    | some g => if g.cause = cause then s.growGap n g else (s.endGap n).beginGap n f cause
    | none => s.beginGap n f cause
  | none => s

/-! ### Settling (R35) -/

/-- The lost count of a cause raised by one. -/
def Session.countLost (x : Session) : LostCause → Session
  | .input => { x with lostInput := x.lostInput + 1 }
  | .storeFull => { x with lostFull := x.lostFull + 1 }
  | .storeBusy => { x with lostBusy := x.lostBusy + 1 }

/-- A frame settled by the end of its transfer. -/
def State.settleStored (s : State) (n f : Nat) : State :=
  ((s.modSession n fun x => { x with storedHead := some f }).endGap n).trimStore n

/-- A frame settled as lost. -/
def State.settleLost (s : State) (n f : Nat) (cause : LostCause) : State :=
  let s := s.modSession n fun x => { x.countLost cause with storedHead := some f }
  ((s.gapLost n f cause).countLost n f).trimStore n

/-! ### Completion at the drain (R27) -/

/-- The session of a CLOSING channel whose capture FIFO has drained is completed. -/
def State.completeSession (s : State) (c : ChannelId) (n : Nat) : State :=
  let s := (s.endGap n).closeFinalTake n
  let last := match s.session? n with | some x => x.lastFrame | none => none
  let s := s.closeOpenRanges n last
  let s := (s.modSession n fun x => { x with phase := .closed }).raiseSession n .closed
  (s.modChannel c Channel.off).freeIfDone n

end Sys2Proof.Machine
end

