-- ==== Sys2Proof/Machine/CaptureChannel.lean ====
section
/-! DEFINITION. A capture channel: the arrival of a frame (R5 to R16), LEVEL notices (R18), and the actions of its keypad
(R85 to R88). -/

namespace Sys2Proof.Machine

/-! ### LEVEL notices (R18) -/

/-- The contents of a LEVEL notice. -/
def levelContents (n f : Nat) (d : Detector) (withSamples : Bool) : List Byte :=
  u16 n ++ u32 f ++ u16 (if withSamples then d.lastLevel.getD 0 else 0) ++ yesNo (!withSamples) ++ u16 d.floor
    ++ u8 d.phase.code ++ u16 d.quietRun

/-- An arrived frame advances the LEVEL counter; at M a LEVEL notice is raised. -/
def State.countLevel (s : State) (c : ChannelId) (n f : Nat) (withSamples : Bool) : State :=
  let ch := s.channels.get c
  if ch.config.levelPeriod = 0 then s
  else if ch.config.levelPeriod ≤ ch.levelCounter + 1 then
    (s.modChannel c fun ch => { ch with levelCounter := 0 }).raise .level (.channel c)
      (levelContents n f ch.detector withSamples)
  else s.modChannel c fun ch => { ch with levelCounter := ch.levelCounter + 1 }

/-! ### Frames -/

/-- The frame takes its number, the detector analyses it (R6, R7, R13), and the session's plan governs from it on (R50). -/
def State.numberFrame (s : State) (c : ChannelId) (n f : Nat) (samples : Option (List Sample)) : State :=
  let s := s.modChannel c fun ch =>
    { ch with arrivedHead := some f, detector := ch.detector.analyse ch.config samples }
  (s.modSession n fun x => { x with arrivedHead := some f, planInForce := x.plan }).recomputeTrim n

/-- A frame joins the capture FIFO (R16). -/
def joinFifo (fifo : List CaptureEntry) (f : Nat) : Option (List Sample) → List CaptureEntry
  | some l =>
    if fifo.countP CaptureEntry.isOrdinary < Config.fifoOrdinary then fifo ++ [.ordinary f l]
    else fifo ++ [.lost f .storeBusy]
  | none => fifo ++ [.lost f .input]

/-- The pre-roll ring after a frame in ARMED (R14). -/
def nextRing (ring : List RingFrame) (f : Nat) : Option (List Sample) → List RingFrame
  | some l => (if ring.length < Config.ringFrames then ring else ring.drop 1) ++ [⟨f, l⟩]
  | none => []

/-- A frame that arrives in ARMED: the limit (R5), the ring (R14), the onset (R15). -/
def State.armedFrame (s : State) (c : ChannelId) (n f : Nat) (samples : Option (List Sample)) (onset : Bool) : State :=
  if f = Config.frameLimit then s.closeArmed c n .limit (some f)
  else
    let ring := nextRing (s.channels.get c).ring f samples
    if onset then
      let s := s.modChannel c fun ch => { ch with fifo := ring.map fun r => .preRoll r.frame r.samples }
      s.startRecording c n ((ring.head?.map (·.frame)).getD f)
    else s.modChannel c fun ch => { ch with ring := ring }

/-- A frame that arrives in RECORDING: the first take or the cut search (R48, R51), the FIFO (R16), the limit (R5). -/
def State.recordingFrame (s : State) (c : ChannelId) (x : Session) (f : Nat) (samples : Option (List Sample)) : State :=
  let n := x.number
  let s :=
    match x.firstStored with
    | some _ => s.cutSearch n f (s.channels.get c).detector.quietRun
    | none => (s.modSession n fun y => { y with firstStored := some f }).openFirstTake n f
  let s := s.modChannel c fun ch => { ch with fifo := joinFifo ch.fifo f samples }
  if f = Config.frameLimit then s.stopTaking c n .limit else s

/-- A frame arrives on a channel, completed or counted lost (R6, R7); in OFF and CLOSING nothing is numbered.  DESIGN
CHOICE: its LEVEL notice comes before the SESSION and TAKE notices of the same frame (notes/assumptions/44.md). -/
def State.frameArrives (s : State) (c : ChannelId) (samples : Option (List Sample)) : State :=
  let ch := s.channels.get c
  match s.channelSession? c, ch.phase with
  | some x, .armed =>
    let f := nextFrame ch.arrivedHead
    let s := (s.numberFrame c x.number f samples).countLevel c x.number f samples.isSome
    let onset := decide (ch.detector.phase = .quiet) && decide ((s.channels.get c).detector.phase = .speech)
    s.armedFrame c x.number f samples onset
  | some x, .recording =>
    let f := nextFrame ch.arrivedHead
    ((s.numberFrame c x.number f samples).countLevel c x.number f samples.isSome).recordingFrame c x f samples
  | _, _ => s

/-- `k` frames counted lost with cause INPUT (R7, R8); the count stops when the channel stops taking frames. -/
def State.countLostFrames (s : State) (c : ChannelId) : Nat → State
  | 0 => s
  | k + 1 =>
    if (s.channels.get c).phase.taking then State.countLostFrames (s.frameArrives c none) c k else s

/-- The contents of an INPUT notice: the condition (R7, R8). -/
def inputContents (i : InputCondition) : List Byte := u8 (match i with | .lost => 0 | .live => 1)

/-! ### The keypad (R85 to R88) -/

/-- The press frame (R85). -/
def State.pressFrame (s : State) (c : ChannelId) : Nat := nextFrame (s.channels.get c).arrivedHead

/-- The speaker after an advance (R87). -/
def nextSpeaker (speaker count : Nat) : Nat := if speaker < count then speaker + 1 else 1

/-- Key 2 (R87). -/
def State.speakerKey (s : State) (c : ChannelId) (n f : Nat) : State :=
  let ch := s.channels.get c
  let k := nextSpeaker ch.keypad.speaker ch.config.speakers
  let s := s.modChannel c fun ch => { ch with keypad := { ch.keypad with speaker := k } }
  (s.addReportedMark c { plainMark n f .speaker .keypad with speaker := some k }).1

/-- The range the off-record key asks for (R88, R96). -/
def offRecordRange (cfg : ChannelConfig) (n f : Nat) : Range where
  session := n
  number := 0
  start := f
  stop := none
  play := cfg.offPlay
  readback := storedReadback cfg.offPlay cfg.offReadback
  exportable := cfg.offExport
  label := none
  source := .keypad

/-- Key 4 (R88, R96). -/
def State.offRecordKey (s : State) (c : ChannelId) (x : Session) (f : Nat) : State :=
  let ch := s.channels.get c
  match ch.keypad.offRecord with
  | some k => (s.closeRangeAt x.number k f).raise .mark (.session x.number) (offRecordContents c x.number 3 k f)
  | none =>
    match s.rangeLimit? x true with
    | some limit => s.raise .table (.table .ranges) (rangesFullContents s x.number f limit)
    | none =>
      let r := s.insertRange x (offRecordRange ch.config x.number f)
      let s := r.1.modChannel c fun ch => { ch with keypad := { ch.keypad with offRecord := some r.2.number } }
      s.raise .mark (.session x.number) (offRecordContents c x.number 2 r.2.number f)

/-- The action of a key at its press frame, in RECORDING (R86 to R88). -/
def State.keyAction (s : State) (c : ChannelId) (k : KeyId) (f : Nat) : State :=
  match s.channelSession? c with
  | some x =>
    match k with
    | 0 => (s.addReportedMark c (plainMark x.number f .general .keypad)).1
    | 1 => s.speakerKey c x.number f
    | 2 => (s.addReportedMark c (plainMark x.number f .exhibit .keypad)).1
    | 3 => s.offRecordKey c x f
  | none => s

/-- An accepted press acts by the state of its channel (R85). -/
def State.pressAction (s : State) (c : ChannelId) (k : KeyId) : State :=
  match (s.channels.get c).phase, (s.channels.get c).session with
  | .armed, some n =>
    let f := s.pressFrame c
    (s.startRecording c n f).keyAction c k f
  | .recording, _ => s.keyAction c k (s.pressFrame c)
  | _, _ => s

/-- The accepted state of a key set; the debounce counter returns to 0 (R84). -/
def State.acceptKey (s : State) (c : ChannelId) (k : KeyId) (pressed : Bool) : State :=
  s.modChannel c fun ch =>
    { ch with keypad := { ch.keypad with keys := ch.keypad.keys.set k { pressed := pressed, debounce := 0 } } }

/-- An accepted press: the accepted state changes and the press acts (R84, R85). -/
def State.acceptPress (s : State) (c : ChannelId) (k : KeyId) : State := (s.acceptKey c k true).pressAction c k

/-- A pin level reads as pressed under a polarity (R84). -/
def Polarity.reads (p : Polarity) (high : Bool) : Bool :=
  match p with
  | .activeLow => !high
  | .activeHigh => high

/-- One sample of an enabled key (R84): it agrees, disagrees, or is the eighth that disagrees in a row. -/
def State.sampleKey (s : State) (c : ChannelId) (k : KeyId) (high : Bool) : State :=
  let ch := s.channels.get c
  let key := ch.keypad.keys.get k
  let pressed := (ch.config.polarity.get k).reads high
  if pressed = key.pressed then s.acceptKey c k key.pressed
  else if key.debounce < 7 then
    s.modChannel c fun ch =>
      { ch with keypad := { ch.keypad with
          keys := ch.keypad.keys.set k { pressed := key.pressed, debounce := key.debounce + 1 } } }
  else if pressed then s.acceptPress c k
  else s.acceptKey c k false

end Sys2Proof.Machine
end

