-- ==== Sys2Proof/Machine/LinkUnit.lean ====
section
/-! DEFINITION. The control link: discarded messages (R177), the receive buffer (R178), the taking of requests and their
replies (R179), the choice of the next outbound message (R181), and the frame every request command shares. -/

namespace Sys2Proof.Machine

/-! ### Discards (R177) -/

/-- The contents of a LINK_ERROR notice. -/
def linkErrorContents (count : Nat) (cause : LinkCause) : List Byte := u16 count ++ u8 cause.code

/-- A message discarded: the receiver hunts again, the error is counted and reported. -/
def State.discardMessage (s : State) (cause : LinkCause) : State :=
  let count := min 65535 (s.link.errorCount + 1)
  (s.modLink fun l =>
    { l with receive := .hunting, messageTimer := none, errorCount := count, lastCause := some cause }).raise
    .linkError .whole (linkErrorContents count cause)

/-! ### Replies (R178, R179) -/

/-- What a request's own rule answers: a status, and the body after the status byte. -/
structure Answer where
  status : Status
  body : List Byte
deriving DecidableEq, Repr

/-- A refusal: the status byte alone (R199). -/
def refuse (status : Status) : Answer := ⟨status, []⟩

/-- The reply to a request (R179). -/
def makeReply (r : Request) (a : Answer) : Reply := ⟨replyKind r.kind, r.tag, u8 a.status.code ++ a.body, false⟩

/-- The reply to a request whose KIND names no request (R179, R199). -/
def unknownReply (r : Request) : Reply := ⟨0x80, r.tag, u8 Status.unknownKind.code ++ u8 r.kind, false⟩

/-- The BUSY reply to a request that finds the receive buffer full (R178). -/
def busyReply (r : Request) : Reply := ⟨replyKind r.kind, r.tag, u8 Status.busy.code, true⟩

/-- The reply of the request in progress made: it joins the reply queue at the tail (R179). -/
def State.recordReply (s : State) (r : Reply) : State :=
  s.modLink fun l =>
    { l with
      inProgress := l.inProgress.map fun p => { p with reply := some r }
      replies := l.replies ++ [r] }

/-! ### Taking a request (R179) -/

/-- What the link itself answers at the taking, before any block sees the request: STARTING or BAD_LENGTH. -/
def linkCheck (device : DeviceState) (r : Request) : Option Status :=
  if device = .starting ∧ r.kind ≠ 0x01 then some .starting
  else
    match requestLength r.kind with
    | some n => if r.body.length = n then none else some .badLength
    | none => none

/-- The head of the receive buffer taken when no request is in progress.  A request that passes the link's checks waits for
its own command. -/
def State.takeRequest (s : State) : State :=
  match s.link.inProgress, s.link.buffer with
  | none, r :: rest =>
    let s := s.modLink fun l => { l with buffer := rest, inProgress := some ⟨r, none⟩ }
    match linkCheck s.link.device r with
    | some status => s.recordReply (makeReply r (refuse status))
    | none => s
  | _, _ => s

/-- A received request joins the buffer, is answered BUSY, or is discarded with OVERRUN (R178). -/
def State.receiveRequest (s : State) (r : Request) : State :=
  if s.link.buffer.length < Config.receiveBuffer then
    (s.modLink fun l => { l with buffer := l.buffer ++ [r] }).takeRequest
  else if (s.link.replies.countP fun p => p.busy) < Config.busyReplies then
    s.modLink fun l => { l with replies := l.replies ++ [busyReply r] }
  else s.discardMessage .overrun

/-! ### The outbound line (R181) -/

/-- The transmitter, when it is IDLE, chooses and forms the next message: a reply, the oldest notice, FETCH_END or DATA.  A
reply leaves the reply queue when it is chosen (notes/assumptions/15.md). -/
def State.transmit (s : State) : State :=
  match s.link.line with
  | some _ => s
  | none =>
    match s.link.replies with
    | r :: rest => s.modLink fun l => { l with replies := rest, line := some (.reply r) }
    | [] =>
      match s.link.notices with
      | n :: rest => s.modLink fun l => { l with notices := rest, line := some (.notice n) }
      | [] =>
        match s.exporter.phase with
        | .idle => s
        | .ending => s.modLink fun l => { l with line := some (.fetchEnd s.exporter.formEnd false) }
        | .streaming =>
          if s.exporter.dataReady then
            let d := s.exporter.formData
            (s.modLink fun l => { l with line := some (.data d false) }).modExporter fun e =>
              e.takeUpTo (e.sendPosition + d.samples.length)
          else s

/-- The lines at the end of a command that began in state `before`: the control link (R181) and the station lines (R147). -/
def State.finish (before s : State) : State := before.stationLines s.transmit

/-! ### Request commands (R179) -/

/-- The command `i` may be performed as request `r` in state `s`: it answers the request in progress, or the link is at rest
and the command stands for its receipt and taking as well (notes/assumptions/4.md). -/
def State.admits (s : State) (i : Instr) : Bool :=
  match s.link.inProgress with
  | some p => decide (p.reply = none) && decide (answeringInstr p.request = some i)
  | none => s.link.buffer.isEmpty

/-- The state in which `r` is the request in progress. -/
def State.withRequest (s : State) (r : Request) : State :=
  match s.link.inProgress with
  | some _ => s
  | none => s.modLink fun l => { l with inProgress := some ⟨r, none⟩ }

/-- The request in progress, or `r`. -/
def State.requestOr (s : State) (r : Request) : Request :=
  match s.link.inProgress with
  | some p => p.request
  | none => r

/-- A request command: it is taken, refused while STARTING (R179, R184), or performed by its own rule `f`, and its reply
joins the reply queue. -/
def State.performRequest (s : State) (i : Instr) (f : State → State × Answer) : State :=
  match i.request with
  | some r =>
    if s.admits i then
      let r := s.requestOr r
      let s := s.withRequest r
      if s.link.device = .starting ∧ r.kind ≠ 0x01 then s.recordReply (makeReply r (refuse .starting))
      else
        let a := f s
        a.1.recordReply (makeReply r a.2)
    else s
  | none => s

/-- A request that changes nothing but what its reply reports. -/
def reportOnly (f : State → Answer) (s : State) : State × Answer := (s, f s)

/-- The outcome of a request command whose effect leaves the store readers as they are. -/
def State.request (s : State) (i : Instr) (f : State → State × Answer) : Host.Outcome State Fault Refusal :=
  .next (State.finish s (s.performRequest i f))

end Sys2Proof.Machine
end

