-- ==== Sys2Proof/Machine/StoreArbiter.lean ====
section
/-! DEFINITION. The store arbiter: request levels (R166 to R169), the choice of a client (R170), the grant and what it does at
its start (R171), and the settling of everything that follows at once: lost entries, drained sessions, readers, export
messages and the next grant (R16, R27, R165). -/

namespace Sys2Proof.Machine

/-! ### Levels -/

/-- The level of a capture writer (R166): its entries with samples, held at 3. -/
def Channel.level (ch : Channel) : Nat := min 3 (ch.fifo.countP CaptureEntry.hasSamples)

/-- The level of a requesting station or read-back reader (R167). -/
def readerLevel (entries : Nat) (resting : Bool) : Nat :=
  if Config.playFifo ≤ entries then 0
  else if resting then (if entries < 3 then 3 - entries else 0)
  else if entries = 3 then 1
  else 3 - entries

/-- The reader waits for the transfer of a present frame. -/
def ReaderState.requests : ReaderState → Bool
  | .request .. => true
  | .idle | .waiting | .stopped => false

/-- The level of a read-back reader (R167). -/
def Readback.level (u : Readback) : Nat :=
  if u.current.isSome && u.reader.requests then readerLevel u.fifo.length u.resting else 0

/-- The level of a station reader (R167). -/
def Station.level (st : Station) : Nat :=
  if st.config.enable && decide (st.transport ≠ .stopped) && !st.takes.isEmpty && st.reader.requests then
    readerLevel st.fifo.length st.resting
  else 0

/-- The level of the export reader (R168). -/
def Exporter.level (e : Exporter) : Nat :=
  if decide (e.phase = .streaming) && e.reader.requests && decide (e.fifo.length < Config.exportFifo) then 1 else 0

/-- The level of refresh (R169). -/
def refreshLevel (due : Nat) : Nat := if due = 0 then 0 else if due < 4 then 1 else 3

/-- The level a client presents. -/
def State.level (s : State) : Client → Nat
  | .refresh => refreshLevel s.arbiter.refreshDue
  | .capture c => (s.channels.get c).level
  | .readback c => (s.readback.get c).level
  | .station n => (s.stations.get n).level
  | .exporter => s.exporter.level

/-! ### The choice (R170) -/

/-- The clients in rank order, the stations after the rotation pointer in cyclic order. -/
def clientRank (pointer : StationId) : List Client :=
  [.refresh] ++ allChannels.map .capture ++ allChannels.map .readback ++ (rotationOrder pointer).map .station
    ++ [.exporter]

/-- The highest level presented. -/
def State.topLevel (s : State) : Nat := ((clientRank s.arbiter.stationPointer).map s.level).foldl max 0

/-- The client to grant: the first in rank of the highest level presented; none when no client requests. -/
def State.chooseClient (s : State) : Option Client :=
  if s.topLevel = 0 then none else (clientRank s.arbiter.stationPointer).find? fun k => s.level k = s.topLevel

/-! ### The grant (R171) -/

/-- The port becomes BUSY with a transfer of a block and slot, or with a refresh burst. -/
def State.setGrant (s : State) (k : Client) (block slot : Nat) : State :=
  s.modArbiter fun a => { a with grant := some ⟨k, true, block, slot⟩ }

/-- The head entry leaves a capture FIFO. -/
def State.popCapture (s : State) (c : ChannelId) : State := s.modChannel c fun ch => { ch with fifo := ch.fifo.tail }

/-- A capture grant (R34): the store chooses the place of the head entry's frame, or the frame is lost with cause
STORE_FULL and the port stays FREE. -/
def State.grantCapture (s : State) (c : ChannelId) : State :=
  match s.channels.get c, s.channelSession? c with
  | ch, some x =>
    match ch.fifo with
    | .ordinary f _ :: _ | .preRoll f _ :: _ =>
      match s.store.place x.number f with
      | some (st, b, slot) => ((s.modStore fun _ => st).setGrant (.capture c) b slot).checkCondition
      | none => (s.popCapture c).settleLost x.number f .storeFull
    | .lost .. :: _ | [] => s
  | _, none => s

/-- A grant made to a client. -/
def State.grantTo (s : State) (k : Client) : State :=
  match k with
  | .refresh => s.setGrant .refresh 0 0
  | .capture c => s.grantCapture c
  | .readback c =>
    match (s.readback.get c).reader with
    | .request _ b slot => s.setGrant (.readback c) b slot
    | .idle | .waiting | .stopped => s
  | .station n =>
    match (s.stations.get n).reader with
    | .request _ b slot => (s.modArbiter fun a => { a with stationPointer := n }).setGrant (.station n) b slot
    | .idle | .waiting | .stopped => s
  | .exporter =>
    match s.exporter.reader with
    | .request _ b slot => s.setGrant .exporter b slot
    | .idle | .waiting | .stopped => s

/-! ### What follows at once -/

/-- Lost entries at the head of a capture FIFO are accounted for and leave (R16, R35). -/
def State.drainLost (s : State) (c : ChannelId) : Nat → State
  | 0 => s
  | k + 1 =>
    match (s.channels.get c).fifo, s.channelSession? c with
    | .lost f cause :: _, some x => State.drainLost ((s.popCapture c).settleLost x.number f cause) c k
    | _, _ => s

/-- A transfer of the channel's capture writer is in flight. -/
def State.capturing (s : State) (c : ChannelId) : Bool :=
  match s.arbiter.grant with
  | some g => decide (g.client = .capture c)
  | none => false

/-- The channel's capture FIFO worked off as far as it goes without the port; a drained CLOSING channel completes its session
(R4, R27). -/
def State.settleChannel (s : State) (c : ChannelId) : State :=
  let s := s.drainLost c (s.channels.get c).fifo.length
  let ch := s.channels.get c
  match ch.phase, ch.session with
  | .closing, some n => if ch.fifo.isEmpty && !s.capturing c then s.completeSession c n else s
  | _, _ => s

def State.settleChannels (s : State) : State := allChannels.foldl (fun s c => s.settleChannel c) s

/-- Everything that follows at once before a decision: capture FIFOs, readers, the outbound line and the export FIFO. -/
def State.settleOnce (s : State) : State := s.settleChannels.runReadbacks.runStations.runExport.transmit.runExport

/-- The decision of the arbiter, when the port is FREE (R165, R170). -/
def State.decideGrant (s : State) : State :=
  match s.arbiter.grant with
  | some _ => s
  | none =>
    match s.chooseClient with
    | some k => s.grantTo k
    | none => s

/-- Settling and deciding until the port is BUSY or no client requests.  A decision that leaves the port FREE has lost a
frame with STORE_FULL, so at most one more round is needed than there are entries with samples. -/
def State.settleRounds (s : State) : Nat → State
  | 0 => s
  | k + 1 =>
    let s := s.settleOnce
    match s.arbiter.grant, s.chooseClient with
    | none, some _ => State.settleRounds s.decideGrant k
    | _, _ => s

/-- Entries with samples waiting in the capture FIFOs. -/
def State.waitingFrames (s : State) : Nat :=
  (allChannels.map fun c => (s.channels.get c).fifo.countP CaptureEntry.hasSamples).sum

/-- All that follows at once from a command. -/
def State.settle (s : State) : State := s.settleRounds (s.waitingFrames + 2)

/-- The end of a command that began in state `before` and may move frames. -/
def State.settleAll (before s : State) : State := State.finish before s.settle

/-- The outcome of a request command that may move frames. -/
def State.requestMoving (s : State) (i : Instr) (f : State → State × Answer) : Host.Outcome State Fault Refusal :=
  .next (State.settleAll s (s.performRequest i f))

end Sys2Proof.Machine
end

