-- ==== Sys2Proof/Machine/CaptureEvents.lean ====
section
/-! DEFINITION. The events of the capture channels: frames, input loss and return (R6 to R8), the channel output (R17, R158), the
keypads (R84, R85) and the end of a capture transfer (R35). -/

namespace Sys2Proof.Machine

/-! ### Frames and the input -/

/-- A frame completed: the echo source in every state but while a read-back plays (R17), numbered and passed on in ARMED
and RECORDING (R6). -/
def State.completeFrame (s : State) (c : ChannelId) (frame : List Sample) : State :=
  let echo := if (s.readback.get c).current.isSome then none else some frame
  (s.modChannel c fun ch => { ch with assembler := [], inputLossTimer := 0, echo := echo }).frameArrives c (some frame)

/-- FRAME_COMPLETED, with the samples received since the last capture event of the channel (notes/assumptions/8.md). -/
def execFrameCompleted (c : ChannelId) (samples : List Sample) (s : State) : Host.Outcome State Fault Refusal :=
  let ch := s.channels.get c
  let frame := ch.assembler ++ samples
  if ch.input = .live ∧ samples ≠ [] ∧ frame.length = Config.frameSamples then
    .next (State.settleAll s (s.completeFrame c frame))
  else .next s

/-- The input is lost: the partial frame is discarded, the tick starts, the notice is raised (R7). -/
def State.loseInput (s : State) (c : ChannelId) : State :=
  (s.modChannel c fun ch =>
    { ch with input := .lost, assembler := [], inputLossTimer := 48, lostTick := some 0 }).raise
    .input (.channel c) (inputContents .lost)

/-- INPUT_LOSS_TIMER_EXPIRY (R7): three frames are counted lost at once in ARMED and RECORDING. -/
def execInputLossTimerExpiry (c : ChannelId) (s : State) : Host.Outcome State Fault Refusal :=
  match (s.channels.get c).input with
  | .live => .next (State.settleAll s ((s.loseInput c).countLostFrames c 3))
  | .lost => .next s

/-- LOST_FRAME_TICK (R8). -/
def execLostFrameTick (c : ChannelId) (s : State) : Host.Outcome State Fault Refusal :=
  match (s.channels.get c).input with
  | .lost => .next (State.settleAll s ((s.modChannel c fun ch => { ch with lostTick := some 0 }).countLostFrames c 1))
  | .live => .next s

/-- The first sample after a loss (R8). -/
def State.returnInput (s : State) (c : ChannelId) (x : Sample) : State :=
  (s.modChannel c fun ch =>
    { ch with input := .live, assembler := [x], inputLossTimer := 0, lostTick := none }).raise
    .input (.channel c) (inputContents .live)

/-- INPUT_RETURNED (R8). -/
def execInputReturned (c : ChannelId) (x : Sample) (s : State) : Host.Outcome State Fault Refusal :=
  match (s.channels.get c).input with
  | .lost => .next (State.finish s (s.returnInput c x))
  | .live => .next s

/-! ### The channel output (R17, R158) -/

/-- The output for the next frame time; the echo source is used up or passed over. -/
def Channel.play (ch : Channel) (source : OutputSource) (frame : Option (List Sample)) : Channel :=
  { ch with output := source, outputFrame := frame, echo := none }

/-- The output by the output mode (R17): echo, silent while the input is LOST, or quiet. -/
def Channel.playMode (ch : Channel) : Channel :=
  match ch.config.outputMode with
  | .echo => ch.play .echo (match ch.input with | .live => ch.echo | .lost => none)
  | .quiet => ch.play .quiet none

/-- An output frame time while an entry plays (R158). -/
def State.readbackFrame (s : State) (c : ChannelId) : State :=
  let u := s.readback.get c
  match u.fifo with
  | e :: _ =>
    let u' := if e.samples.isSome then u.pop.countPlayed else u.pop
    (s.modReadback c fun _ => u').modChannel c fun ch => ch.play .readback e.samples
  | [] =>
    if u.finished then
      let s := s.endEntry c .ended
      if (s.readback.get c).current.isSome then s.modChannel c fun ch => ch.play .readback none
      else s.modChannel c Channel.playMode
    else if u.reader = .waiting then s.modChannel c fun ch => ch.play .readback none
    else
      (s.modReadback c fun u => { u with underruns := min 65535 (u.underruns + 1) }).modChannel c fun ch =>
        ch.play .readback none

/-- CHANNEL_OUTPUT_FRAME_TIME (R17). -/
def execChannelOutputFrameTime (c : ChannelId) (s : State) : Host.Outcome State Fault Refusal :=
  let t :=
    match (s.readback.get c).current with
    | some _ => s.readbackFrame c
    | none => s.modChannel c Channel.playMode
  .next (State.settleAll s t)

/-! ### The keypads (R84, R85) -/

/-- The key is enabled and its accepted state is RELEASED, or PRESSED. -/
def State.keyIs (s : State) (c : ChannelId) (k : KeyId) (pressed : Bool) : Bool :=
  (s.channels.get c).config.enable.get k && ((s.channels.get c).keypad.keys.get k).pressed == pressed

/-- KEYPAD_PRESS_ACCEPTED (R84, R85). -/
def execKeypadPressAccepted (c : ChannelId) (k : KeyId) (s : State) : Host.Outcome State Fault Refusal :=
  if s.keyIs c k false then .next (State.finish s (s.acceptPress c k)) else .next s

/-- KEYPAD_RELEASE_ACCEPTED (R84). -/
def execKeypadReleaseAccepted (c : ChannelId) (k : KeyId) (s : State) : Host.Outcome State Fault Refusal :=
  if s.keyIs c k true then .next (State.finish s (s.acceptKey c k false)) else .next s

/-- KEY_SAMPLE (R84): a key with enable no is not sampled. -/
def execKeySample (c : ChannelId) (k : KeyId) (high : Bool) (s : State) : Host.Outcome State Fault Refusal :=
  if (s.channels.get c).config.enable.get k then .next (State.finish s (s.sampleKey c k high)) else .next s

/-! ### The end of a capture transfer (R16, R35, R171) -/

/-- The port is FREE again. -/
def State.freePort (s : State) : State := s.modArbiter fun a => { a with grant := none }

/-- The frame is in its slot; its entry leaves the FIFO and is settled. -/
def State.captured (s : State) (c : ChannelId) (n f : Nat) (samples : List Sample) (g : Grant) : State :=
  (((s.modStore fun st => st.writeFrame g.block g.slot samples).freePort).popCapture c).settleStored n f

/-- The head of a capture FIFO when it has samples: its frame and samples. -/
def Channel.headFrame (ch : Channel) : Option (Nat × List Sample) :=
  match ch.fifo with
  | .ordinary f l :: _ | .preRoll f l :: _ => some (f, l)
  | .lost .. :: _ | [] => none

/-- CAPTURE_TRANSFER_END (R35). -/
def execCaptureTransferEnd (s : State) : Host.Outcome State Fault Refusal :=
  match s.arbiter.grant with
  | some g =>
    match g.client with
    | .capture c =>
      match (s.channels.get c).headFrame, s.channelSession? c with
      | some (f, l), some x =>
        if s.store.holds g.block g.slot then .next (State.settleAll s (s.captured c x.number f l g))
        else .fault .outsideStore
      | _, _ => .next s
    | .refresh | .readback _ | .station _ | .exporter => .next s
  | none => .next s

end Sys2Proof.Machine
end

