-- ==== Sys2Proof/Machine/ArbiterEvents.lean ====
section
/-! DEFINITION. The events of the store arbiter: the ends of the readers' transfers (R140, R157, R171, R189), refresh due times
and the ends of refresh bursts (R169). -/

namespace Sys2Proof.Machine

/-- The trim applied again to the session whose chain holds the block of an ended transfer (R42). -/
def State.trimOwner (s : State) (block : Nat) : State :=
  match s.store.mapEntry block with
  | some e => s.trimStore e.1
  | none => s

/-- The end of a reader's transfer (R171): a frame fetched for a reader that still wants it is given to `deliver`; any other is
discarded. -/
def State.endTransfer (s : State) (g : Grant) (deliver : State → List Sample → State) :
    Host.Outcome State Fault Refusal :=
  if g.live then
    if s.store.holds g.block g.slot then
      match s.store.readFrame g.block g.slot with
      | some l => .next (State.settleAll s ((deliver s.freePort l).trimOwner g.block))
      | none => .fault .unwrittenStore
    else .fault .outsideStore
  else .next (State.settleAll s (s.freePort.trimOwner g.block))

/-- A frame joins a playout FIFO (R140). -/
def State.deliverStation (n : StationId) (s : State) (l : List Sample) : State :=
  match (s.stations.get n).reader with
  | .request f _ _ => s.modStation n fun st => st.push f (some l)
  | .idle | .waiting | .stopped => s

/-- STATION_READER_TRANSFER_END (R140, R171). -/
def execStationReaderTransferEnd (s : State) : Host.Outcome State Fault Refusal :=
  match s.arbiter.grant with
  | some g =>
    match g.client with
    | .station n => s.endTransfer g (State.deliverStation n)
    | .refresh | .capture _ | .readback _ | .exporter => .next s
  | none => .next s

/-- A frame joins a read-back FIFO, and the fetch position advances (R157). -/
def State.deliverReadback (c : ChannelId) (s : State) (l : List Sample) : State :=
  match (s.readback.get c).reader, (s.readback.get c).current with
  | .request f _ _, some k =>
    (s.modReadback c fun u => (u.push f (some l)).advance f k.stop).recomputeTrim k.entry.session
  | _, _ => s

/-- READBACK_READER_TRANSFER_END (R157, R171). -/
def execReadbackReaderTransferEnd (s : State) : Host.Outcome State Fault Refusal :=
  match s.arbiter.grant with
  | some g =>
    match g.client with
    | .readback c => s.endTransfer g (State.deliverReadback c)
    | .refresh | .capture _ | .station _ | .exporter => .next s
  | none => .next s

/-- A frame joins the export FIFO, and the cursor advances (R189). -/
def State.deliverExport (s : State) (l : List Sample) : State :=
  match s.exporter.reader with
  | .request f _ _ => (s.modExporter fun e => (e.push f (.samples l)).advance f).recomputeTrim s.exporter.session
  | .idle | .waiting | .stopped => s

/-- EXPORT_READER_TRANSFER_END (R189, R171). -/
def execExportReaderTransferEnd (s : State) : Host.Outcome State Fault Refusal :=
  match s.arbiter.grant with
  | some g =>
    match g.client with
    | .exporter => s.endTransfer g State.deliverExport
    | .refresh | .capture _ | .readback _ | .station _ => .next s
  | none => .next s

/-- REFRESH_DUE_TIME (R169): the due count rises, held at 15, and the timer restarts. -/
def execRefreshDueTime (s : State) : Host.Outcome State Fault Refusal :=
  .next (State.settleAll s (s.modArbiter fun a => { a with refreshTimer := 0, refreshDue := min 15 (a.refreshDue + 1) }))

/-- REFRESH_BURST_END (R169). -/
def execRefreshBurstEnd (s : State) : Host.Outcome State Fault Refusal :=
  match s.arbiter.grant with
  | some g =>
    match g.client with
    | .refresh =>
      .next (State.settleAll s (s.modArbiter fun a => { a with grant := none, refreshDue := a.refreshDue - 1 }))
    | .capture _ | .readback _ | .station _ | .exporter => .next s
  | none => .next s

end Sys2Proof.Machine
end

