-- ==== Sys2Proof/Machine/SessionCommands.lean ====
section
/-! DEFINITION. The requests of the session table and the audio store: OPEN_SESSION (R24), CLOSE_SESSION (R26), SESSION_INFO
(R43), STORE_INFO (R44) and CONFIGURE_STORE (R37). -/

namespace Sys2Proof.Machine

/-! ### OPEN_SESSION (R2, R23, R24) -/

/-- A plan as the host sends it: N of four bytes, G of two, P and O_s of one, O_h of two (R197). -/
def planFields (p : Plan) : List Byte :=
  u32 p.nominal ++ u16 p.grace ++ u8 p.pause ++ u8 p.softOverlap ++ u16 p.hardOverlap

/-- The start mode OPEN_SESSION gives a session, and the channel's default where it is omitted (R24). -/
def startModeOf (r : OpenSessionReq) (cfg : ChannelConfig) : StartMode :=
  match r.startMode with
  | some k => StartMode.ofCode k
  | none => cfg.startMode

/-- The entry of a new session (R24); the label is stored as given. -/
def newSession (r : OpenSessionReq) (n : Nat) (c : ChannelId) (cfg : ChannelConfig) : Session where
  number := n
  channel := c
  phase := match startModeOf r cfg with | .immediate => .recording | .onVoice => .armed
  label := r.label
  plan := applyPatch (clampPatch r.plan) cfg.plan
  planInForce := applyPatch (clampPatch r.plan) cfg.plan
  dispatchMode := (r.dispatchMode.map DispatchMode.ofCode).getD .onClose
  takeClass := (r.takeClass.map TakeClass.ofCode).getD .regular
  stationChoice := (r.stationChoice.map StationChoice.ofCode).getD .rotate
  firstStored := none
  arrivedHead := none
  storedHead := none
  lastFrame := none
  trimPoint := none
  takeCount := 0
  openTake := none
  closeReason := none
  lostInput := 0
  lostFull := 0
  lostBusy := 0
  gapRun := none
  forcedPending := false
  extensionReported := false
  reserved := true
  markIssued := 0
  rangeIssued := 0

/-- A code given is above the highest defined one. -/
def aboveCode (highest : Nat) : Option Nat → Bool
  | some k => decide (highest < k)
  | none => false

/-- A value of the request was clamped or changed (R24). -/
def openChanges (r : OpenSessionReq) : Bool :=
  aboveCode 1 r.startMode || aboveCode 2 r.dispatchMode
    || aboveCode 2 r.takeClass || aboveCode 1 r.stationChoice
    || decide (clampPatch r.plan ≠ r.plan)

/-- The channel binds the session (R2); its keypad's current speaker is set to 1 (R87). -/
def Channel.bind (ch : Channel) (n : Nat) (m : StartMode) : Channel :=
  { ch with
    phase := match m with | .immediate => .recording | .onVoice => .armed
    session := some n
    startMode := some m
    arrivedHead := none
    lastFrame := none
    detector := Detector.reset
    ring := []
    fifo := []
    levelCounter := 0
    keypad := { ch.keypad with speaker := 1 } }

/-- The open session count, the gap run and the chain of a session record, as reported. -/
def gapFields (x : Session) : List Byte :=
  opt8 (x.gapRun.map (·.cause.code)) ++ opt32 (x.gapRun.map (·.first)) ++ u32 ((x.gapRun.map (·.length)).getD 0)
    ++ num16 (x.gapRun.bind (·.mark))

/-- The fields of a session record up to its trim point, in the order of the table of chapter 02 (R43). -/
def sessionHead (x : Session) : List Byte :=
  u16 x.number ++ u8 x.channel.val ++ u8 x.phase.code ++ optText x.label ++ planFields x.plan ++ u8 x.dispatchMode.code
    ++ u8 x.takeClass.code ++ u8 x.stationChoice.code ++ opt32 x.firstStored ++ opt32 x.arrivedHead ++ opt32 x.storedHead
    ++ opt32 x.lastFrame ++ opt32 x.trimPoint

/-- The three lost counts. -/
def lostCounts (x : Session) : List Byte := u32 x.lostInput ++ u32 x.lostFull ++ u32 x.lostBusy

/-- The session record reported whole, in the order of the table of chapter 02. -/
def State.sessionRecord (s : State) (x : Session) : List Byte :=
  sessionHead x ++ u16 x.takeCount ++ num16 x.openTake ++ u8 (s.openRanges x.number)
    ++ opt8 (x.closeReason.map (·.code)) ++ listBytes (fun b => u16 b.block) (s.store.chain x.number) ++ lostCounts x
    ++ gapFields x

/-- A session opened on a channel (R24). -/
def State.openSession (s : State) (c : ChannelId) (r : OpenSessionReq) : State × Answer :=
  let cfg := (s.channels.get c).config
  let n := s.issueSession
  let x := newSession r n c cfg
  let s := { s with sessions := s.sessions ++ [x], lastSession := n }
  let s := (s.modStore fun st => st.openChain n).modChannel c fun ch => ch.bind n (startModeOf r cfg)
  (s, ⟨adjusted (openChanges r), u16 n ++ s.sessionRecord x⟩)

/-- OPEN_SESSION (R24). -/
def execOpenSession (tag : Byte) (r : OpenSessionReq) (s : State) : Host.Outcome State Fault Refusal :=
  s.request (.openSession tag r) fun s =>
    match channelOf r.channel with
    | none => (s, refuse .noSuch)
    | some c =>
      if (s.channels.get c).phase ≠ .off then (s, refuse .wrongState)
      else if Config.sessionEntries ≤ s.sessions.length then (s, refuse .full)
      else if s.takesFree = 0 then (s, refuse .full)
      else s.openSession c r

/-! ### CLOSE_SESSION (R26) -/

/-- The reply of a session that has stopped taking frames: the state it entered and its last frame (R26). -/
def closeBody (n : Nat) (p : SessionPhase) (last : Option Nat) : List Byte := u16 n ++ u8 p.code ++ opt32 last

def State.closeSession (s : State) (x : Session) : State × Answer :=
  match x.phase with
  | .armed => (s.closeArmed x.channel x.number .request none, ⟨.ok, closeBody x.number .closed none⟩)
  | .recording =>
    (s.stopTaking x.channel x.number .request, ⟨.ok, closeBody x.number .closing (s.arrivedOf x.number)⟩)
  | .closing | .closed => (s, refuse .wrongState)

/-- CLOSE_SESSION (R26): the drain of a session whose capture FIFO is empty follows at once (R3, R4). -/
def execCloseSession (tag : Byte) (session : Nat) (s : State) : Host.Outcome State Fault Refusal :=
  s.requestMoving (.closeSession tag session) fun s =>
    match s.session? session with
    | none => (s, refuse .noSuch)
    | some x => s.closeSession x

/-! ### Reports -/

/-- Session entries in increasing number order (R43, R44). -/
def State.orderedSessions (s : State) : List Session :=
  s.sessions.foldl (fun l x => insertBy (fun a b => decide (a.number < b.number)) x l) []

/-- The report of one session (R43); the number of unreleased takes in one byte, a DESIGN CHOICE (notes/assumptions/13.md). -/
def State.sessionReport (s : State) (x : Session) : List Byte :=
  let chain := s.store.chain x.number
  sessionHead x ++ u16 x.takeCount ++ num16 x.openTake ++ u8 (s.takesOf x.number).length ++ u8 (s.openRanges x.number)
    ++ opt8 (x.closeReason.map (·.code)) ++ u16 chain.length ++ opt32 (chain.head?.map (·.first)) ++ lostCounts x
    ++ gapFields x

/-- The report of the session table (R43). -/
def State.tableReport (s : State) : List Byte :=
  listBytes (fun x : Session => u16 x.number ++ u8 x.channel.val ++ u8 x.phase.code) s.orderedSessions
    ++ u16 s.sessions.length

/-- SESSION_INFO (R43). -/
def execSessionInfo (tag : Byte) (session : Nat) (s : State) : Host.Outcome State Fault Refusal :=
  s.request (.sessionInfo tag session) <| reportOnly fun s =>
    if session = 0 then ⟨.ok, s.tableReport⟩
    else
      match s.session? session with
      | some x => ⟨.ok, s.sessionReport x⟩
      | none => refuse .noSuch

/-- The report of the audio store (R44). -/
def State.storeReport (s : State) : List Byte :=
  u16 s.store.blocks ++ u16 s.store.free.length ++ opt16 s.store.free.head? ++ u16 s.store.lowMark
    ++ u8 s.store.condition.code
    ++ listBytes (fun x : Session => u16 x.number ++ u16 (s.store.chain x.number).length) s.orderedSessions

/-- STORE_INFO (R44). -/
def execStoreInfo (tag : Byte) (s : State) : Host.Outcome State Fault Refusal :=
  s.request (.storeInfo tag) (reportOnly fun s => ⟨.ok, s.storeReport⟩)

/-- CONFIGURE_STORE (R37). -/
def execConfigureStore (tag : Byte) (lowMark : Nat) (s : State) : Host.Outcome State Fault Refusal :=
  s.request (.configureStore tag lowMark) fun s =>
    let m := clamp 0 4096 lowMark
    let s := (s.modStore fun st => { st with lowMark := m }).checkCondition
    (s, ⟨adjusted (decide (m ≠ lowMark)), u16 m ++ u16 s.store.free.length ++ u8 s.store.condition.code⟩)

end Sys2Proof.Machine
end

