-- ==== Sys2Proof/Machine/ChannelCommands.lean ====
section
/-! DEFINITION. The requests of a channel: CONFIGURE_CHANNEL (R19, R20) and CHANNEL_INFO (R21). -/

namespace Sys2Proof.Machine

/-! ### CONFIGURE_CHANNEL (R19, R20, R84) -/

/-- The configuration as stored: numbers clamped to the ranges of R19, codes above the highest taken as the highest,
off-record READBACK no beside PLAY NONE. -/
def storedConfig (r : ConfigureChannelReq) : ChannelConfig where
  ratio := clamp 12 64 r.ratio
  minimum := clamp 0 4096 r.minimum
  onsetRun := clamp 1 8 r.onsetRun
  hangRun := clamp 4 63 r.hangRun
  startMode := StartMode.ofCode r.startMode
  outputMode := OutputMode.ofCode r.outputMode
  polarity := ⟨Polarity.ofCode r.polarity.c0, Polarity.ofCode r.polarity.c1, Polarity.ofCode r.polarity.c2,
    Polarity.ofCode r.polarity.c3⟩
  enable := r.enable
  speakers := clamp 2 31 r.speakers
  offPlay := PlayPermission.ofCode r.offPlay
  offReadback := storedReadback (PlayPermission.ofCode r.offPlay) r.offReadback
  offExport := r.offExport
  levelPeriod := clamp 0 250 r.levelPeriod
  plan := clampPlan r.plan

/-- The polarity bytes of a request above the highest code. -/
def polarityAbove (p : PerChannel Nat) : Bool :=
  decide (1 < p.c0) || decide (1 < p.c1) || decide (1 < p.c2) || decide (1 < p.c3)

/-- A value of the request was clamped or changed. -/
def configChanges (r : ConfigureChannelReq) : Bool :=
  let c := storedConfig r
  decide (c.ratio ≠ r.ratio) || decide (c.minimum ≠ r.minimum) || decide (c.onsetRun ≠ r.onsetRun)
    || decide (c.hangRun ≠ r.hangRun) || decide (1 < r.startMode) || decide (1 < r.outputMode)
    || polarityAbove r.polarity || decide (c.speakers ≠ r.speakers) || decide (2 < r.offPlay)
    || decide (c.offReadback ≠ r.offReadback) || decide (c.levelPeriod ≠ r.levelPeriod) || decide (c.plan ≠ r.plan)

/-- A key under a new enable: a disabled key is RELEASED and counts nothing (R84). -/
def keyUnder (enable : Bool) (k : KeyState) : KeyState := if enable then k else { pressed := false, debounce := 0 }

/-- The channel with a new configuration (R20): the LEVEL counter restarts when M changes, a disabled key is dropped. -/
def Channel.configure (ch : Channel) (cfg : ChannelConfig) : Channel :=
  let k := ch.keypad.keys
  { ch with
    config := cfg
    levelCounter := if cfg.levelPeriod = ch.config.levelPeriod then ch.levelCounter else 0
    keypad := { ch.keypad with
      keys := ⟨keyUnder cfg.enable.c0 k.c0, keyUnder cfg.enable.c1 k.c1, keyUnder cfg.enable.c2 k.c2,
        keyUnder cfg.enable.c3 k.c3⟩ } }

/-- A value of each of the four keys. -/
def keyBytes {α : Type} (f : α → List Byte) (p : PerChannel α) : List Byte := f p.c0 ++ f p.c1 ++ f p.c2 ++ f p.c3

/-- A configuration reported whole, in the order of R19. -/
def configBytes (c : ChannelConfig) : List Byte :=
  u8 c.ratio ++ u16 c.minimum ++ u8 c.onsetRun ++ u8 c.hangRun ++ u8 c.startMode.code ++ u8 c.outputMode.code
    ++ keyBytes (fun p => u8 p.code) c.polarity ++ keyBytes yesNo c.enable ++ u8 c.speakers ++ u8 c.offPlay.code
    ++ yesNo c.offReadback ++ yesNo c.offExport ++ u8 c.levelPeriod ++ planFields c.plan

/-- CONFIGURE_CHANNEL (R19). -/
def execConfigureChannel (tag : Byte) (r : ConfigureChannelReq) (s : State) : Host.Outcome State Fault Refusal :=
  s.request (.configureChannel tag r) fun s =>
    match channelOf r.channel with
    | none => (s, refuse .noSuch)
    | some c =>
      (s.modChannel c fun ch => ch.configure (storedConfig r), ⟨adjusted (configChanges r), configBytes (storedConfig r)⟩)

/-! ### CHANNEL_INFO (R21) -/

/-- Accepted state PRESSED 0, RELEASED 1, and the debounce counter. -/
def keyStateBytes (k : KeyState) : List Byte := u8 (if k.pressed then 0 else 1) ++ u8 k.debounce

/-- The keypad state: the keys, the current speaker, the off-record toggle with its range. -/
def keypadBytes (k : Keypad) : List Byte :=
  keyBytes keyStateBytes k.keys ++ u8 k.speaker ++ u8 (if k.offRecord.isSome then 1 else 0) ++ num16 k.offRecord

/-- The report of a channel (R21); the counts of the ring and of the FIFO by DESIGN CHOICE (notes/assumptions/13.md). -/
def channelReport (ch : Channel) : List Byte :=
  u8 ch.phase.code ++ num16 ch.session ++ opt8 (ch.startMode.map (·.code)) ++ opt32 ch.arrivedHead ++ opt32 ch.lastFrame
    ++ u8 ch.input.code ++ u16 ch.detector.floor ++ u8 ch.detector.phase.code ++ u16 ch.detector.voicedRun
    ++ u16 ch.detector.quietRun ++ opt16 ch.detector.lastLevel ++ u8 ch.ring.length
    ++ u8 (ch.fifo.countP CaptureEntry.isOrdinary) ++ u8 (ch.fifo.countP CaptureEntry.isPreRoll)
    ++ u32 (ch.fifo.countP fun e => !e.hasSamples) ++ u8 ch.output.code ++ keypadBytes ch.keypad ++ configBytes ch.config

/-- CHANNEL_INFO (R21). -/
def execChannelInfo (tag : Byte) (channel : Nat) (s : State) : Host.Outcome State Fault Refusal :=
  s.request (.channelInfo tag channel) <| reportOnly fun s =>
    match channelOf channel with
    | some c => ⟨.ok, channelReport (s.channels.get c)⟩
    | none => refuse .noSuch

end Sys2Proof.Machine
end

