-- ==== Sys2Proof/Machine/TakeCommands.lean ====
section
/-! DEFINITION. The requests of the take controller: SET_PLAN (R50), CUT_NOW (R55), RELEASE_TAKE (R69), TAKE_INFO (R71) and
LIST_TAKES (R72). -/

namespace Sys2Proof.Machine

/-! ### SET_PLAN (R50) -/

/-- The plan of a session still taking frames replaced in the fields given; it governs from the next frame that arrives. -/
def State.setPlan (s : State) (x : Session) (patch : PlanPatch) : State × Answer :=
  match x.phase with
  | .armed | .recording =>
    let p := applyPatch (clampPatch patch) x.plan
    (s.modSession x.number fun y => { y with plan := p },
      ⟨adjusted (decide (clampPatch patch ≠ patch)), planFields p⟩)
  | .closing | .closed => (s, refuse .wrongState)

/-- SET_PLAN (R50). -/
def execSetPlan (tag : Byte) (session : Nat) (patch : PlanPatch) (s : State) : Host.Outcome State Fault Refusal :=
  s.request (.setPlan tag session patch) fun s =>
    match s.session? session with
    | none => (s, refuse .noSuch)
    | some x => s.setPlan x patch

/-! ### CUT_NOW (R55) -/

/-- The open take of a RECORDING session. -/
def State.openTakeOf (s : State) (x : Session) : Option Take :=
  if x.phase = .recording then x.openTake.bind fun m => s.take? ⟨x.number, m⟩ else none

/-- The body of a DEFERRED reply: the open take, and the frame at which its forced cut will be due. -/
def deferredBody (t : Take) : List Byte := u16 t.number ++ u32 (t.core + 31)

/-- The reply of a forced cut made now: the closed take and its end, the new take, its lead-in start and core start. -/
def State.cutBody (s : State) (n closed e : Nat) : List Byte :=
  u16 closed ++ u32 e
    ++ match (s.session? n).bind fun x => x.openTake.bind fun m => s.take? ⟨n, m⟩ with
      | some t => u16 t.number ++ u32 t.leadIn ++ u32 t.core
      | none => num16 none ++ opt32 none ++ opt32 none

/-- The checks and the effect of CUT_NOW on an open take. -/
def State.cutNow (s : State) (x : Session) (t : Take) : State × Answer :=
  if x.forcedPending then (s, ⟨.deferred, deferredBody t⟩)
  else if coreLength t.core x.arrivedHead < Config.forcedCore then
    (s.modSession x.number fun y => { y with forcedPending := true }, ⟨.deferred, deferredBody t⟩)
  else if 65535 ≤ x.takeCount then (s, refuse .full)
  else if s.takesFree = 0 then (s, refuse .full)
  else
    let f := x.arrivedHead.getD 0
    let s := s.makeCut x.number (f + 1) .forced
    (s, ⟨.ok, s.cutBody x.number t.number f⟩)

/-- CUT_NOW (R55). -/
def execCutNow (tag : Byte) (session : Nat) (s : State) : Host.Outcome State Fault Refusal :=
  s.requestMoving (.cutNow tag session) fun s =>
    match s.session? session with
    | none => (s, refuse .noSuch)
    | some x =>
      match s.openTakeOf x with
      | none => (s, refuse .wrongState)
      | some t => s.cutNow x t

/-! ### RELEASE_TAKE (R69) -/

/-- The session's trim point as it stands. -/
def State.trimOf (s : State) (n : Nat) : Option Nat := (s.session? n).bind fun x => x.trimPoint

/-- The steps of a release.  DESIGN CHOICE: the reply's trim point is the one recomputed at step 4, also when the release
frees the session at step 5 (notes/assumptions/46.md). -/
def State.releaseTake (s : State) (t : Take) : State × Answer :=
  let s := if t.dispatch = .queued then s.dequeue t.ref else s
  let s := ((s.raiseTake t.ref .released).dropTake t.ref).recomputeTrim t.session
  let trim := s.trimOf t.session
  let s := s.freeIfDone t.session
  (s, ⟨.ok, u16 t.session ++ u16 t.number ++ opt32 trim ++ u16 s.takesFree⟩)

/-- RELEASE_TAKE (R69). -/
def execReleaseTake (tag : Byte) (session take : Nat) (s : State) : Host.Outcome State Fault Refusal :=
  s.requestMoving (.releaseTake tag session take) fun s =>
    match s.take? ⟨session, take⟩ with
    | none => (s, refuse .noSuch)
    | some t =>
      if t.capture = .opened then (s, refuse .wrongState)
      else
        match t.dispatch with
        | .assigned | .inWork => (s, refuse .inUse)
        | .unqueued | .queued | .typed | .held => s.releaseTake t

/-! ### TAKE_INFO (R71) -/

/-- A take record reported whole, in the order of the table of chapter 03. -/
def takeRecord (t : Take) : List Byte :=
  u16 t.session ++ u16 t.number ++ u8 t.channel.val ++ u32 t.leadIn ++ u32 t.core ++ opt32 t.stop ++ u8 t.capture.code
    ++ opt8 (t.cutKind.map (·.code)) ++ u8 t.dispatch.code ++ u8 t.takeClass.code ++ opt8 (t.station.map (·.val))
    ++ opt8 (t.lastStation.map (·.val)) ++ opt8 (t.excluded.map (·.val)) ++ u8 t.returns ++ u32 t.lostFrames
    ++ yesNo t.readback

/-- The position of a take in a list, from 1. -/
def positionIn (l : List TakeRef) (r : TakeRef) : Option Nat := (l.idxOf? r).map (· + 1)

/-- The position of a QUEUED take in the dispatch queue (R104). -/
def State.queuePosition (s : State) (r : TakeRef) : Option Nat := positionIn s.queue r

/-- The position of an ASSIGNED or IN_WORK take in its station's list. -/
def State.listPosition (s : State) (t : Take) : Option Nat :=
  t.station.bind fun n => positionIn (s.stations.get n).takes t.ref

/-- The cut outlook of a session's open take: the plan, the cut state and the frames at which cuts would be due. -/
def cutOutlook (x : Session) (t : Take) : List Byte :=
  planFields x.plan ++ yesNo x.forcedPending ++ yesNo x.extensionReported ++ u32 (t.core + x.plan.nominal - 1)
    ++ u32 (t.core + x.plan.nominal + x.plan.grace - 1) ++ opt32 (if x.forcedPending then some (t.core + 31) else none)

/-- The outlook fields of a take that is not its session's open take (R199).  DESIGN CHOICE: a plan has no absent encoding, so
each of its bytes is 0 (notes/assumptions/59.md). -/
def noOutlook : List Byte := List.replicate 12 0 ++ opt32 none ++ opt32 none ++ opt32 none

/-- The report of a take (R71). -/
def State.takeReport (s : State) (t : Take) : List Byte :=
  let last := match t.stop with | some e => some e | none => s.arrivedOf t.session
  takeRecord t ++ u32 (coreLength t.core last) ++ num16 (s.queuePosition t.ref) ++ opt8 (s.listPosition t)
    ++ match s.session? t.session with
      | some x => if x.openTake = some t.number then cutOutlook x t else noOutlook
      | none => noOutlook

/-- TAKE_INFO (R71). -/
def execTakeInfo (tag : Byte) (session take : Nat) (s : State) : Host.Outcome State Fault Refusal :=
  s.request (.takeInfo tag session take) <| reportOnly fun s =>
    match s.take? ⟨session, take⟩ with
    | some t => ⟨.ok, s.takeReport t⟩
    | none => refuse .noSuch

/-! ### LIST_TAKES (R72) -/

/-- A filter: ANY 0, then each value's own code plus 1; a code above the highest is taken as the highest (R196, R198). -/
def passes (filter highest code : Nat) : Bool := decide (filter = 0) || decide (min filter highest = code + 1)

/-- The take passes both filters. -/
def takePasses (r : ListTakesReq) (t : Take) : Bool :=
  passes r.dispatchFilter 6 t.dispatch.code && passes r.captureFilter 2 t.capture.code

/-- The takes a listing runs over: the lists begin at the first take number, of the named session or of the lowest session
whose takes pass. -/
def State.takesFrom (s : State) (r : ListTakesReq) : List Take :=
  let pass := s.takes.filter (takePasses r)
  if r.session = 0 then
    match pass with
    | [] => []
    | t :: _ => pass.filter fun u => decide (u.session ≠ t.session) || decide (r.first ≤ u.number)
  else
    pass.filter fun u =>
      (decide (u.session = r.session) && decide (r.first ≤ u.number))
        || (decide (r.scope ≠ 0) && decide (r.session < u.session))

/-- An entry of the listing. -/
def takeEntry (t : Take) : List Byte :=
  u16 t.session ++ u16 t.number ++ u8 t.channel.val ++ u8 t.capture.code ++ opt8 (t.cutKind.map (·.code))
    ++ u8 t.dispatch.code ++ u8 t.takeClass.code ++ opt8 (t.station.map (·.val)) ++ u32 t.leadIn ++ u32 t.core
    ++ opt32 t.stop

/-- The reply of LIST_TAKES: at most 32 takes and a continuation. -/
def State.takeListing (s : State) (l : List Take) : List Byte :=
  let listed := l.take 32
  let next := (l.drop 32).head?
  listBytes takeEntry listed ++ u8 listed.length ++ u16 s.takesInUse ++ u16 s.takesFree
    ++ num16 (next.map (·.session)) ++ num16 (next.map (·.number))

/-- A code of the request was taken as another (notes/assumptions/24.md). -/
def listTakesChanges (r : ListTakesReq) : Bool :=
  decide (1 < r.scope) || decide (6 < r.dispatchFilter) || decide (2 < r.captureFilter) || decide (r.first = 0)

/-- LIST_TAKES (R72). -/
def execListTakes (tag : Byte) (r : ListTakesReq) (s : State) : Host.Outcome State Fault Refusal :=
  s.request (.listTakes tag r) <| reportOnly fun s =>
    if r.scope = 0 ∧ r.session ≠ 0 ∧ (s.session? r.session).isNone then refuse .noSuch
    else ⟨adjusted (listTakesChanges r), s.takeListing (s.takesFrom r)⟩

end Sys2Proof.Machine
end

