-- ==== Sys2Proof/Machine/DispatchCommands.lean ====
section
/-! DEFINITION. The requests of the dispatch unit: QUEUE_TAKE (R119), SET_CLASS (R120), RECALL_TAKE (R121), ASSIGN_TAKE
(R122), CLEAR_HOLD (R123) and DISPATCH_INFO (R124). -/

namespace Sys2Proof.Machine

/-- A take's dispatch state and station, and its queue position when it is QUEUED, as they stand. -/
def State.dispatchBody (s : State) (r : TakeRef) : List Byte :=
  match s.take? r with
  | some t => u8 t.dispatch.code ++ opt8 (t.station.map (·.val)) ++ num16 (s.queuePosition r)
  | none => opt8 none ++ opt8 none ++ num16 none

/-- The take a dispatch request names, or NO_SUCH. -/
def State.onTake (s : State) (session take : Nat) (f : Take → State × Answer) : State × Answer :=
  match s.take? ⟨session, take⟩ with
  | none => (s, refuse .noSuch)
  | some t => f t

/-- QUEUE_TAKE (R119). -/
def execQueueTake (tag : Byte) (session take : Nat) (s : State) : Host.Outcome State Fault Refusal :=
  s.request (.queueTake tag session take) fun s =>
    s.onTake session take fun t =>
      match t.dispatch with
      | .unqueued | .typed =>
        let s := s.handOver t.ref
        (s, ⟨.ok, s.dispatchBody t.ref⟩)
      | .queued | .assigned | .inWork | .held => (s, refuse .wrongState)

/-- A take given another class (R120).  DESIGN CHOICE: the placement of a QUEUED take raises the CLASS notice alone
(notes/assumptions/49.md). -/
def State.setClass (s : State) (t : Take) (k : TakeClass) : State :=
  if k = t.takeClass then s
  else
    let s := s.modTake t.ref fun t => { t with takeClass := k }
    let s := if t.dispatch = .queued then (s.dequeue t.ref).atClassTail t.ref else s
    (s.raiseTake t.ref .takeClass).matchingPass

/-- SET_CLASS (R120). -/
def execSetClass (tag : Byte) (session take code : Nat) (s : State) : Host.Outcome State Fault Refusal :=
  s.request (.setClass tag session take code) fun s =>
    s.onTake session take fun t =>
      let k := TakeClass.ofCode code
      let s := s.setClass t k
      (s, ⟨adjusted (decide (2 < code)), u8 k.code ++ s.dispatchBody t.ref⟩)

/-- A take taken out of dispatch (R121). -/
def State.recall (s : State) (t : Take) : State :=
  let s := (s.withdraw t).modTake t.ref fun t => { t with dispatch := .unqueued, station := none }
  (s.raiseTake t.ref .dispatch).passAfter t

/-- RECALL_TAKE (R121). -/
def execRecallTake (tag : Byte) (session take : Nat) (s : State) : Host.Outcome State Fault Refusal :=
  s.request (.recallTake tag session take) fun s =>
    s.onTake session take fun t =>
      match t.dispatch with
      | .unqueued => (s, refuse .wrongState)
      | .queued | .assigned | .inWork | .typed | .held =>
        (s.recall t, ⟨.ok, u8 t.dispatch.code ++ opt8 (t.station.map (·.val))⟩)

/-- The reply of ASSIGN_TAKE: the station, the position in its list, its list count. -/
def State.assignBody (s : State) (n : StationId) (r : TakeRef) : List Byte :=
  let l := (s.stations.get n).takes
  u8 n.val ++ opt8 (positionIn l r) ++ u8 l.length

/-- The checks of ASSIGN_TAKE once the take and the station exist, and the assignment, in the order of R122.  DEDUCED: the take's
state is tested before a full list, which R66 words the other way round (notes/assumptions/57.md). -/
def State.assignTo (s : State) (t : Take) (n : StationId) : State × Answer :=
  let st := s.stations.get n
  if t.dispatch = .assigned ∨ t.dispatch = .inWork then (s, refuse .wrongState)
  else if st.config.enable = false ∨ st.link ≠ .present then (s, refuse .wrongState)
  else if st.config.depth ≤ st.takes.length then (s, refuse .full)
  else
    let s := s.assign t.ref n
    (s, ⟨.ok, s.assignBody n t.ref⟩)

/-- ASSIGN_TAKE (R122). -/
def execAssignTake (tag : Byte) (session take station : Nat) (s : State) : Host.Outcome State Fault Refusal :=
  s.request (.assignTake tag session take station) fun s =>
    s.onTake session take fun t =>
      match stationOf station with
      | none => (s, refuse .noSuch)
      | some n => s.assignTo t n

/-- A HELD take queued with a clean count (R123). -/
def State.clearHold (s : State) (r : TakeRef) : State :=
  ((s.modTake r fun t => { t with returns := 0 }).queueHead r).matchingPass

/-- CLEAR_HOLD (R123). -/
def execClearHold (tag : Byte) (session take : Nat) (s : State) : Host.Outcome State Fault Refusal :=
  s.request (.clearHold tag session take) fun s =>
    s.onTake session take fun t =>
      if t.dispatch = .held then
        let s := s.clearHold t.ref
        (s, ⟨.ok, s.dispatchBody t.ref⟩)
      else (s, refuse .wrongState)

/-! ### DISPATCH_INFO (R124) -/

/-- The takes of a class in the queue. -/
def State.queuedOf (s : State) (k : TakeClass) : Nat := s.queue.countP fun r => s.classOf r = k.code

/-- The standing of a station. -/
def stationStanding (st : Station) : List Byte :=
  yesNo st.config.enable ++ u8 st.link.code ++ yesNo st.accepting ++ u8 st.takes.length ++ u8 st.config.depth
    ++ yesNo st.wanting ++ u8 st.config.channelSet.toNat ++ u8 st.config.classSet.toNat
    ++ listBytes (fun r : TakeRef => u16 r.session ++ u16 r.number) st.takes

/-- A queue entry. -/
def State.queueEntry (s : State) (r : TakeRef) : List Byte :=
  u16 r.session ++ u16 r.number
    ++ match s.take? r with
      | some t =>
        u8 t.channel.val ++ u8 t.takeClass.code ++ u8 t.capture.code ++ u8 t.returns ++ opt8 (t.excluded.map (·.val))
      | none => opt8 none ++ opt8 none ++ opt8 none ++ u8 0 ++ opt8 none

/-- The report of the queue from a position, and of every station (R124). -/
def State.dispatchReport (s : State) (position : Nat) : List Byte :=
  let start := max 1 position
  let l := s.queue.drop (start - 1)
  u8 s.queue.length ++ u8 (s.queuedOf .expedite) ++ u8 (s.queuedOf .daily) ++ u8 (s.queuedOf .regular)
    ++ u8 s.rotation.val ++ allStations.flatMap (fun n => stationStanding (s.stations.get n))
    ++ listBytes s.queueEntry (l.take 32) ++ num16 (if 32 < l.length then some (start + 32) else none)

/-- DISPATCH_INFO (R124): a position of 0 is taken as 1. -/
def execDispatchInfo (tag : Byte) (position : Nat) (s : State) : Host.Outcome State Fault Refusal :=
  s.request (.dispatchInfo tag position) <| reportOnly fun s =>
    ⟨adjusted (decide (position = 0)), s.dispatchReport position⟩

end Sys2Proof.Machine
end

