-- ==== Sys2Proof/Machine/ExportCommands.lean ====
section
/-! DEFINITION. The commands of the audio export: FETCH_AUDIO from a position and with CONTINUE (R188), STOP_FETCH (R192), and
the DATA and FETCH_END messages sent (R190, R191). -/

namespace Sys2Proof.Machine

/-- An export set up in one step (R188). -/
def State.startExport (s : State) (n : Nat) (tag : Byte) (start count : Nat) : State :=
  (s.modExporter fun _ =>
    { phase := .streaming, session := n, tag := tag, start := start, count := count, sent := 0, withheld := 0, lost := 0,
      reason := none, fifo := [], cursor := some (start / 256), reader := .idle, resume := some ⟨n, start⟩ }).recomputeTrim n

/-- The count as taken: 1 to 16,777,215 (R188, R198). -/
def takenCount (count : Nat) : Nat := clamp 1 Config.exportCount count

/-- The start position as taken (R188). -/
def takenStart (start : Nat) : Nat := min start Config.lastPosition

/-- The last checks of FETCH_AUDIO and the start of the export (R188). -/
def State.fetchFrom (s : State) (x : Session) (tag : Byte) (start count : Nat) (changed : Bool) : State × Answer :=
  if s.exporter.phase ≠ .idle then (s, refuse .inUse)
  else if s.category x (start / 256) = .unstored ∨ s.category x (start / 256) = .trimmed then (s, refuse .gone)
  else
    (s.startExport x.number tag start count, ⟨adjusted changed, u16 x.number ++ u32 start ++ u32 count⟩)

/-- FETCH_AUDIO with a start position (R188). -/
def execFetchAudio (tag : Byte) (session start count : Nat) (s : State) : Host.Outcome State Fault Refusal :=
  s.requestMoving (.fetchAudio tag session start count) fun s =>
    match s.session? session with
    | none => (s, refuse .noSuch)
    | some x =>
      s.fetchFrom x tag (takenStart start) (takenCount count)
        (decide (takenStart start ≠ start) || decide (takenCount count ≠ count))

/-- FETCH_AUDIO with CONTINUE (R188); a form code above it is taken as CONTINUE (R198). -/
def execFetchAudioContinue (tag : Byte) (form count : Nat) (s : State) : Host.Outcome State Fault Refusal :=
  s.requestMoving (.fetchAudioContinue tag form count) fun s =>
    match s.exporter.resume with
    | none => (s, refuse .noSuch)
    | some r =>
      match s.session? r.session with
      | none => (s, refuse .noSuch)
      | some x =>
        s.fetchFrom x tag (takenStart r.position) (takenCount count)
          (decide (1 < form) || decide (takenStart r.position ≠ r.position) || decide (takenCount count ≠ count))

/-- STOP_FETCH (R192). -/
def execStopFetch (tag : Byte) (s : State) : Host.Outcome State Fault Refusal :=
  s.request (.stopFetch tag) fun s =>
    if s.exporter.phase = .streaming then
      (s.endExport .stopped, ⟨.ok, [s.exporter.tag] ++ u32 s.exporter.sent⟩)
    else (s, refuse .wrongState)

/-- A DATA message of the running export sent in full: it is counted, and the export may end COMPLETE (R190, R191). -/
def State.dataDone (s : State) (d : DataMessage) : State :=
  let s := s.modExporter fun e => e.countData d
  if s.exporter.count ≤ s.exporter.sent then s.endExport .complete else s

/-- DATA_SENT. -/
def execDataSent (s : State) : Host.Outcome State Fault Refusal :=
  match s.link.line with
  | some (.data d orphan) =>
    let t := s.modLink fun l => { l with line := none }
    .next (State.settleAll s (if orphan then t else t.dataDone d))
  | some (.reply _) | some (.notice _) | some (.fetchEnd ..) | none => .next s

/-- FETCH_END_SENT (R191). -/
def execFetchEndSent (s : State) : Host.Outcome State Fault Refusal :=
  match s.link.line with
  | some (.fetchEnd _ orphan) =>
    let t := s.modLink fun l => { l with line := none }
    .next (State.settleAll s (if orphan then t else t.modExporter fun e => { e with phase := .idle }))
  | some (.reply _) | some (.notice _) | some (.data ..) | none => .next s

end Sys2Proof.Machine
end

