-- ==== Sys2Proof/Machine/LinkCommands.lean ====
section
/-! DEFINITION. The commands of the control link and of start-up: the two resets and the pin (R45, R184, R186, R187), the
messages received and discarded (R175 to R178), the messages sent (R181), IDENTIFY (R185) and SET_NOTICE_MASK (R183). -/

namespace Sys2Proof.Machine

/-! ### Resets and start-up -/

/-- PIN_RESET: the straps are sampled and every block takes its reset values; the SDRAM keeps its contents (R45, R187).  The
commands that wait stay in their queue. -/
def execPinReset (msz1 msz0 lrt1 lrt0 : Bool) (s : State) : Host.Outcome State Fault Refusal :=
  .next { State.resetWith (strapBlocks msz1 msz0) (strapRate lrt1 lrt0) .pin s.store.mem with pending := s.pending }

/-- The grant that survives RESET FULL: a refresh burst in progress (R174). -/
def Arbiter.refreshGrant (a : Arbiter) : Option Grant := a.grant.filter fun g => g.client = .refresh

/-- The part at the end of RESET FULL (R187): as at pin reset, with the block count and the rate kept and refresh running on
(R174). -/
def State.fullReset (s : State) : State :=
  { State.resetWith s.store.blocks s.link.rate .full s.store.mem with
    arbiter := { Arbiter.reset with
      grant := s.arbiter.refreshGrant, refreshTimer := s.arbiter.refreshTimer, refreshDue := s.arbiter.refreshDue }
    pending := s.pending }

/-- STARTUP_COMPLETE: the part becomes READY and records STARTED (R184); every port has its first STATE packet due (R151). -/
def State.startup (s : State) : State :=
  let s := s.modLink fun l => { l with device := .ready }
  let s := s.raise .device .whole (startedContents s)
  allStations.foldl (fun s n => s.modStation n fun st => { st with stateDue := true }) s

def execStartupComplete (s : State) : Host.Outcome State Fault Refusal :=
  match s.link.device with
  | .starting => .next (State.finish s s.startup)
  | .ready => .next s

/-! ### Messages received (R175 to R178) -/

/-- The receiver returns to HUNTING after a whole message (R176). -/
def Link.hunt (l : Link) : Link := { l with receive := .hunting, messageTimer := none }

/-- A whole message collected: LEN, KIND, TAG, body, CHECK (R176 to R178). -/
def State.receiveMessage (s : State) (bytes : List Byte) : State :=
  match bytes with
  | l0 :: l1 :: kind :: tag :: rest =>
    let len := ofLE [l0, l1]
    if rest.length = len then
      let body := rest.take (len - 2)
      if rest.drop (len - 2) = checkBytes (l0 :: l1 :: kind :: tag :: body) then
        (s.modLink Link.hunt).receiveRequest ⟨kind.toNat, tag, body⟩
      else s.discardMessage .badCheck
    else s
  | _ => s

/-- MESSAGE_RECEIVED.  Bytes that are not one whole message of a length R176 allows cannot be this event and change nothing
(notes/assumptions/2.md). -/
def execMessageReceived (bytes : List Byte) (s : State) : Host.Outcome State Fault Refusal :=
  if 6 ≤ bytes.length ∧ bytes.length ≤ 1030 then .next (State.finish s (s.receiveMessage bytes)) else .next s

/-- MESSAGE_BAD_LENGTH (R176). -/
def execMessageBadLength (len : Nat) (s : State) : Host.Outcome State Fault Refusal :=
  if len < 2 ∨ 1026 < len then .next (State.finish s (s.discardMessage .badLength)) else .next s

/-- MESSAGE_TIMEOUT (R176); outside a message no timer runs. -/
def execMessageTimeout (s : State) : Host.Outcome State Fault Refusal :=
  match s.link.receive with
  | .receiving => .next (State.finish s (s.discardMessage .timeout))
  | .hunting => .next s

/-- START_BYTE: a byte 0xA7 (R176); within a message it is one of its bytes. -/
def execStartByte (s : State) : Host.Outcome State Fault Refusal :=
  match s.link.receive with
  | .hunting => .next (s.modLink fun l => { l with receive := .receiving, messageTimer := some 0 })
  | .receiving => .next s

/-- INVALID_BYTE (R175): a message being collected is discarded with BAD_CHECK; outside one the byte is ignored. -/
def execInvalidByte (s : State) : Host.Outcome State Fault Refusal :=
  match s.link.receive with
  | .receiving => .next (State.finish s (s.discardMessage .badCheck))
  | .hunting => .next s

/-- REQUEST_UNKNOWN_KIND (R179): answered with KIND 0x80 and the KIND received; while STARTING the answer is STARTING. -/
def execRequestUnknownKind (tag : Byte) (kind : Nat) (body : List Byte) (s : State) :
    Host.Outcome State Fault Refusal :=
  let i : Instr := .requestUnknownKind tag kind body
  let r : Request := ⟨kind, tag, body⟩
  if s.admits i ∧ requestLength kind = none then
    let t := s.withRequest r
    let reply := if s.link.device = .starting then makeReply r (refuse .starting) else unknownReply r
    .next (State.finish s (t.recordReply reply))
  else .next s

/-! ### Messages sent (R179, R181) -/

/-- The line is free again. -/
def State.freeLine (s : State) : State := s.modLink fun l => { l with line := none }

/-- The reply of the request in progress has been sent: RESET FULL takes effect, or the next request is taken (R179,
R187). -/
def State.replyDone (s : State) : State :=
  if s.link.fullReset then s.fullReset else (s.modLink fun l => { l with inProgress := none }).takeRequest

/-- REPLY_SENT. -/
def execReplySent (s : State) : Host.Outcome State Fault Refusal :=
  match s.link.line with
  | some (.reply r) => .next (State.settleAll s (if r.busy then s.freeLine else s.freeLine.replyDone))
  | some (.notice _) | some (.data ..) | some (.fetchEnd ..) | none => .next s

/-- The notice is a DEVICE notice with event OVERFLOW. -/
def Notice.isOverflow (n : Notice) : Bool := decide (n.kind = .device) && decide (n.contents.head? = some 1)

/-- NOTICE_SENT: after an OVERFLOW notice the dropped-notice count returns to 0 (R182). -/
def execNoticeSent (s : State) : Host.Outcome State Fault Refusal :=
  match s.link.line with
  | some (.notice n) =>
    let t := if n.isOverflow then s.freeLine.modLink fun l => { l with dropped := 0 } else s.freeLine
    .next (State.settleAll s t)
  | some (.reply _) | some (.data ..) | some (.fetchEnd ..) | none => .next s

/-! ### Requests of the link -/

/-- The fields of the reply to IDENTIFY after its status (R185, R199). -/
def identifyBody (s : State) : List Byte :=
  u16 Config.vendorCode ++ u16 Config.partCode ++ [Config.revision] ++ u8 s.link.device.code ++ u16 s.store.blocks
    ++ u8 s.link.rate ++ u8 4 ++ u8 8 ++ u8 Config.takeRecords ++ u16 Config.markRecords ++ u8 Config.rangeRecords
    ++ u8 Config.sessionEntries ++ u8 Config.readbackPending ++ u16 s.link.errorCount
    ++ opt8 (s.link.lastCause.map (·.code))

/-- IDENTIFY (R185). -/
def execIdentify (tag : Byte) (s : State) : Host.Outcome State Fault Refusal :=
  s.request (.identify tag) (reportOnly fun s => ⟨.ok, identifyBody s⟩)

/-- A message of an export already on the line, once RESET LINK has ended the export (R186). -/
def Outbound.orphaned : Outbound → Outbound
  | .data d _ => .data d true
  | .fetchEnd m _ => .fetchEnd m true
  | .reply r => .reply r
  | .notice n => .notice n

/-- An export in STREAMING or ENDING ends without FETCH_END (R186, step 3), and the resume point is absent (step 4). -/
def State.abandonExport (s : State) : State :=
  let n := s.exporter.session
  let active := s.exporter.phase ≠ .idle
  let s := s.modExporter fun e => { e with resume := none }
  if active then
    let s := (s.killGrant .exporter).modExporter fun e =>
      { e with phase := .idle, reason := none, fifo := [], cursor := none, reader := .stopped }
    (s.modLink fun l => { l with line := l.line.map Outbound.orphaned }).recomputeTrim n
  else s

/-- RESET with scope LINK: the steps of R186 but for the reply. -/
def State.resetLinkState (s : State) : State :=
  let s := s.modLink fun l =>
    { l with buffer := [], replies := l.replies.filter fun r => !r.busy, notices := [], dropped := 0 }
  let s := s.abandonExport
  s.modLink fun l => { l with mask := defaultMask, errorCount := 0, lastCause := none }

/-- RESET_LINK (R186); a scope code that names neither scope is refused. -/
def execResetLink (tag : Byte) (scope : Nat) (s : State) : Host.Outcome State Fault Refusal :=
  s.request (.resetLink tag scope) fun s =>
    if scope = 0 then (s.resetLinkState, ⟨.ok, []⟩) else (s, refuse .notPermitted)

/-- RESET_FULL (R187): answered OK; the part is reset when the reply has been sent in full. -/
def execResetFull (tag : Byte) (s : State) : Host.Outcome State Fault Refusal :=
  s.request (.resetFull tag) fun s => (s.modLink fun l => { l with fullReset := true }, ⟨.ok, []⟩)

/-- The mask replaced; the pending entries of the kinds it removes leave the set (R183). -/
def Link.setMask (l : Link) (mask : BitVec 16) : Link :=
  { l with
    mask := mask
    notices := l.notices.filter fun n => !(l.mask.getLsbD n.kind.code && !mask.getLsbD n.kind.code) }

/-- SET_NOTICE_MASK (R183, R198): bits 12 to 15 name no kind and are ignored. -/
def execSetNoticeMask (tag : Byte) (mask : Nat) (s : State) : Host.Outcome State Fault Refusal :=
  s.request (.setNoticeMask tag mask) fun s =>
    let stored := mask % 4096
    let s := s.modLink fun l => l.setMask (BitVec.ofNat 16 stored)
    (s, ⟨adjusted (decide (stored ≠ mask)), u16 stored ++ u16 s.link.notices.length⟩)

end Sys2Proof.Machine
end

