-- ==== Sys2Proof/Machine/MarkCommands.lean ====
section
/-! DEFINITION. The requests of the mark list: ADD_MARK (R78), DELETE_MARK (R81) and LIST_MARKS (R82). -/

namespace Sys2Proof.Machine

/-! ### The markable span (R78) -/

/-- The lower bound of a session's markable span, for its first stored frame. -/
def markableLow (x : Session) (first : Nat) : Nat := max first (x.trimPoint.getD 0)

/-- The upper bound of a span with this lower bound: the arrived head, or the lower bound when it is absent or below. -/
def spanHigh (x : Session) (low : Nat) : Nat := max low (x.arrivedHead.getD low)

/-- A frame clamped into the markable span. -/
def clampFrame (x : Session) (first f : Nat) : Nat :=
  clamp (markableLow x first) (spanHigh x (markableLow x first)) f

/-! ### ADD_MARK (R78) -/

/-- The speaker a host mark is stored with: clamped for SPEAKER, discarded for the other kinds. -/
def hostSpeaker (k : MarkKind) (speaker : Option Nat) : Option Nat :=
  if k = .speaker then some (clamp 1 31 (speaker.getD 1)) else none

/-- The mark a host request asks for, clamped. -/
def hostMark (r : AddMarkReq) (x : Session) (first : Nat) (k : MarkKind) : Mark :=
  { plainMark x.number (clampFrame x first r.frame) k .host with
    tag := r.tag.map cleanText
    speaker := hostSpeaker k r.speaker }

/-- A mark record of 41 bytes (R199). -/
def markRecord (m : Mark) : List Byte :=
  u16 m.session ++ u16 m.number ++ u32 m.frame ++ u8 m.kind.code ++ u8 m.source.code ++ optText m.tag ++ opt8 m.speaker
    ++ u32 (m.length.getD 0) ++ opt8 (m.cause.map (·.code)) ++ num16 (m.span.map (·.session))
    ++ opt32 (m.span.map (·.start)) ++ opt32 (m.span.map (·.stop)) ++ opt16 m.serial

/-- A SPEAKER mark of the session recording on its channel sets the keypad's current speaker (R78, R87). -/
def State.hostSpeaks (s : State) (x : Session) (m : Mark) : State :=
  if m.kind = .speaker ∧ x.phase = .recording ∧ (s.channels.get x.channel).session = some x.number then
    s.modChannel x.channel fun ch => { ch with keypad := { ch.keypad with speaker := m.speaker.getD 1 } }
  else s

/-- The addition of a host mark, with its reply. -/
def State.addHostMark (s : State) (x : Session) (r : AddMarkReq) (m : Mark) : State × Answer :=
  let a := s.placeMark m
  let record (s : State) (k : Nat) : List Byte := markRecord ((s.mark? x.number k).getD { m with number := k })
  let changed := decide (m.frame ≠ r.frame) || decide (m.speaker ≠ r.speaker) || decide (m.tag ≠ r.tag)
  match a.2 with
  | .inserted k => (a.1.hostSpeaks x m, ⟨adjusted changed, record a.1 k⟩)
  | .merged k => (a.1.hostSpeaks x m, ⟨.adjusted, record a.1 k⟩)
  | .dropped _ => (s, refuse .full)

/-- ADD_MARK (R78). -/
def execAddMark (tag : Byte) (r : AddMarkReq) (s : State) : Host.Outcome State Fault Refusal :=
  s.request (.addMark tag r) fun s =>
    match s.session? r.session with
    | none => (s, refuse .noSuch)
    | some x =>
      match x.firstStored with
      | none => (s, refuse .wrongState)
      | some first =>
        match MarkKind.ofCode? r.kind with
        | none => (s, refuse .notPermitted)
        | some k => s.addHostMark x r (hostMark r x first k)

/-! ### DELETE_MARK (R81) -/

/-- A mark freed. -/
def State.removeMark (s : State) (n k : Nat) : State :=
  s.setMarks (s.marks.filter fun m => decide (m.session ≠ n) || decide (m.number ≠ k))

/-- DELETE_MARK (R81). -/
def execDeleteMark (tag : Byte) (session mark : Nat) (s : State) : Host.Outcome State Fault Refusal :=
  s.request (.deleteMark tag session mark) fun s =>
    match s.session? session, s.mark? session mark with
    | some _, some m =>
      if m.source = .device then (s, refuse .notPermitted)
      else
        let s := s.removeMark session mark
        (s, ⟨.ok, u16 session ++ u16 mark ++ u16 (s.marksOf session).length⟩)
    | _, _ => (s, refuse .noSuch)

/-! ### LIST_MARKS (R82) -/

/-- The source filter: ANY 0, HOST 1, KEYPAD 2, STATION 3, DEVICE 4 (R196); a code above is taken as DEVICE. -/
def sourcePasses (filter : Nat) : MarkSource → Bool
  | .host => decide (filter = 0) || decide (filter = 1)
  | .keypad => decide (filter = 0) || decide (filter = 2)
  | .station _ => decide (filter = 0) || decide (filter = 3)
  | .device => decide (filter = 0) || decide (4 ≤ filter)

/-- The mark stands at or after a frame and mark number in the order of R74. -/
def Mark.atOrAfter (m : Mark) (frame number : Nat) : Bool :=
  decide (frame < m.frame) || (decide (m.frame = frame) && decide (number ≤ m.number))

/-- The marks a listing runs over. -/
def State.marksFrom (s : State) (r : ListMarksReq) : List Mark :=
  (s.marksOf r.session).filter fun m =>
    m.atOrAfter r.frame r.mark && passes r.kindFilter 9 m.kind.code && sourcePasses r.sourceFilter m.source

/-- The reply of LIST_MARKS: at most 24 marks and a continuation. -/
def State.markListing (s : State) (n : Nat) (l : List Mark) : List Byte :=
  let listed := l.take 24
  let next := (l.drop 24).head?
  listBytes markRecord listed ++ u8 listed.length ++ u16 (s.marksOf n).length ++ u16 s.marks.length
    ++ opt32 (next.map (·.frame)) ++ num16 (next.map (·.number))

/-- LIST_MARKS (R82). -/
def execListMarks (tag : Byte) (r : ListMarksReq) (s : State) : Host.Outcome State Fault Refusal :=
  s.request (.listMarks tag r) <| reportOnly fun s =>
    match s.session? r.session with
    | none => refuse .noSuch
    | some x =>
      ⟨adjusted (decide (9 < r.kindFilter) || decide (4 < r.sourceFilter)), s.markListing x.number (s.marksFrom r)⟩

end Sys2Proof.Machine
end

