-- ==== Sys2Proof/Machine/RangeCommands.lean ====
section
/-! DEFINITION. The requests of the range table: OPEN_RANGE (R95), CLOSE_RANGE (R97), SET_RANGE (R98), DELETE_RANGE (R99) and
LIST_RANGES (R103). -/

namespace Sys2Proof.Machine

/-- A range record reported whole, in the order of the table of chapter 05. -/
def rangeRecord (g : Range) : List Byte :=
  u16 g.session ++ u16 g.number ++ u32 g.start ++ opt32 g.stop ++ u8 g.play.code ++ yesNo g.readback ++ yesNo g.exportable
    ++ optText g.label ++ u8 g.source.code

/-! ### OPEN_RANGE (R95) -/

/-- The range a host request asks for, clamped. -/
def hostRange (r : OpenRangeReq) (x : Session) (first : Nat) : Range :=
  let start := clampFrame x first r.start
  { session := x.number
    number := 0
    start := start
    stop := r.stop.map fun e => clamp start (spanHigh x start) e
    play := PlayPermission.ofCode r.play
    readback := storedReadback (PlayPermission.ofCode r.play) r.readback
    exportable := r.exportable
    label := r.label.map cleanText
    source := .host }

/-- A value of the request was clamped, changed or replaced. -/
def openRangeChanges (r : OpenRangeReq) (g : Range) : Bool :=
  decide (g.start ≠ r.start) || decide (g.stop ≠ r.stop) || decide (2 < r.play) || decide (g.readback ≠ r.readback)
    || decide (g.label ≠ r.label)

/-- The insertion of a host range, with its reply. -/
def State.addHostRange (s : State) (x : Session) (r : OpenRangeReq) (g : Range) : State × Answer :=
  match s.rangeLimit? x g.stop.isNone with
  | some _ => (s, refuse .full)
  | none =>
    let a := s.insertRange x g
    (a.1, ⟨adjusted (openRangeChanges r g), rangeRecord a.2 ++ u8 (a.1.openRanges x.number)⟩)

/-- OPEN_RANGE (R95). -/
def execOpenRange (tag : Byte) (r : OpenRangeReq) (s : State) : Host.Outcome State Fault Refusal :=
  s.request (.openRange tag r) fun s =>
    match s.session? r.session with
    | none => (s, refuse .noSuch)
    | some x =>
      match x.firstStored with
      | none => (s, refuse .wrongState)
      | some first =>
        if r.stop.isNone ∧ x.phase ≠ .recording then (s, refuse .wrongState)
        else s.addHostRange x r (hostRange r x first)

/-! ### CLOSE_RANGE (R97) -/

/-- The end CLOSE_RANGE gives a range: the arrived head for NOW, or the frame given, clamped. -/
def closingEnd (x : Session) (g : Range) : Option Nat → Nat
  | none => max g.start (x.arrivedHead.getD g.start)
  | some e => max (max g.start (x.trimPoint.getD 0)) (min e (x.arrivedHead.getD g.start))

/-- The range record as stored and the session's open range count. -/
def State.rangeBody (s : State) (n k : Nat) : List Byte :=
  match s.range? n k with
  | some g => rangeRecord g ++ u8 (s.openRanges n)
  | none => []

/-- An open range closed by the host. -/
def State.closeHostRange (s : State) (x : Session) (g : Range) (stop : Option Nat) : State × Answer :=
  let e := closingEnd x g stop
  let s := s.closeRangeAt x.number g.number e
  (s, ⟨adjusted (stop.any fun f => decide (f ≠ e)), s.rangeBody x.number g.number⟩)

/-- CLOSE_RANGE (R97). -/
def execCloseRange (tag : Byte) (session range : Nat) (stop : Option Nat) (s : State) :
    Host.Outcome State Fault Refusal :=
  s.request (.closeRange tag session range stop) fun s =>
    match s.session? session, s.range? session range with
    | some x, some g => if g.stop.isSome then (s, refuse .wrongState) else s.closeHostRange x g stop
    | _, _ => (s, refuse .noSuch)

/-! ### SET_RANGE (R98) -/

/-- The label after a change. -/
def changedLabel (old : Option (List Byte)) : LabelChange → Option (List Byte)
  | .keep => old
  | .replace t => some (cleanText t)
  | .remove => none

/-- A byte of the label given was replaced. -/
def labelReplaced : LabelChange → Bool
  | .replace t => decide (cleanText t ≠ t)
  | .keep | .remove => false

/-- A range with the fields a request gives replaced (R92, R98). -/
def changedRange (r : SetRangeReq) (g : Range) : Range :=
  let play := (r.play.map PlayPermission.ofCode).getD g.play
  { g with
    play := play
    readback := storedReadback play (r.readback.getD g.readback)
    exportable := r.exportable.getD g.exportable
    label := changedLabel g.label r.label }

/-- A value was clamped, changed by R92, or replaced. -/
def setRangeChanges (r : SetRangeReq) (g : Range) : Bool :=
  aboveCode 2 r.play || decide ((changedRange r g).readback ≠ r.readback.getD g.readback) || labelReplaced r.label

/-- SET_RANGE (R98). -/
def execSetRange (tag : Byte) (r : SetRangeReq) (s : State) : Host.Outcome State Fault Refusal :=
  s.request (.setRange tag r) fun s =>
    match s.session? r.session, s.range? r.session r.range with
    | some _, some g =>
      (s.modRange r.session r.range (changedRange r),
        ⟨adjusted (setRangeChanges r g), rangeRecord (changedRange r g)⟩)
    | _, _ => (s, refuse .noSuch)

/-! ### DELETE_RANGE (R99) -/

/-- DELETE_RANGE (R99). -/
def execDeleteRange (tag : Byte) (session range : Nat) (s : State) : Host.Outcome State Fault Refusal :=
  s.request (.deleteRange tag session range) fun s =>
    match s.session? session, s.range? session range with
    | some _, some _ =>
      let s := s.removeRange session range
      (s, ⟨.ok, u16 session ++ u16 range ++ u8 (s.openRanges session) ++ u16 s.ranges.length⟩)
    | _, _ => (s, refuse .noSuch)

/-! ### LIST_RANGES (R103) -/

/-- The range stands at or after a start and range number in the order of R90. -/
def Range.atOrAfter (g : Range) (frame number : Nat) : Bool :=
  decide (frame < g.start) || (decide (g.start = frame) && decide (number ≤ g.number))

/-- The state filter: ANY 0, OPEN 1, CLOSED 2. -/
def statePasses (filter : Nat) (g : Range) : Bool :=
  decide (filter = 0) || (decide (filter = 1) && g.stop.isNone) || (decide (2 ≤ filter) && g.stop.isSome)

/-- The range covers the frame to test, when one is given. -/
def testPasses (x : Session) (test : Option Nat) (g : Range) : Bool := test.all fun f => g.covers x.arrivedHead f

/-- The ranges a listing runs over. -/
def State.rangesFrom (s : State) (x : Session) (r : ListRangesReq) : List Range :=
  (s.rangesOf x.number).filter fun g =>
    g.atOrAfter r.frame r.range && statePasses r.stateFilter g && testPasses x r.test g

/-- The effective permissions and the category of the frame to test. -/
def State.testBody (s : State) (x : Session) : Option Nat → List Byte
  | some f =>
    u8 (s.effectivePlay x f).code ++ yesNo (s.effectiveReadback x f) ++ yesNo (s.effectiveExport x f)
      ++ u8 (s.category x f).code
  | none => opt8 none ++ u8 0 ++ u8 0 ++ opt8 none

/-- The reply of LIST_RANGES: at most 16 ranges, the frame tested, and a continuation. -/
def State.rangeListing (s : State) (x : Session) (r : ListRangesReq) : List Byte :=
  let l := s.rangesFrom x r
  let listed := l.take 16
  let next := (l.drop 16).head?
  listBytes rangeRecord listed ++ s.testBody x r.test ++ u8 listed.length ++ u8 (s.openRanges x.number)
    ++ u16 s.ranges.length ++ opt32 (next.map (·.start)) ++ num16 (next.map (·.number))

/-- LIST_RANGES (R103). -/
def execListRanges (tag : Byte) (r : ListRangesReq) (s : State) : Host.Outcome State Fault Refusal :=
  s.request (.listRanges tag r) <| reportOnly fun s =>
    match s.session? r.session with
    | none => refuse .noSuch
    | some x => ⟨adjusted (decide (2 < r.stateFilter)), s.rangeListing x r⟩

end Sys2Proof.Machine
end

