-- ==== Sys2Proof/Machine/ReadbackCommands.lean ====
section
/-! DEFINITION. The requests of a read-back unit: QUEUE_READBACK with CHAIN yes and no (R152 to R154), CANCEL_READBACK of the
current entry and of all (R161), CONFIGURE_READBACK (R160) and READBACK_INFO (R163). -/

namespace Sys2Proof.Machine

/-! ### QUEUE_READBACK (R152 to R154) -/

/-- A start as given: form FRAME 0 or MARK, in its low two bytes (R197, R198). -/
def readbackStart (form value : Nat) : ReadbackStart := if form = 0 then .frame value else .mark (value % 65536)

/-- An end as given: form FRAME 0, MARK 1 or LENGTH, clamped to 1 to 112,500 (R153). -/
def readbackStop (form value : Nat) : ReadbackStop :=
  if form = 0 then .frame value else if form = 1 then .mark (value % 65536) else .length (clamp 1 112500 value)

/-- A form code or a length was clamped (R153). -/
def readbackChanges (r : QueueReadbackReq) : Bool :=
  decide (1 < r.startForm) || decide (2 < r.endForm)
    || (decide (2 ≤ r.endForm) && decide (clamp 1 112500 r.endValue ≠ r.endValue))

/-- The entry a request gives, under the unit's next serial (R152). -/
def readbackEntry (r : QueueReadbackReq) (serial : Nat) (chain : Bool) : ReadbackEntry where
  serial := serial
  session := r.session
  start := readbackStart r.startForm r.startValue
  stop := readbackStop r.endForm r.endValue
  chain := chain

/-- Where a taken entry stands once the request's effect is complete (R153). -/
inductive Standing where
  | playing
  | pending (position : Nat)
  | skipped (why : SkipReason)
deriving DecidableEq, Repr

/-- The standing, the position in the pending queue (a queue position: two bytes, R196) and the reason, in reply order. -/
def Standing.bytes : Standing → List Byte
  | .playing => u8 0 ++ num16 none ++ opt8 none
  | .pending k => u8 1 ++ num16 (some k) ++ opt8 none
  | .skipped why => u8 2 ++ num16 none ++ u8 why.code

/-- The standing of an entry: skipped when it is among the entries skipped, else playing or pending as the unit stands. -/
def Readback.standing (u : Readback) (serial : Nat) (skipped : List (Nat × SkipReason)) : Standing :=
  match skipped.find? fun k => k.1 = serial with
  | some k => .skipped k.2
  | none =>
    match u.pending.findIdx? fun e => e.serial = serial with
    | some k => .pending (k + 1)
    | none => .playing

/-- The serial taken (R152). -/
def Readback.takeSerial (u : Readback) : Readback := { u with nextSerial := (u.nextSerial + 1) % 256 }

/-- The reply of QUEUE_READBACK. -/
def queueAnswer (r : QueueReadbackReq) (serial : Nat) (k : Standing) : Answer :=
  ⟨adjusted (readbackChanges r), u16 serial ++ k.bytes⟩

/-- An entry with CHAIN yes (R154): appended, and the head of the queue started when the unit is idle. -/
def State.queueChain (s : State) (c : ChannelId) (r : QueueReadbackReq) : State × Answer :=
  let serial := (s.readback.get c).nextSerial
  let s := s.modReadback c fun u => { u.takeSerial with pending := u.pending ++ [readbackEntry r serial true] }
  if (s.readback.get c).current.isSome then
    (s, queueAnswer r serial ((s.readback.get c).standing serial []))
  else
    let before := (s.readback.get c).outstanding
    let a := s.startNext c
    let s := a.1.drainTest c before
    (s, queueAnswer r serial ((s.readback.get c).standing serial a.2))

/-- An entry with CHAIN no (R154): it aborts the current entry, discards the pending ones and starts at once. -/
def State.queuePreempt (s : State) (c : ChannelId) (r : QueueReadbackReq) : State × Answer :=
  let u := s.readback.get c
  let before := u.outstanding
  let e := readbackEntry r u.nextSerial false
  let s := s.modReadback c Readback.takeSerial
  let a := ((s.finishEntry c .aborted).discardPending c).startEntry c e
  let k : Standing := match a.2 with | some why => .skipped why | none => .playing
  (a.1.drainTest c before, queueAnswer r e.serial k)

/-- The checks every QUEUE_READBACK makes (R153). -/
def State.onReadback (s : State) (r : QueueReadbackReq) (f : ChannelId → State × Answer) : State × Answer :=
  match channelOf r.channel with
  | none => (s, refuse .noSuch)
  | some c =>
    match s.session? r.session with
    | none => (s, refuse .noSuch)
    | some x => if x.channel ≠ c then (s, refuse .notPermitted) else f c

/-- QUEUE_READBACK_CHAIN (R153, R154). -/
def execQueueReadbackChain (tag : Byte) (r : QueueReadbackReq) (s : State) : Host.Outcome State Fault Refusal :=
  s.requestMoving (.queueReadbackChain tag r) fun s =>
    s.onReadback r fun c =>
      if Config.readbackPending ≤ (s.readback.get c).pending.length then (s, refuse .full) else s.queueChain c r

/-- QUEUE_READBACK_PREEMPT (R153, R154). -/
def execQueueReadbackPreempt (tag : Byte) (r : QueueReadbackReq) (s : State) : Host.Outcome State Fault Refusal :=
  s.requestMoving (.queueReadbackPreempt tag r) fun s => s.onReadback r fun c => s.queuePreempt c r

/-! ### CANCEL_READBACK (R161) -/

/-- The serial aborted, the entries discarded, and the entry started after a CURRENT cancel with its standing. -/
def cancelBody (aborted : Option Nat) (discarded : Nat) (started : Option (Nat × Standing)) : List Byte :=
  opt16 aborted ++ u8 discarded ++ opt16 (started.map (·.1))
    ++ match started with
      | some (_, .playing) => u8 0 ++ opt8 none
      | some (_, .pending _) => u8 1 ++ opt8 none
      | some (_, .skipped why) => u8 2 ++ u8 why.code
      | none => opt8 none ++ opt8 none

/-- What became of the head of the pending queue after a CURRENT cancel.  DESIGN CHOICE: the reply names that entry, also
when it is skipped and a later one plays (notes/assumptions/51.md). -/
def startedAfter (head : Option ReadbackEntry) (skipped : List (Nat × SkipReason)) : Option (Nat × Standing) :=
  head.map fun e =>
    match skipped.find? fun k => k.1 = e.serial with
    | some k => (e.serial, .skipped k.2)
    | none => (e.serial, .playing)

/-- The current entry aborted and the next one started. -/
def State.cancelCurrent (s : State) (c : ChannelId) (k : ReadbackCurrent) : State × Answer :=
  let u := s.readback.get c
  let a := (s.finishEntry c .aborted).startNext c
  (a.1.drainTest c u.outstanding,
    ⟨.ok, cancelBody (some k.entry.serial) 0 (startedAfter u.pending.head? a.2)⟩)

/-- CANCEL_READBACK_CURRENT (R161). -/
def execCancelReadbackCurrent (tag : Byte) (channel : Nat) (s : State) : Host.Outcome State Fault Refusal :=
  s.requestMoving (.cancelReadbackCurrent tag channel) fun s =>
    match channelOf channel with
    | none => (s, refuse .noSuch)
    | some c =>
      match (s.readback.get c).current with
      | none => (s, refuse .wrongState)
      | some k => s.cancelCurrent c k

/-- Every pending entry discarded and the current one aborted. -/
def State.cancelAll (s : State) (c : ChannelId) (scope : Nat) : State × Answer :=
  let u := s.readback.get c
  let s := (s.discardPending c).finishEntry c .aborted
  (s.drainTest c u.outstanding,
    ⟨adjusted (decide (1 < scope)), cancelBody (u.current.map (·.entry.serial)) u.pending.length none⟩)

/-- CANCEL_READBACK_ALL (R161). -/
def execCancelReadbackAll (tag : Byte) (channel scope : Nat) (s : State) : Host.Outcome State Fault Refusal :=
  s.requestMoving (.cancelReadbackAll tag channel scope) fun s =>
    match channelOf channel with
    | none => (s, refuse .noSuch)
    | some c =>
      if (s.readback.get c).outstanding = 0 then (s, refuse .wrongState) else s.cancelAll c scope

/-! ### CONFIGURE_READBACK and READBACK_INFO (R160, R163) -/

/-- CONFIGURE_READBACK (R160). -/
def execConfigureReadback (tag : Byte) (channel threshold : Nat) (s : State) : Host.Outcome State Fault Refusal :=
  s.request (.configureReadback tag channel threshold) fun s =>
    match channelOf channel with
    | none => (s, refuse .noSuch)
    | some c =>
      let k := clamp 0 7 threshold
      let s := s.modReadback c fun u => { u with threshold := k }
      (s, ⟨adjusted (decide (k ≠ threshold)), u8 k ++ u8 (s.readback.get c).outstanding⟩)

/-- A start, and an end, as given.  DESIGN CHOICE: the form in one byte and the value in four, for a mark number also
(notes/assumptions/53.md). -/
def startBytes : ReadbackStart → List Byte
  | .frame n => u8 0 ++ u32 n
  | .mark n => u8 1 ++ u32 n

def stopBytes : ReadbackStop → List Byte
  | .frame n => u8 0 ++ u32 n
  | .mark n => u8 1 ++ u32 n
  | .length n => u8 2 ++ u32 n

/-- An entry as the host gave it. -/
def entryBytes (e : ReadbackEntry) : List Byte :=
  u16 e.serial ++ u16 e.session ++ startBytes e.start ++ stopBytes e.stop ++ yesNo e.chain

/-- The current entry, or none, with the reader's state (R163). -/
def currentBytes (u : Readback) : List Byte :=
  match u.current with
  | some k =>
    entryBytes k.entry ++ u32 k.start ++ u32 k.stop ++ num16 k.startMark ++ opt32 u.fetch ++ yesNo u.finished
      ++ u32 k.played ++ u32 k.withheld ++ u32 k.silent ++ u8 u.fifo.length
  | none =>
    opt16 none ++ num16 none ++ opt8 none ++ opt32 none ++ opt8 none ++ opt32 none ++ yesNo false ++ opt32 none
      ++ opt32 none ++ num16 none ++ opt32 none ++ yesNo false ++ u32 0 ++ u32 0 ++ u32 0 ++ opt8 none

/-- The report of a read-back unit. -/
def readbackReport (u : Readback) : List Byte :=
  u8 u.outstanding ++ u8 u.pending.length ++ u8 u.threshold ++ u16 u.nextSerial ++ currentBytes u
    ++ listBytes entryBytes u.pending ++ u16 u.underruns

/-- READBACK_INFO (R163). -/
def execReadbackInfo (tag : Byte) (channel : Nat) (s : State) : Host.Outcome State Fault Refusal :=
  s.request (.readbackInfo tag channel) <| reportOnly fun s =>
    match channelOf channel with
    | some c => ⟨.ok, readbackReport (s.readback.get c)⟩
    | none => refuse .noSuch

end Sys2Proof.Machine
end

