-- ==== Sys2Proof/Machine/StationCommands.lean ====
section
/-! DEFINITION. The requests of a station port, CONFIGURE_STATION (R148) and STATION_INFO (R150), and what changes its link
state: loss, reclaim and valid packets (R127, R128). -/

namespace Sys2Proof.Machine

/-! ### Loss and reclaim (R127, R128) -/

/-- The reclaim timer of a LOST port expires (R128). -/
def State.expireReclaim (s : State) (n : StationId) : State :=
  let k := (s.stations.get n).takes.length
  let s := (s.reclaim n).modStation n fun st => { st with reclaimTimer := none, link := .absent }
  s.raiseStation n .absent none (some k)

/-- The accepting flag cleared, with its notice when it was set (R130). -/
def State.stopAccepting (s : State) (n : StationId) : State :=
  if (s.stations.get n).accepting then
    (s.modStation n fun st => { st with accepting := false }).raiseStation n .accepting none none
  else s

/-- A PRESENT port becomes LOST (R127); a grace of 0 expires in the same step (R128). -/
def State.loseStation (s : State) (n : StationId) : State :=
  let s := (s.modStation n fun st =>
    { st with link := .lost, silenceTimer := some 1000, reclaimTimer := some 0, pedals := [] }).stopAccepting n
  let s := if (s.stations.get n).transport = .stopped then s else s.stopByPart n
  let s := s.emptyPlayout n
  let grace := (s.stations.get n).config.grace
  let s := s.raiseStation n .lost (some grace) none
  if grace = 0 then s.expireReclaim n else s

/-! ### CONFIGURE_STATION (R128, R129, R148) -/

/-- The configuration as stored. -/
def storedStation (r : ConfigureStationReq) : StationConfig where
  enable := r.enable
  channelSet := BitVec.ofNat 4 r.channelSet
  classSet := BitVec.ofNat 3 r.classSet
  depth := clamp 1 4 r.depth
  cleared := r.cleared
  startAtCore := r.startAtCore
  backspace := clamp 0 125 r.backspace
  scanPlay := clamp 0 16 r.scanPlay
  scanStride := clamp (clamp 0 16 r.scanPlay + 1) 64 r.scanStride
  grace := clamp 0 600 r.grace
  text := cleanText r.text

/-- A value was clamped, a set bit ignored or a text byte replaced. -/
def stationChanges (r : ConfigureStationReq) : Bool :=
  let c := storedStation r
  decide (16 ≤ r.channelSet) || decide (8 ≤ r.classSet) || decide (c.depth ≠ r.depth) || decide (c.backspace ≠ r.backspace)
    || decide (c.scanPlay ≠ r.scanPlay) || decide (c.scanStride ≠ r.scanStride) || decide (c.grace ≠ r.grace)
    || decide (c.text ≠ r.text)

/-- A configuration reported whole, in the order of R148. -/
def stationConfigBytes (c : StationConfig) : List Byte :=
  yesNo c.enable ++ u8 c.channelSet.toNat ++ u8 c.classSet.toNat ++ u8 c.depth ++ yesNo c.cleared ++ yesNo c.startAtCore
    ++ u8 c.backspace ++ u8 c.scanPlay ++ u8 c.scanStride ++ u16 c.grace ++ c.text

/-- The enable has changed from yes to no (R129). -/
def State.disableStation (s : State) (n : StationId) : State :=
  let s := (s.reclaim n).modStation n fun st => { st with pedals := [], audioWaiting := none }
  ((s.setTransport n .stopped).emptyPlayout n).raiseStation n .disabled none none

/-- The reclaim timer of a LOST port has reached the grace. -/
def Station.graceSpent (st : Station) : Bool :=
  decide (st.link = .lost) && st.reclaimTimer.any fun t => decide (st.config.grace * 1000 ≤ t)

/-- The effects of a new configuration (R128, R129, R148).  DESIGN CHOICE: ENABLED or DISABLED is raised before the ABSENT of a
grace already spent (notes/assumptions/60.md). -/
def State.configureStation (s : State) (n : StationId) (cfg : StationConfig) : State :=
  let was := (s.stations.get n).config.enable
  let s := s.modStation n fun st => { st with config := cfg }
  let s := if was && !cfg.enable then s.disableStation n else s
  let s := if cfg.enable then s.raiseStation n .enabled none none else s
  let s := if (s.stations.get n).graceSpent then s.expireReclaim n else s
  s.matchingPass

/-- CONFIGURE_STATION (R148). -/
def execConfigureStation (tag : Byte) (r : ConfigureStationReq) (s : State) : Host.Outcome State Fault Refusal :=
  s.request (.configureStation tag r) fun s =>
    match stationOf r.station with
    | none => (s, refuse .noSuch)
    | some n =>
      (s.configureStation n (storedStation r), ⟨adjusted (stationChanges r), stationConfigBytes (storedStation r)⟩)

/-! ### STATION_INFO (R150) -/

/-- A take of the list, with its dispatch state and capture status. -/
def State.listEntry (s : State) (r : TakeRef) : List Byte :=
  u16 r.session ++ u16 r.number ++ opt8 ((s.take? r).map (·.dispatch.code)) ++ opt8 ((s.take? r).map (·.capture.code))

/-- The report of a station. -/
def State.stationReport (s : State) (n : StationId) : List Byte :=
  let st := s.stations.get n
  stationConfigBytes st.config ++ u8 st.link.code ++ opt16 st.silenceTimer ++ opt16 (st.reclaimTimer.map (· / 1000))
    ++ opt16 (st.model.map (·.toNat)) ++ yesNo st.accepting ++ yesNo st.wanting ++ listBytes s.listEntry st.takes
    ++ listBytes (fun p : Pedal => u8 p.code) st.pedals ++ u8 st.transport.code ++ yesNo st.parked
    ++ yesNo st.stoppedByPart ++ opt32 st.cursor ++ yesNo st.cursorPlayed ++ yesNo st.backspaceDue ++ u8 st.fifo.length
    ++ opt32 st.fetch ++ u8 st.status.code ++ yesNo st.skipFlag ++ u16 st.underruns ++ u16 st.badPackets

/-- STATION_INFO (R150). -/
def execStationInfo (tag : Byte) (station : Nat) (s : State) : Host.Outcome State Fault Refusal :=
  s.request (.stationInfo tag station) <| reportOnly fun s =>
    match stationOf station with
    | some n => ⟨.ok, s.stationReport n⟩
    | none => refuse .noSuch

end Sys2Proof.Machine
end

