-- ==== Sys2Proof/Machine/StationEvents.lean ====
section
/-! DEFINITION. The events of a station port: packets received and discarded (R126, R127, R202), pedals (R135), keys (R130, R143
to R146), its timers (R127, R128, R141, R147) and the packets it has sent (R147). -/

namespace Sys2Proof.Machine

/-! ### Packets received -/

/-- What a valid packet does to the link state (R127): the silence timer restarts, and an ABSENT or LOST port is PRESENT. -/
def State.validPacket (s : State) (n : StationId) : State :=
  match (s.stations.get n).link with
  | .present => s.modStation n fun st => { st with silenceTimer := some 0 }
  | .absent | .lost =>
    (s.modStation n fun st => { st with silenceTimer := some 0, link := .present, reclaimTimer := none }).raiseStation
      n .present none none

/-- A valid packet of a station: it acts on the link state, then as `f` gives; while STARTING it is ignored (R126). -/
def State.onPacket (s : State) (n : StationId) (f : State → State) : Host.Outcome State Fault Refusal :=
  match s.link.device with
  | .starting => .next s
  | .ready => .next (State.finish s (f (s.validPacket n)))

/-- An event that discards the packet being received, when there is one to discard: it is counted (R126).  The event
brings the bytes the port has received since its search for a start byte began (notes/assumptions/55.md). -/
def State.discardPacket (s : State) (n : StationId) (discards : Bool) : Host.Outcome State Fault Refusal :=
  match s.link.device with
  | .starting => .next s
  | .ready =>
    if discards then
      .next (State.finish s (s.modStation n fun st => { st with badPackets := min 65535 (st.badPackets + 1) }))
    else .next s

/-- STATION_PACKET_INVALID (R126): a byte with a low stop bit within a packet, an unknown kind, or a check that does not
agree. -/
def execStationPacketInvalid (line : LineBytes) (lowStop : Bool) (s : State) : Host.Outcome State Fault Refusal :=
  s.discardPacket line.station (if lowStop then receivingPacket line.received else receivedBad line.received)

/-- STATION_PACKET_TIMEOUT (R126). -/
def execStationPacketTimeout (line : LineBytes) (s : State) : Host.Outcome State Fault Refusal :=
  s.discardPacket line.station (receivingPacket line.received)

/-- STATION_LINE_BREAK (R126): outside a packet a break discards nothing and counts nothing. -/
def execStationLineBreak (line : LineBytes) (s : State) : Host.Outcome State Fault Refusal :=
  s.discardPacket line.station (receivingPacket line.received)

/-- ALIVE (R126, R202). -/
def execAlive (n : StationId) (model : Byte) (s : State) : Host.Outcome State Fault Refusal :=
  s.onPacket n fun s => s.modStation n fun st => { st with model := some model }

/-- KEY_UNKNOWN (R202): valid for the link state alone. -/
def execKeyUnknown (n : StationId) (_code _action : Byte) (s : State) : Host.Outcome State Fault Refusal :=
  s.onPacket n id

/-! ### Pedals (R135, R136, R142) -/

/-- The held-pedal order after a press or a release (R135). -/
def heldAfter (held : List Pedal) (p : Pedal) (press : Bool) : List Pedal :=
  if press then held.erase p ++ [p] else held.erase p

/-- The first PLAY of an ASSIGNED current take makes it IN_WORK (R65, R136). -/
def State.startWork (s : State) (t : Take) : State :=
  if t.dispatch = .assigned then (s.modTake t.ref fun t => { t with dispatch := .inWork }).raiseTake t.ref .dispatch
  else s

/-- The transport brought to what the governing pedal calls for; HOLDING under PLAY stays (R135). -/
def State.applyPedals (s : State) (n : StationId) : State :=
  let s := s.modStation n fun st => { st with stoppedByPart := false }
  let st := s.stations.get n
  let t := wantedTransport st.pedals
  if st.transport = .holding ∧ t = .playing then s else s.setTransport n t

/-- A pedal event on an enabled port with a current take. -/
def State.pedalActs (s : State) (n : StationId) (t : Take) (governs : Bool) (starts : Bool) : State :=
  let s := if starts then s.startWork t else s
  if (s.stations.get n).stoppedByPart && !governs then s else s.applyPedals n

/-- A pedal event (R135); a press sets the last status to NONE (R142, notes/assumptions/18.md). -/
def State.pedalEvent (s : State) (n : StationId) (p : Pedal) (press : Bool) : State :=
  let held := (s.stations.get n).pedals
  let s := s.modStation n fun st => { st with pedals := heldAfter held p press }
  if (s.stations.get n).config.enable then
    let s := if press then s.setStatus n .none none else s
    match s.currentOf n with
    | some (t, _) =>
      s.pedalActs n t (press || decide (held.getLast? = some p)) (press && decide (p = .play))
    | none => s
  else s

/-- A KEY packet of a pedal: what the readers fetch next follows at once. -/
def State.onPedal (s : State) (n : StationId) (p : Pedal) (press : Bool) : Host.Outcome State Fault Refusal :=
  match s.link.device with
  | .starting => .next s
  | .ready => .next (State.settleAll s ((s.validPacket n).pedalEvent n p press))

/-- PLAY_PEDAL (R135, R136). -/
def execPlayPedal (n : StationId) (press : Bool) (s : State) : Host.Outcome State Fault Refusal := s.onPedal n .play press

/-- FWD_PEDAL (R135). -/
def execFwdPedal (n : StationId) (press : Bool) (s : State) : Host.Outcome State Fault Refusal := s.onPedal n .fwd press

/-- BACK_PEDAL (R135). -/
def execBackPedal (n : StationId) (press : Bool) (s : State) : Host.Outcome State Fault Refusal := s.onPedal n .back press

/-! ### Keys (R130, R143, R144, R146) -/

/-- A key of an enabled port acts on its press (chapter 07, Keys). -/
def State.onKey (s : State) (n : StationId) (press : Bool) (f : State → State) : Host.Outcome State Fault Refusal :=
  s.onPacket n fun s => if press && (s.stations.get n).config.enable then f s else s

/-- The IN_WORK, CLOSED current take becomes TYPED and leaves the list (R65, R143). -/
def State.typeTake (s : State) (n : StationId) (t : Take) : State :=
  let s := s.modTake t.ref fun t => { t with dispatch := .typed, station := none }
  let s := (s.leaveList n t.ref).setStatus n .typed none
  (s.raiseTake t.ref .dispatch).passIfWanting n

/-- A DONE press (R143). -/
def State.doneKey (s : State) (n : StationId) : State :=
  match s.currentOf n with
  | none => s.setStatus n .noTake none
  | some (t, _) =>
    if t.dispatch = .assigned then s.setStatus n .notYetPlayed none
    else if t.capture = .opened then s.setStatus n .stillRecording none
    else s.typeTake n t

/-- DONE_KEY (R143). -/
def execDoneKey (n : StationId) (press : Bool) (s : State) : Host.Outcome State Fault Refusal :=
  s.onKey n press fun s => s.doneKey n

/-- A take returned (R116, R144): it leaves the list, its returns rise, and it is queued at its class head or HELD. -/
def State.returnTake (s : State) (n : StationId) (t : Take) : State :=
  let k := min 3 (t.returns + 1)
  let s := (s.leaveList n t.ref).modTake t.ref fun t => { t with returns := k, excluded := some n }
  if k < 3 then ((s.queueHead t.ref).setStatus n .returned none).matchingPass
  else
    let s := s.modTake t.ref fun t => { t with dispatch := .held, station := none }
    ((s.raiseTake t.ref .dispatch).setStatus n .held none).passIfWanting n

/-- A RETURN press (R144). -/
def State.returnKey (s : State) (n : StationId) : State :=
  match s.currentOf n with
  | none => s.setStatus n .noTake none
  | some (t, _) => s.returnTake n t

/-- RETURN_KEY (R144). -/
def execReturnKey (n : StationId) (press : Bool) (s : State) : Host.Outcome State Fault Refusal :=
  s.onKey n press fun s => s.returnKey n

/-- A READY press (R130). -/
def State.readyKey (s : State) (n : StationId) : State :=
  let s := (s.modStation n fun st => { st with accepting := !st.accepting }).raiseStation n .accepting none none
  s.passIfWanting n

/-- READY_KEY (R130). -/
def execReadyKey (n : StationId) (press : Bool) (s : State) : Host.Outcome State Fault Refusal :=
  s.onKey n press fun s => s.readyKey n

/-- The status a NOTE leaves (R146). -/
def noteStatus : MarkOutcome → StationStatus
  | .inserted _ => .noteAdded
  | .merged _ => .noteMerged
  | .dropped _ => .noteDropped

/-- A NOTE press (R146): a mark at the cursor frame of the current take. -/
def State.noteKey (s : State) (n : StationId) : State :=
  match s.currentOf n, (s.stations.get n).cursor with
  | some (t, _), some f =>
    let r := s.addReportedMark t.channel (plainMark t.session f .note (.station n))
    r.1.setStatus n (noteStatus r.2) r.2.number?
  | _, _ => s.setStatus n .noTake none

/-- NOTE_KEY (R146). -/
def execNoteKey (n : StationId) (press : Bool) (s : State) : Host.Outcome State Fault Refusal :=
  s.onKey n press fun s => s.noteKey n

/-! ### Timers of the link state (R127, R128) -/

/-- STATION_LINK_LOST (R127). -/
def execStationLinkLost (n : StationId) (s : State) : Host.Outcome State Fault Refusal :=
  match s.link.device, (s.stations.get n).link with
  | .ready, .present => .next (State.finish s (s.loseStation n))
  | _, _ => .next s

/-- RECLAIM_TIMER_EXPIRY (R128). -/
def execReclaimTimerExpiry (n : StationId) (s : State) : Host.Outcome State Fault Refusal :=
  match s.link.device, (s.stations.get n).link with
  | .ready, .lost => .next (State.finish s (s.expireReclaim n))
  | _, _ => .next s

/-! ### The station frame time (R137 to R141) -/

/-- An AUDIO packet of a frame, or of silence. -/
def Station.send (st : Station) (samples : Option (List Sample)) : Station :=
  { st with audioWaiting := some (samples.getD silence) }

/-- The head entry sent: the cursor becomes its frame; the move of a scan that follows it is made (R137 to R139). -/
def Station.sendHead (st : Station) (e : PlayEntry) : Station :=
  let st := { st.pop.send e.samples with cursor := some e.frame, cursorPlayed := true }
  match e.move with
  | some land => st.landOn land
  | none => st

/-- The end of the take (R137). -/
def State.endOfTake (s : State) (n : StationId) (e : Nat) : State :=
  ((s.modStation n fun st => { st with cursor := some e, cursorPlayed := true }).stopByPart n).setStatus n .endOfTake none

/-- A frame time at which the FIFO is empty because its transfer has not ended (R141). -/
def State.underrun (s : State) (n : StationId) : State :=
  (s.modStation n fun st => { st.send none with underruns := min 65535 (st.underruns + 1) }).raiseStation
    n .underrun none none

/-- The move of a scan with X = 0 (R138, R139). -/
def Station.strideMove (st : Station) (playable : Nat → Bool) (start ub p y : Nat) : Station :=
  match st.transport with
  | .scanFwd =>
    if ub < p + y then st.park ub
    else
      let land := landForward playable ub (p + y)
      (st.landOn land).beginForward ub land
  | .scanBack =>
    if p < start + y then st.park (landBackward playable start ub start)
    else
      let land := landBackward playable start ub (p - y)
      (st.landOn land).beginBackward playable start ub land
  | .stopped | .playing | .holding => st

/-- A scanning frame time with an empty FIFO (R138, R139, R141). -/
def State.scanEmpty (s : State) (n : StationId) (t : Take) (x : Session) : State :=
  let st := s.stations.get n
  if st.parked then s.modStation n fun st => st.send none
  else
    match st.cycle, st.cursor with
    | some k, some p =>
      if k.scanPlay = 0 then
        s.modStation n fun st => (st.send none).strideMove (s.playable st x) t.leadIn (upperBound x t) p k.scanStride
      else s.underrun n
    | _, _ => s.underrun n

/-- A playing or holding frame time with an empty FIFO (R137, R141). -/
def State.playEmpty (s : State) (n : StationId) (t : Take) : State :=
  let st := s.stations.get n
  match t.stop, st.reader, st.transport with
  | some e, .stopped, _ => s.endOfTake n e
  | _, _, .holding => s.modStation n fun st => st.send none
  | _, .waiting, _ => s.modStation n fun st => { st.send none with transport := .holding }
  | _, _, _ => s.underrun n

/-- A station frame time of an enabled port whose transport is not STOPPED (R141).  DEDUCED: the change between PLAYING and HOLDING
made here empties nothing, since R137 sends what is buffered (notes/assumptions/47.md). -/
def State.stationFrame (s : State) (n : StationId) : State :=
  let s := s.modStation n fun st => { st with frameTimer := some 0 }
  let st := s.stations.get n
  match st.fifo with
  | e :: _ =>
    s.modStation n fun st =>
      let sent := st.sendHead e
      if st.transport = .holding then { sent with transport := .playing } else sent
  | [] =>
    match s.currentOf n with
    | some (t, x) => if st.transport.isScan then s.scanEmpty n t x else s.playEmpty n t
    | none => s

/-- STATION_FRAME_TIME (R141). -/
def execStationFrameTime (n : StationId) (s : State) : Host.Outcome State Fault Refusal :=
  let st := s.stations.get n
  if s.link.device = .ready ∧ st.config.enable ∧ st.transport ≠ .stopped then
    .next (State.settleAll s (s.stationFrame n))
  else .next s

/-! ### STATE packets and packets sent (R147) -/

/-- STATE_REFRESH_TIMER (R147). -/
def execStateRefreshTimer (n : StationId) (s : State) : Host.Outcome State Fault Refusal :=
  match s.link.device with
  | .starting => .next s
  | .ready => .next (State.finish s (s.modStation n fun st => { st with stateDue := true }))

/-- STATE_PACKET_SENT (R147). -/
def execStatePacketSent (n : StationId) (s : State) : Host.Outcome State Fault Refusal :=
  match (s.stations.get n).line with
  | some (.state _ skip) =>
    .next (State.finish s (s.modStation n fun st =>
      { st with line := none, stateTimer := some 0, skipFlag := st.skipFlag && !skip }))
  | some (.audio _) | none => .next s

/-- AUDIO_PACKET_SENT (R147). -/
def execAudioPacketSent (n : StationId) (s : State) : Host.Outcome State Fault Refusal :=
  match (s.stations.get n).line with
  | some (.audio _) => .next (State.finish s (s.modStation n fun st => { st with line := none }))
  | some (.state ..) | none => .next s

end Sys2Proof.Machine
end

