-- ==== Sys2Proof/Machine/Dispatch.lean ====
section
/-! DEFINITION. The meaning of every command: one direct call for each constructor of `Instr`, in the order of
spec/opcode_table.json. -/

namespace Sys2Proof.Machine

def exec (i : Instr) (s : State) : Host.Outcome State Fault Refusal :=
  match i with
  | .pinReset msz1 msz0 lrt1 lrt0 => Sys2Proof.Machine.execPinReset msz1 msz0 lrt1 lrt0 s
  | .startupComplete => Sys2Proof.Machine.execStartupComplete s
  | .messageReceived bytes => Sys2Proof.Machine.execMessageReceived bytes s
  | .messageBadLength len => Sys2Proof.Machine.execMessageBadLength len s
  | .messageTimeout => Sys2Proof.Machine.execMessageTimeout s
  | .requestUnknownKind tag kind body => Sys2Proof.Machine.execRequestUnknownKind tag kind body s
  | .replySent => Sys2Proof.Machine.execReplySent s
  | .noticeSent => Sys2Proof.Machine.execNoticeSent s
  | .dataSent => Sys2Proof.Machine.execDataSent s
  | .fetchEndSent => Sys2Proof.Machine.execFetchEndSent s
  | .identify tag => Sys2Proof.Machine.execIdentify tag s
  | .resetLink tag scope => Sys2Proof.Machine.execResetLink tag scope s
  | .resetFull tag => Sys2Proof.Machine.execResetFull tag s
  | .setNoticeMask tag mask => Sys2Proof.Machine.execSetNoticeMask tag mask s
  | .openSession tag r => Sys2Proof.Machine.execOpenSession tag r s
  | .closeSession tag session => Sys2Proof.Machine.execCloseSession tag session s
  | .sessionInfo tag session => Sys2Proof.Machine.execSessionInfo tag session s
  | .storeInfo tag => Sys2Proof.Machine.execStoreInfo tag s
  | .configureStore tag lowMark => Sys2Proof.Machine.execConfigureStore tag lowMark s
  | .configureChannel tag r => Sys2Proof.Machine.execConfigureChannel tag r s
  | .channelInfo tag channel => Sys2Proof.Machine.execChannelInfo tag channel s
  | .setPlan tag session patch => Sys2Proof.Machine.execSetPlan tag session patch s
  | .cutNow tag session => Sys2Proof.Machine.execCutNow tag session s
  | .releaseTake tag session take => Sys2Proof.Machine.execReleaseTake tag session take s
  | .takeInfo tag session take => Sys2Proof.Machine.execTakeInfo tag session take s
  | .listTakes tag r => Sys2Proof.Machine.execListTakes tag r s
  | .queueTake tag session take => Sys2Proof.Machine.execQueueTake tag session take s
  | .setClass tag session take code => Sys2Proof.Machine.execSetClass tag session take code s
  | .recallTake tag session take => Sys2Proof.Machine.execRecallTake tag session take s
  | .assignTake tag session take station => Sys2Proof.Machine.execAssignTake tag session take station s
  | .clearHold tag session take => Sys2Proof.Machine.execClearHold tag session take s
  | .dispatchInfo tag position => Sys2Proof.Machine.execDispatchInfo tag position s
  | .addMark tag r => Sys2Proof.Machine.execAddMark tag r s
  | .deleteMark tag session mark => Sys2Proof.Machine.execDeleteMark tag session mark s
  | .listMarks tag r => Sys2Proof.Machine.execListMarks tag r s
  | .openRange tag r => Sys2Proof.Machine.execOpenRange tag r s
  | .closeRange tag session range stop => Sys2Proof.Machine.execCloseRange tag session range stop s
  | .setRange tag r => Sys2Proof.Machine.execSetRange tag r s
  | .deleteRange tag session range => Sys2Proof.Machine.execDeleteRange tag session range s
  | .listRanges tag r => Sys2Proof.Machine.execListRanges tag r s
  | .configureStation tag r => Sys2Proof.Machine.execConfigureStation tag r s
  | .stationInfo tag station => Sys2Proof.Machine.execStationInfo tag station s
  | .queueReadbackChain tag r => Sys2Proof.Machine.execQueueReadbackChain tag r s
  | .queueReadbackPreempt tag r => Sys2Proof.Machine.execQueueReadbackPreempt tag r s
  | .cancelReadbackCurrent tag channel => Sys2Proof.Machine.execCancelReadbackCurrent tag channel s
  | .cancelReadbackAll tag channel scope => Sys2Proof.Machine.execCancelReadbackAll tag channel scope s
  | .configureReadback tag channel threshold => Sys2Proof.Machine.execConfigureReadback tag channel threshold s
  | .readbackInfo tag channel => Sys2Proof.Machine.execReadbackInfo tag channel s
  | .fetchAudio tag session start count => Sys2Proof.Machine.execFetchAudio tag session start count s
  | .fetchAudioContinue tag form count => Sys2Proof.Machine.execFetchAudioContinue tag form count s
  | .stopFetch tag => Sys2Proof.Machine.execStopFetch tag s
  | .frameCompleted channel samples => Sys2Proof.Machine.execFrameCompleted channel samples s
  | .inputLossTimerExpiry channel => Sys2Proof.Machine.execInputLossTimerExpiry channel s
  | .lostFrameTick channel => Sys2Proof.Machine.execLostFrameTick channel s
  | .inputReturned channel sample => Sys2Proof.Machine.execInputReturned channel sample s
  | .channelOutputFrameTime channel => Sys2Proof.Machine.execChannelOutputFrameTime channel s
  | .keypadPressAccepted channel key => Sys2Proof.Machine.execKeypadPressAccepted channel key s
  | .keypadReleaseAccepted channel key => Sys2Proof.Machine.execKeypadReleaseAccepted channel key s
  | .captureTransferEnd => Sys2Proof.Machine.execCaptureTransferEnd s
  | .stationPacketInvalid line lowStop => Sys2Proof.Machine.execStationPacketInvalid line lowStop s
  | .stationPacketTimeout line => Sys2Proof.Machine.execStationPacketTimeout line s
  | .stationLineBreak line => Sys2Proof.Machine.execStationLineBreak line s
  | .alive station model => Sys2Proof.Machine.execAlive station model s
  | .playPedal station press => Sys2Proof.Machine.execPlayPedal station press s
  | .fwdPedal station press => Sys2Proof.Machine.execFwdPedal station press s
  | .backPedal station press => Sys2Proof.Machine.execBackPedal station press s
  | .doneKey station press => Sys2Proof.Machine.execDoneKey station press s
  | .returnKey station press => Sys2Proof.Machine.execReturnKey station press s
  | .readyKey station press => Sys2Proof.Machine.execReadyKey station press s
  | .noteKey station press => Sys2Proof.Machine.execNoteKey station press s
  | .keyUnknown station code action => Sys2Proof.Machine.execKeyUnknown station code action s
  | .stationLinkLost station => Sys2Proof.Machine.execStationLinkLost station s
  | .reclaimTimerExpiry station => Sys2Proof.Machine.execReclaimTimerExpiry station s
  | .stationFrameTime station => Sys2Proof.Machine.execStationFrameTime station s
  | .stateRefreshTimer station => Sys2Proof.Machine.execStateRefreshTimer station s
  | .statePacketSent station => Sys2Proof.Machine.execStatePacketSent station s
  | .audioPacketSent station => Sys2Proof.Machine.execAudioPacketSent station s
  | .stationReaderTransferEnd => Sys2Proof.Machine.execStationReaderTransferEnd s
  | .readbackReaderTransferEnd => Sys2Proof.Machine.execReadbackReaderTransferEnd s
  | .exportReaderTransferEnd => Sys2Proof.Machine.execExportReaderTransferEnd s
  | .refreshDueTime => Sys2Proof.Machine.execRefreshDueTime s
  | .refreshBurstEnd => Sys2Proof.Machine.execRefreshBurstEnd s
  | .keySample channel key high => Sys2Proof.Machine.execKeySample channel key high s
  | .startByte => Sys2Proof.Machine.execStartByte s
  | .invalidByte => Sys2Proof.Machine.execInvalidByte s

end Sys2Proof.Machine
end

