-- ==== Sys2Proof/Machine/Timers.lean ====
section
/-! DEFINITION. A millisecond of the part's own timebase, in which no command is taken: the running timers advance, each held at
the value at which its event falls due (R7, R8, R127, R128, R141, R147, R169, R176).  The events themselves are commands.
DESIGN CHOICE: this is what a step does on an empty queue (notes/assumptions/1.md). -/

namespace Sys2Proof.Machine

/-- A running timer a millisecond later, held at `limit`. -/
def advance (limit : Nat) (t : Option Nat) : Option Nat := t.map fun t => min limit (t + 1)

/-- The timers of a channel (R7, R8). -/
def Channel.tick (ch : Channel) : Channel :=
  { ch with inputLossTimer := min 48 (ch.inputLossTimer + 1), lostTick := advance 16 ch.lostTick }

/-- The timers of a station port (R127, R128, R141, R147). -/
def Station.tick (st : Station) : Station :=
  { st with
    silenceTimer := advance 1000 st.silenceTimer
    reclaimTimer := advance 600000 st.reclaimTimer
    frameTimer := advance 16 st.frameTimer
    stateTimer := advance 1000 st.stateTimer }

/-- One millisecond. -/
def State.tick (s : State) : State :=
  let s := allChannels.foldl (fun s c => s.modChannel c Channel.tick) s
  let s := allStations.foldl (fun s n => s.modStation n Station.tick) s
  let s := s.modLink fun l => { l with messageTimer := advance 20 l.messageTimer }
  s.modArbiter fun a => { a with refreshTimer := min 1 (a.refreshTimer + 1) }

end Sys2Proof.Machine
end

