-- ==== Sys2Proof/Safety.lean ====
section
/-! DEFINITION. The terms claims use: when a request is taken and how it is answered, what a state holds besides its lines,
what has been reported, and the invariants a safe run keeps. -/

namespace Sys2Proof.Machine

/-! ### Requests -/

/-- Request command `i` is performed in state `s`: the part is READY, and `i` answers the request in progress or finds the
link at rest (R179, R184). -/
def Taken (i : Instr) (s : State) : Prop := s.admits i = true ∧ s.link.device = .ready

/-- In state `t` the request in progress is the one command `i` stood for in state `s`, and it has been answered with `a`
(R179). -/
def Answered (i : Instr) (s t : State) (a : Answer) : Prop :=
  ∃ r, i.request = some r ∧ t.link.inProgress = some ⟨s.requestOr r, some (makeReply (s.requestOr r) a)⟩

/-! ### What sending moves -/

/-- A port without the packets of its line. -/
def Station.offLine (st : Station) : Station := { st with line := none, audioWaiting := none, stateDue := false }

/-- A link without the request in progress, its replies, its notices and its line. -/
def Link.offLine (l : Link) : Link :=
  { l with inProgress := none, replies := [], line := none, notices := [], dropped := 0 }

/-- The state without what sending alone moves: replies, notices, the outbound line, the export FIFO that a DATA message
empties (R190), and the packets of the station lines (R147).  Everything else stands in it. -/
def State.offLine (s : State) : State :=
  { s with
    link := s.link.offLine
    exporter := { s.exporter with fifo := [] }
    stations := ⟨s.stations.s0.offLine, s.stations.s1.offLine, s.stations.s2.offLine, s.stations.s3.offLine,
      s.stations.s4.offLine, s.stations.s5.offLine, s.stations.s6.offLine, s.stations.s7.offLine⟩ }

/-- A notice of this kind and subject waits in the pending notice set or is on the line (R182). -/
def State.told (s : State) (k : NoticeKind) (sub : Subject) : Prop :=
  (∃ n ∈ s.link.notices, n.kind = k ∧ n.subject = sub)
    ∨ ∃ n, s.link.line = some (.notice n) ∧ n.kind = k ∧ n.subject = sub

/-- A notice of this kind would be recorded: its kind is in the mask and the set has room (R182, R183). -/
def State.hears (s : State) (k : NoticeKind) : Prop :=
  s.link.mask.getLsbD k.code = true
    ∧ (s.link.notices.countP fun n => n.kind ≠ .device) < Config.noticeEntries

/-- Nothing is being taken or sent on the link but what the coming command brings: no request in progress and no reply
waiting. -/
def State.atRest (s : State) : Prop := s.link.inProgress = none ∧ s.link.buffer = [] ∧ s.link.device = .ready

/-- Command `i` is answered with `a` and, apart from the lines, leaves the state `u`. -/
def Performs (i : Instr) (s : State) (a : Answer) (u : State) : Prop :=
  ∃ t, exec i s = .next t ∧ Answered i s t a ∧ t.offLine = u.offLine

/-- Command `i` answers a next state for which `P` holds. -/
def Leaves (i : Instr) (s : State) (P : State → Prop) : Prop := ∃ t, exec i s = .next t ∧ P t

/-- Command `i` brings a state for which `P` holds, and the next state is what follows at once from it (R165): lost entries
settled, drained sessions completed, readers run on, the port granted, the lines served. -/
def Moves (i : Instr) (s : State) (P : State → Prop) : Prop := ∃ v, exec i s = .next (State.settleAll s v) ∧ P v

/-- The session number after another (R23). -/
def succNumber (n : Nat) : Nat := if n = 65535 then 1 else n + 1

/-- A command resets the part: PIN_RESET, or the REPLY_SENT that ends a RESET FULL (R187). -/
def Resets (i : Instr) (s : State) : Prop :=
  (∃ m1 m0 l1 l0, i = .pinReset m1 m0 l1 l0) ∨ (i = .replySent ∧ s.link.fullReset = true)

/-! ### What follows at once keeps -/

/-- The parts of a state that nothing which follows at once from a command ever changes: the queue, the settings, the
receiver, the request in progress and the counters that only commands move. -/
structure Steady where
  pending : List Instr
  device : DeviceState
  receive : ReceiveState
  messageTimer : Option Nat
  errorCount : Nat
  lastCause : Option LinkCause
  buffer : List Request
  inProgress : Option InProgress
  mask : BitVec 16
  rate : Nat
  resetCause : ResetCause
  fullReset : Bool
  lastSession : Nat
  blocks : Nat
  lowMark : Nat
  refreshTimer : Nat
  refreshDue : Nat
  channelConfig : List ChannelConfig
  input : List InputCondition
  detector : List Detector
  assembler : List (List Sample)
  stationConfig : List StationConfig
  stationLink : List LinkState
  model : List (Option Byte)
  pedals : List (List Pedal)
  threshold : List Nat
  nextSerial : List Nat
deriving DecidableEq, Repr

/-- The steady part of a state. -/
def State.steady (s : State) : Steady where
  pending := s.pending
  device := s.link.device
  receive := s.link.receive
  messageTimer := s.link.messageTimer
  errorCount := s.link.errorCount
  lastCause := s.link.lastCause
  buffer := s.link.buffer
  inProgress := s.link.inProgress
  mask := s.link.mask
  rate := s.link.rate
  resetCause := s.link.resetCause
  fullReset := s.link.fullReset
  lastSession := s.lastSession
  blocks := s.store.blocks
  lowMark := s.store.lowMark
  refreshTimer := s.arbiter.refreshTimer
  refreshDue := s.arbiter.refreshDue
  channelConfig := allChannels.map fun c => (s.channels.get c).config
  input := allChannels.map fun c => (s.channels.get c).input
  detector := allChannels.map fun c => (s.channels.get c).detector
  assembler := allChannels.map fun c => (s.channels.get c).assembler
  stationConfig := allStations.map fun n => (s.stations.get n).config
  stationLink := allStations.map fun n => (s.stations.get n).link
  model := allStations.map fun n => (s.stations.get n).model
  pedals := allStations.map fun n => (s.stations.get n).pedals
  threshold := allChannels.map fun c => (s.readback.get c).threshold
  nextSerial := allChannels.map fun c => (s.readback.get c).nextSerial

/-! ### Invariants -/

/-- The blocks of all chains. -/
def Store.chained (st : Store) : List Nat := st.chains.flatMap fun k => k.blocks.map (·.block)

/-- Every block is on the free list or in exactly one chain, and together they are the blocks the straps give (R32, R33). -/
def Store.partitioned (st : Store) : Prop := (st.free ++ st.chained).Perm (List.range st.blocks)

/-- The audio store and the session table agree: the SDRAM in canonical form, the blocks partitioned, one chain for each
session entry, at most 16 entries of distinct numbers (R23, R31 to R33). -/
def State.StoreInv (s : State) : Prop :=
  Memory.wf s.store.mem = true ∧ s.store.partitioned ∧ s.store.chains.map (·.owner) = s.sessions.map (·.number)
    ∧ (s.sessions.map (·.number)).Nodup ∧ s.sessions.length ≤ Config.sessionEntries

/-- A station holds the take: it is ASSIGNED or IN_WORK (R104). -/
def Take.inList (t : Take) : Prop := t.dispatch = .assigned ∨ t.dispatch = .inWork

/-- Sessions and takes carry distinct names, and every take belongs to a session in the table and is numbered within that
session's take count (R23, R46, R47). -/
def State.takesNamed (s : State) : Prop :=
  (s.sessions.map (·.number)).Nodup ∧ s.sessions.length ≤ Config.sessionEntries ∧ (s.takes.map Take.ref).Nodup
    ∧ ∀ t ∈ s.takes, ∃ x ∈ s.sessions, x.number = t.session ∧ t.number ≤ x.takeCount

/-- The dispatch queue holds exactly the QUEUED takes, once each, in class order (R104). -/
def State.queueHolds (s : State) : Prop :=
  s.queue.Nodup ∧ (∀ r ∈ s.queue, ∃ t ∈ s.takes, t.ref = r ∧ t.dispatch = .queued)
    ∧ (∀ t ∈ s.takes, t.dispatch = .queued → t.ref ∈ s.queue)
    ∧ s.queue.Pairwise fun a b => s.classOf a ≤ s.classOf b

/-- The station lists hold exactly the ASSIGNED and IN_WORK takes, once each, each in the list of the station it names, and no
other take names a station (R104, R105, R115). -/
def State.listsHold (s : State) : Prop :=
  (∀ n, (s.stations.get n).takes.Nodup
      ∧ (∀ r ∈ (s.stations.get n).takes, ∃ t ∈ s.takes, t.ref = r ∧ t.inList ∧ t.station = some n)
      ∧ ∀ t ∈ s.takes, t.inList → t.station = some n → t.ref ∈ (s.stations.get n).takes)
    ∧ ∀ t ∈ s.takes, t.inList ↔ t.station ≠ none

/-- Dispatch and the take table agree (R104). -/
def State.DispatchInv (s : State) : Prop := s.takesNamed ∧ s.queueHolds ∧ s.listsHold

/-- The counters stay within the widths the manual gives them (R126, R152, R158, R169, R177, R178, R182). -/
def State.CountersInv (s : State) : Prop :=
  s.link.errorCount ≤ 65535 ∧ s.link.dropped ≤ 65535 ∧ s.link.buffer.length ≤ Config.receiveBuffer
    ∧ s.arbiter.refreshDue ≤ 15
    ∧ (∀ n, (s.stations.get n).badPackets ≤ 65535 ∧ (s.stations.get n).underruns ≤ 65535)
    ∧ ∀ c, (s.readback.get c).underruns ≤ 65535 ∧ (s.readback.get c).nextSerial < 256

end Sys2Proof.Machine
end

