-- ==== Sys2Proof/Certificates/Slice0/Obligations.lean ====
section
/-! DEFINITION. The statements for the provers.  Each docstring names the rules it formalises; a request command is `Taken` when
the part is READY and the link is free for it (R179), and `offLine` compares states apart from what sending alone moves. -/

open Sys2Proof Sys2Proof.Machine

/-! ### The machine as a whole -/

/-- A step takes the command at the front of the queue and runs it with the queue's rest (model: notes/assumptions/6.md). -/
def Obligations.StepRunsFrontCommand : Prop :=
  ∀ (c : Instr) (rest : List Instr) (s : State), s.pending = c :: rest → step s = exec c { s with pending := rest }

/-- With no command waiting a step lets one millisecond pass: the running timers advance, each held at the value its event falls
due at, and nothing else moves.  The model's choice (notes/assumptions/1.md). -/
def Obligations.EmptyQueuePassesAMillisecond : Prop :=
  ∀ s : State, s.pending = [] → ∃ t, step s = .next t
    ∧ (∀ c, t.channels.get c =
        { s.channels.get c with
          inputLossTimer := min 48 ((s.channels.get c).inputLossTimer + 1)
          lostTick := (s.channels.get c).lostTick.map fun k => min 16 (k + 1) })
    ∧ (∀ n, t.stations.get n =
        { s.stations.get n with
          silenceTimer := (s.stations.get n).silenceTimer.map fun k => min 1000 (k + 1)
          reclaimTimer := (s.stations.get n).reclaimTimer.map fun k => min 600000 (k + 1)
          frameTimer := (s.stations.get n).frameTimer.map fun k => min 16 (k + 1)
          stateTimer := (s.stations.get n).stateTimer.map fun k => min 1000 (k + 1) })
    ∧ t.link = { s.link with messageTimer := s.link.messageTimer.map fun k => min 20 (k + 1) }
    ∧ t.arbiter = { s.arbiter with refreshTimer := min 1 (s.arbiter.refreshTimer + 1) }
    ∧ t = { s with channels := t.channels, stations := t.stations, link := t.link, arbiter := t.arbiter }

/-- No command touches the queue of waiting commands. -/
def Obligations.CommandsKeepTheQueue : Prop :=
  ∀ (c : Instr) (s t : State), exec c s = .next t → t.pending = s.pending

/-- No command is refused, and only the ends of frame transfers can stop the part: the model's faults for a slot outside the
store (R31) and for contents the spec does not give (R45), its choice by notes/assumptions/7.md. -/
def Obligations.OnlyTransferEndsCanStop : Prop :=
  ∀ (c : Instr) (s : State), (∀ r, exec c s ≠ .refused r)
    ∧ ∀ f, exec c s = .fault f →
      (c = .captureTransferEnd ∧ f = .outsideStore) ∨ c = .stationReaderTransferEnd ∨ c = .readbackReaderTransferEnd
        ∨ c = .exportReaderTransferEnd

/-- The audio store and the session table agree after every step from a state in which they agree: the SDRAM in canonical form,
every block on the free list or in exactly one chain (R32), one chain for each session, at most 16 sessions of distinct
numbers (R23). -/
def Obligations.StoreInvariantKept : Prop :=
  ∀ s t : State, s.StoreInv → step s = .next t → t.StoreInv

/-- The store invariant and the dispatch invariant hold at reset, with the straps and the empty memory the model chose
(notes/assumptions/5.md, 7.md). -/
def Obligations.StoreInvariantAtReset : Prop := State.reset.StoreInv ∧ State.reset.DispatchInv

/-- After every step from a state in which they do, the dispatch queue holds exactly the QUEUED takes, once each and in class order,
and the station lists exactly the ASSIGNED and IN_WORK takes, each in the list of the station it names (R104, with R46 and
R115). -/
def Obligations.DispatchInvariantKept : Prop :=
  ∀ s t : State, s.DispatchInv → step s = .next t → t.DispatchInv

/-- The counters stay within the ranges the manual gives them, from step to step. -/
def Obligations.CountersStayInRange : Prop :=
  ∀ s t : State, s.CountersInv → step s = .next t → t.CountersInv

/-- What follows at once from a command changes no setting, no input, no timer of the link and no request. -/
def Obligations.SettlingKeepsTheSteadyPart : Prop := ∀ s : State, s.settle.steady = s.steady

/-- Configurations change only by the requests that set them, and by a reset (R19, R37, R148, R160, R183, R186). -/
def Obligations.ConfigurationsChangeByRequestOnly : Prop :=
  ∀ (i : Instr) (s t : State), exec i s = .next t → ¬ Resets i s →
    ((¬ ∃ tag r, i = .configureChannel tag r) → ∀ c, (t.channels.get c).config = (s.channels.get c).config)
    ∧ ((¬ ∃ tag r, i = .configureStation tag r) → ∀ n, (t.stations.get n).config = (s.stations.get n).config)
    ∧ ((¬ ∃ tag c k, i = .configureReadback tag c k) → ∀ c, (t.readback.get c).threshold = (s.readback.get c).threshold)
    ∧ ((¬ ∃ tag m, i = .configureStore tag m) → t.store.lowMark = s.store.lowMark)
    ∧ ((¬ ∃ tag m, i = .setNoticeMask tag m) → (¬ ∃ tag, i = .resetLink tag 0) → t.link.mask = s.link.mask)
    ∧ t.store.blocks = s.store.blocks ∧ t.link.rate = s.link.rate

/-! ### Messages, requests and packets -/

/-- Every request that is well formed is read back from its own bytes: the layouts of R197 drop no field. -/
def Obligations.RequestsReadBack : Prop :=
  ∀ (i : Instr) (r : Request), i.wf = true → i.request = some r →
    (∀ tag kind body, i = .requestUnknownKind tag kind body → requestLength kind = none) → answeringInstr r = some i

/-- A message framed as R176 and R193 give, with the check of R177, is received as the request it carries. -/
def Obligations.FramedMessagesAreReceived : Prop :=
  ∀ (s : State) (kind tag : Byte) (body : List Byte), body.length ≤ 1024 →
    s.receiveMessage (messageBytes kind tag body).tail = (s.modLink Link.hunt).receiveRequest ⟨kind.toNat, tag, body⟩

/-- The upstream packets of R201 are read as R202 gives: an ALIVE with its model, a KEY with its code and action, each with a wrong
check, a key code or action outside the table, an unknown kind.  Bytes before a 0xB5 are no packet, and a packet is being received
from its 0xB5 until the length its kind fixes (R126; that an event carries the received bytes: notes/assumptions/55.md). -/
def Obligations.StationPacketsAreRead : Prop :=
  ∀ n : StationId,
    (∀ model, decodePacket n ([0x12, model] ++ checkBytes [0x12, model]) = some (.alive n model))
    ∧ (∀ code action, decodePacket n ([0x11, code, action] ++ checkBytes [0x11, code, action]) =
        some (decodeKey n code action))
    ∧ (∀ press : Bool, let a : Byte := if press then 1 else 0
        decodeKey n 0x01 a = .playPedal n press ∧ decodeKey n 0x02 a = .fwdPedal n press
        ∧ decodeKey n 0x03 a = .backPedal n press ∧ decodeKey n 0x10 a = .doneKey n press
        ∧ decodeKey n 0x11 a = .returnKey n press ∧ decodeKey n 0x12 a = .readyKey n press
        ∧ decodeKey n 0x13 a = .noteKey n press
        ∧ ∀ code : Byte, code ∉ [0x01, 0x02, 0x03, 0x10, 0x11, 0x12, 0x13] → decodeKey n code a = .keyUnknown n code a)
    ∧ (∀ code action, 1 < action.toNat → decodeKey n code action = .keyUnknown n code action)
    ∧ (∀ code action c0 c1, [c0, c1] ≠ checkBytes [0x11, code, action] →
        decodePacket n [0x11, code, action, c0, c1]
          = some (.stationPacketInvalid ⟨n, [0xB5, 0x11, code, action, c0, c1]⟩ false))
    ∧ (∀ model c0 c1, [c0, c1] ≠ checkBytes [0x12, model] →
        decodePacket n [0x12, model, c0, c1] = some (.stationPacketInvalid ⟨n, [0xB5, 0x12, model, c0, c1]⟩ false))
    ∧ (∀ kind, kind ≠ 0x11 → kind ≠ 0x12 → decodePacket n [kind] = some (.stationPacketInvalid ⟨n, [0xB5, kind]⟩ false)
        ∧ ∀ b rest, decodePacket n (kind :: b :: rest) = none)
    ∧ ∀ noise : List Byte, (∀ b ∈ noise, b ≠ 0xB5) → receivingPacket noise = false ∧ receivedBad noise = false
        ∧ ∀ packet : List Byte,
          (receivingPacket (noise ++ 0xB5 :: packet) = true ↔ packet = [] ∨ ∃ kind rest, packet = kind :: rest
            ∧ ((kind = 0x11 ∧ rest.length < 4) ∨ (kind = 0x12 ∧ rest.length < 3)))
          ∧ (receivedBad (noise ++ 0xB5 :: packet) = true ↔
            decodePacket n packet = some (.stationPacketInvalid ⟨n, 0xB5 :: packet⟩ false))

/-! ### Resets and the control link -/

/-- PIN_RESET samples the straps and gives every channel and keypad its reset values (R22, R89, with the defaults of R19), the
session table and the store theirs (R45); the SDRAM keeps its contents.  What the output carries before its first frame time is the
model's choice (notes/assumptions/29.md). -/
def Obligations.PinResetOfCapture : Prop :=
  ∀ (m1 m0 l1 l0 : Bool) (s : State), Leaves (.pinReset m1 m0 l1 l0) s fun t =>
    (∀ c, t.channels.get c =
      { phase := .off, session := none, startMode := none, assembler := [], arrivedHead := none, lastFrame := none,
        input := .live, inputLossTimer := 0, lostTick := none,
        detector := { floor := 256, phase := .quiet, voicedRun := 0, quietRun := 0, lastLevel := none },
        ring := [], fifo := [], levelCounter := 0,
        config :=
          { ratio := 24, minimum := 64, onsetRun := 2, hangRun := 12, startMode := .immediate, outputMode := .echo,
            polarity := .all .activeLow, enable := .all true, speakers := 4, offPlay := .none, offReadback := false,
            offExport := true, levelPeriod := 0,
            plan := { nominal := 37500, grace := 3750, pause := 30, softOverlap := 62, hardOverlap := 188 } },
        keypad := { keys := .all ⟨false, 0⟩, speaker := 1, offRecord := none },
        echo := none, output := .echo, outputFrame := none })
    ∧ t.sessions = [] ∧ t.lastSession = 0
    ∧ t.store.blocks = (match m1, m0 with
        | false, false => 2048 | false, true => 4096 | true, false => 8192 | true, true => 16384)
    ∧ t.store.free = List.range t.store.blocks ∧ t.store.chains = [] ∧ t.store.lowMark = 256
    ∧ t.store.condition = .normal ∧ t.store.mem = s.store.mem ∧ t.pending = s.pending

/-- PIN_RESET gives takes, marks, ranges, dispatch, stations, read-back, arbiter and link their reset values (R73, R125, R151,
R164, R174, R187), the link rate as the straps select (R175). -/
def Obligations.PinResetOfTheRest : Prop :=
  ∀ (m1 m0 l1 l0 : Bool) (s : State), Leaves (.pinReset m1 m0 l1 l0) s fun t =>
    t.takes = [] ∧ t.marks = [] ∧ t.ranges = [] ∧ t.queue = [] ∧ t.rotation = 7
    ∧ (∀ n, let st := t.stations.get n
        st.config =
          { enable := true, channelSet := 0xF, classSet := 0x7, depth := 2, cleared := false, startAtCore := false,
            backspace := 94, scanPlay := 4, scanStride := 16, grace := 60, text := List.replicate 20 0x20 }
        ∧ st.link = .absent ∧ st.silenceTimer = none ∧ st.reclaimTimer = none ∧ st.frameTimer = none ∧ st.model = none
        ∧ st.accepting = false ∧ st.takes = [] ∧ st.pedals = [] ∧ st.transport = .stopped ∧ st.parked = false
        ∧ st.stoppedByPart = false ∧ st.cursor = none ∧ st.fetch = none ∧ st.cursorPlayed = false
        ∧ st.backspaceDue = false ∧ st.fifo = [] ∧ st.status = .none ∧ st.skipFlag = false ∧ st.underruns = 0
        ∧ st.badPackets = 0)
    ∧ (∀ c, let u := t.readback.get c
        u.current = none ∧ u.pending = [] ∧ u.nextSerial = 0 ∧ u.fifo = [] ∧ u.threshold = 0 ∧ u.underruns = 0)
    ∧ t.arbiter = { grant := none, refreshTimer := 0, refreshDue := 0, stationPointer := 7 }
    ∧ t.link =
      { device := .starting, receive := .hunting, messageTimer := none, errorCount := 0, lastCause := none, buffer := [],
        inProgress := none, replies := [], line := none, notices := [], dropped := 0, mask := 0x0FDF,
        rate := (match l1, l0 with | false, false => 1 | false, true => 2 | true, false => 4 | true, true => 6),
        resetCause := .pin, fullReset := false }
    ∧ t.exporter.phase = .idle ∧ t.exporter.fifo = [] ∧ t.exporter.resume = none

/-- STARTUP_COMPLETE makes the part READY, records the STARTED notice when DEVICE notices are heard, and begins or leaves due
the first STATE packet of each port (R184, R151).  How the STARTED notice is laid out (notes/assumptions/13.md), and that in READY
the event cannot occur and changes nothing (notes/assumptions/2.md), are the model's choices. -/
def Obligations.StartupCompletes : Prop :=
  ∀ s : State,
    (s.link.device = .starting → Leaves .startupComplete s fun t =>
      t.offLine = { s with link := { s.link with device := .ready } }.offLine
      ∧ (s.link.mask.getLsbD 0 = true → ∃ e, (e ∈ t.link.notices ∨ t.link.line = some (.notice e)) ∧ e.kind = .device
        ∧ e.subject = .whole ∧ e.contents = u8 0 ++ u8 (match s.link.resetCause with | .pin => 0 | .full => 1)
          ++ u16 s.store.blocks ++ u8 s.link.rate ++ [Config.revision] ++ u16 0)
      ∧ ∀ n, (t.stations.get n).stateDue = true
        ∨ ((s.stations.get n).line = none ∧ ∃ body skip, (t.stations.get n).line = some (.state body skip)))
    ∧ (s.link.device = .ready → exec .startupComplete s = .next s)

/-- A received request joins the receive buffer while another is in progress; on an idle link it is taken at once, and the link
itself answers STARTING or BAD_LENGTH; finding the buffer full it is answered BUSY while fewer than 8 BUSY replies wait, and is
discarded with OVERRUN otherwise (R178, R179, R184).  That the 8 waiting BUSY replies are those behind the reply on the line, and
that a whole message may come to a HUNTING receiver, are the model's choices (notes/assumptions/15.md, 28.md). -/
def Obligations.MessagesAreTakenOrAnsweredBusy : Prop :=
  ∀ (s : State) (kind tag : Byte) (body : List Byte), body.length ≤ 1024 →
    let i : Instr := .messageReceived (messageBytes kind tag body).tail
    let r : Request := ⟨kind.toNat, tag, body⟩
    let hunting : Link := { s.link with receive := .hunting, messageTimer := none }
    let busy : Reply := ⟨replyKind r.kind, tag, [0x03], true⟩
    (s.link.inProgress ≠ none → s.link.buffer.length < 4 → Leaves i s fun t =>
      t.link.inProgress = s.link.inProgress
      ∧ t.offLine = { s with link := { hunting with buffer := s.link.buffer ++ [r] } }.offLine)
    ∧ (s.link.inProgress = none → s.link.buffer = [] → Leaves i s fun t =>
      t.offLine = { s with link := hunting }.offLine
      ∧ t.link.inProgress = some ⟨r,
        if s.link.device = .starting ∧ r.kind ≠ 1 then some (makeReply r ⟨.starting, []⟩)
        else if requestLength r.kind ≠ none ∧ requestLength r.kind ≠ some body.length then
          some (makeReply r ⟨.badLength, []⟩)
        else none⟩)
    ∧ (4 ≤ s.link.buffer.length → (s.link.replies.countP fun p => p.busy) < 8 → Leaves i s fun t =>
      t.offLine = { s with link := hunting }.offLine ∧ t.link.inProgress = s.link.inProgress
      ∧ (busy ∈ t.link.replies ∨ t.link.line = some (.reply busy)))
    ∧ (4 ≤ s.link.buffer.length → 8 ≤ (s.link.replies.countP fun p => p.busy) → Leaves i s fun t =>
      t.link.inProgress = s.link.inProgress ∧ (s.hears .linkError → t.told .linkError .whole)
      ∧ t.offLine = { s with link :=
          { hunting with errorCount := min 65535 (s.link.errorCount + 1), lastCause := some .overrun } }.offLine)

/-- Every discard raises the link error count, held at 65535, sets the last error cause, leaves the receiver HUNTING and raises
a LINK_ERROR notice: a bad length, a timeout, a byte with a low stop bit, a wrong check.  START_BYTE makes a HUNTING receiver
RECEIVING and starts the message timer (R175 to R177).  That a timeout cannot occur while HUNTING and changes nothing, and that a
bad length or a whole message may come to a HUNTING receiver, are the model's choices (notes/assumptions/2.md, 28.md). -/
def Obligations.ReceiverCollectsAndDiscards : Prop :=
  ∀ s : State,
    let discarded (i : Instr) (cause : LinkCause) : Prop := Leaves i s fun t =>
      t.link.inProgress = s.link.inProgress
      ∧ t.offLine = { s with link := { s.link with
          receive := .hunting, messageTimer := none, errorCount := min 65535 (s.link.errorCount + 1)
          lastCause := some cause } }.offLine
      ∧ (s.hears .linkError → t.told .linkError .whole)
    (∀ len, len < 2 ∨ 1026 < len → discarded (.messageBadLength len) .badLength)
    ∧ (s.link.receive = .hunting →
      exec .startByte s = .next { s with link := { s.link with receive := .receiving, messageTimer := some 0 } }
      ∧ exec .invalidByte s = .next s ∧ exec .messageTimeout s = .next s)
    ∧ (s.link.receive = .receiving → exec .startByte s = .next s)
    ∧ (s.link.receive = .receiving → discarded .messageTimeout .timeout ∧ discarded .invalidByte .badCheck)
    ∧ ∀ (kind tag : Byte) (body : List Byte) (c0 c1 : Byte), body.length ≤ 1024 →
      [c0, c1] ≠ checkBytes (u16 (body.length + 2) ++ [kind, tag] ++ body) →
      discarded (.messageReceived (u16 (body.length + 2) ++ [kind, tag] ++ body ++ [c0, c1])) .badCheck

/-- A request of unknown KIND is answered UNKNOWN_KIND, under KIND 0x80 with its TAG and the KIND received (R179, R194,
R199). -/
def Obligations.UnknownKindIsRefused : Prop :=
  ∀ (s : State) (tag : Byte) (kind : Nat) (body : List Byte),
    let i : Instr := .requestUnknownKind tag kind body
    Taken i s → kind < 256 → requestLength kind = none → Leaves i s fun t =>
      t.link.inProgress = some ⟨⟨kind, tag, body⟩, some ⟨0x80, tag, [0x04, BitVec.ofNat 8 kind], false⟩⟩
      ∧ t.offLine = s.offLine

/-- While the part is STARTING every request but IDENTIFY that is performed is answered STARTING and has no effect (R184). -/
def Obligations.StartingRefusesRequests : Prop :=
  ∀ (i : Instr) (r : Request) (s : State), i.request = some r → (s.requestOr r).kind ≠ 1 → s.admits i = true →
    s.link.device = .starting → (∀ tag kind body, i = .requestUnknownKind tag kind body → requestLength kind = none) →
    ∃ v t, exec i s = .next t ∧ (t = State.finish s v ∨ t = State.settleAll s v)
      ∧ v.link.inProgress = some ⟨s.requestOr r, some (makeReply (s.requestOr r) ⟨.starting, []⟩)⟩
      ∧ v.offLine = s.offLine

/-- RESET with scope LINK returns the link to its state after reset and ends a running export without FETCH_END; every other
block goes on.  A scope that names neither LINK nor FULL is refused NOT_PERMITTED (R186). -/
def Obligations.ResetLinkRestoresTheLink : Prop :=
  ∀ (s : State) (tag : Byte),
    (Taken (.resetLink tag 0) s → Leaves (.resetLink tag 0) s fun t =>
      Answered (.resetLink tag 0) s t ⟨.ok, []⟩
      ∧ t.link.buffer = [] ∧ t.link.mask = 0x0FDF ∧ t.link.errorCount = 0 ∧ t.link.lastCause = none
      ∧ t.link.receive = s.link.receive ∧ t.link.messageTimer = s.link.messageTimer
      ∧ (∀ n ∈ t.link.notices, n.kind = .store) ∧ (∀ p ∈ t.link.replies, p.busy = false)
      ∧ t.exporter.phase = .idle ∧ (s.exporter.phase ≠ .idle → t.exporter.fifo = []) ∧ t.exporter.resume = none
      ∧ t.channels = s.channels ∧ t.takes = s.takes ∧ t.queue = s.queue ∧ t.rotation = s.rotation
      ∧ t.readback = s.readback ∧ t.lastSession = s.lastSession ∧ t.store.mem = s.store.mem
      ∧ (∀ n, (t.stations.get n).offLine = (s.stations.get n).offLine)
      ∧ (s.exporter.phase = .idle → t.sessions = s.sessions ∧ t.store = s.store ∧ t.marks = s.marks
          ∧ t.ranges = s.ranges ∧ t.arbiter = s.arbiter))
    ∧ ∀ scope, scope ≠ 0 → scope ≠ 1 → Taken (.resetLink tag scope) s →
        Performs (.resetLink tag scope) s ⟨.notPermitted, []⟩ s

/-- RESET with scope FULL is answered OK, and nothing but the promise of the reset changes until the reply has been sent in full
(R187). -/
def Obligations.ResetFullIsAnsweredFirst : Prop :=
  ∀ (s : State) (tag : Byte), Taken (.resetFull tag) s →
    Performs (.resetFull tag) s ⟨.ok, []⟩ { s with link := { s.link with fullReset := true } }

/-- REPLY_SENT frees the line.  A BUSY reply ends no request; any other ends the request in progress, and the next buffered one
is taken; after the reply to RESET FULL the part is reset, with the block count, the link rate, the SDRAM and refresh kept
(R178, R179, R187, R174). -/
def Obligations.ReplySentEndsTheRequest : Prop :=
  ∀ (s : State) (r : Reply), s.link.line = some (.reply r) →
    (r.busy = true → Moves .replySent s fun v => v = { s with link := { s.link with line := none } })
    ∧ (r.busy = false → s.link.fullReset = false →
      (s.link.buffer = [] → Moves .replySent s fun v => v = { s with link := { s.link with line := none, inProgress := none } })
      ∧ ∀ q rest, s.link.buffer = q :: rest → Moves .replySent s fun v =>
          v.link.line = none ∧ v.link.buffer = rest ∧ v.offLine = { s with link := { s.link with buffer := rest } }.offLine
          ∧ ∃ p, v.link.inProgress = some ⟨q, p⟩
            ∧ (p = none ↔ (s.link.device = .ready ∨ q.kind = 1)
                ∧ (requestLength q.kind = none ∨ requestLength q.kind = some q.body.length)))
    ∧ (r.busy = false → s.link.fullReset = true → Moves .replySent s fun v =>
        v.link.device = .starting ∧ v.link.resetCause = .full ∧ v.link.mask = 0x0FDF ∧ v.link.rate = s.link.rate
        ∧ v.link.line = none ∧ v.link.notices = [] ∧ v.link.buffer = [] ∧ v.link.inProgress = none
        ∧ v.channels = .all Channel.reset ∧ v.stations = .all Station.reset ∧ v.readback = .all Readback.reset
        ∧ v.sessions = [] ∧ v.takes = [] ∧ v.marks = [] ∧ v.ranges = [] ∧ v.queue = [] ∧ v.lastSession = 0
        ∧ v.store = { blocks := s.store.blocks, free := List.range s.store.blocks, chains := [], lowMark := 256,
                      condition := .normal, mem := s.store.mem }
        ∧ v.arbiter.refreshTimer = s.arbiter.refreshTimer ∧ v.arbiter.refreshDue = s.arbiter.refreshDue
        ∧ v.arbiter.grant = s.arbiter.grant.filter (fun g => g.client = .refresh)
        ∧ v.exporter.phase = .idle ∧ v.pending = s.pending)

/-- SET_NOTICE_MASK replaces the mask as a whole, ignores bits above 11, and removes the pending entries of the kinds it removes;
the reply carries the mask as stored and the entries left, in two bytes each by notes/assumptions/13.md (R183, R196, R198). -/
def Obligations.NoticeMaskIsReplaced : Prop :=
  ∀ (s : State) (tag : Byte) (mask : Nat), Taken (.setNoticeMask tag mask) s →
    let removed (n : Notice) : Bool := s.link.mask.getLsbD n.kind.code && !(mask % 4096).testBit n.kind.code
    Leaves (.setNoticeMask tag mask) s fun t =>
      Answered (.setNoticeMask tag mask) s t
        ⟨if mask % 4096 = mask then .ok else .adjusted,
          u16 (mask % 4096) ++ u16 (s.link.notices.filter fun n => !removed n).length⟩
      ∧ t.offLine = { s with link := { s.link with mask := BitVec.ofNat 16 (mask % 4096) } }.offLine
      ∧ (∀ n ∈ t.link.notices, n ∈ s.link.notices ∧ removed n = false)
      ∧ ∀ n ∈ s.link.notices, removed n = false → n ∈ t.link.notices ∨ t.link.line = some (.notice n)

/-! ### Sessions and the audio store -/

/-- A new session takes the first number after the one issued last that no entry in use holds, counting past 65535 to 1; it is
found within 17 tries, becomes the number issued last, 0 after reset, and is the new session's number (R23). -/
def Obligations.SessionNumbersAreIssuedInTurn : Prop :=
  State.reset.lastSession = 0 ∧ ∀ s : State, s.sessions.length ≤ 16 →
    (s.session? s.issueSession = none
      ∧ ∃ k ≤ 16, s.issueSession = succNumber^[k + 1] s.lastSession
        ∧ ∀ j < k, s.session? (succNumber^[j + 1] s.lastSession) ≠ none)
    ∧ (s.lastSession ≤ 65535 → 1 ≤ s.issueSession ∧ s.issueSession ≤ 65535)
    ∧ ∀ c r, (s.openSession c r).1.lastSession = s.issueSession
      ∧ (s.openSession c r).1.sessions.map (·.number) = s.sessions.map (·.number) ++ [s.issueSession]

/-- OPEN_SESSION on an OFF channel, with an entry and a take record free, opens the session: its record as R24 gives, the channel
bound as R2 gives, an empty chain; nothing else changes (R23, R24, R2, R87).  That the label is stored as given is in
notes/assumptions/12.md. -/
def Obligations.OpenSessionOpens : Prop :=
  ∀ (s : State) (tag : Byte) (r : OpenSessionReq) (c : ChannelId), Taken (.openSession tag r) s → r.channel = c.val →
    (s.channels.get c).phase = .off → s.sessions.length < 16 → s.takesFree ≠ 0 →
    let ch := s.channels.get c
    let mode := match r.startMode with | none => ch.config.startMode | some 0 => .immediate | some _ => .onVoice
    let plan : Plan :=
      { nominal := (r.plan.nominal.map (clamp 625 112500)).getD ch.config.plan.nominal
        grace := (r.plan.grace.map (clamp 0 37500)).getD ch.config.plan.grace
        pause := (r.plan.pause.map (clamp 4 250)).getD ch.config.plan.pause
        softOverlap := (r.plan.softOverlap.map (clamp 0 250)).getD ch.config.plan.softOverlap
        hardOverlap := (r.plan.hardOverlap.map (clamp 0 625)).getD ch.config.plan.hardOverlap }
    Leaves (.openSession tag r) s fun t => ∃ x : Session,
      x.number = s.issueSession ∧ x.channel = c ∧ x.label = r.label ∧ x.plan = plan ∧ x.planInForce = plan
      ∧ x.phase = (match mode with | .immediate => .recording | .onVoice => .armed)
      ∧ x.dispatchMode = (match r.dispatchMode with | none => .onClose | some 0 => .off | some 1 => .onClose | some _ => .live)
      ∧ x.takeClass = (match r.takeClass with | none => .regular | some 0 => .expedite | some 1 => .daily | some _ => .regular)
      ∧ x.stationChoice = (match r.stationChoice with | none => .rotate | some 0 => .rotate | some _ => .follow)
      ∧ x.firstStored = none ∧ x.arrivedHead = none ∧ x.storedHead = none ∧ x.lastFrame = none ∧ x.trimPoint = none
      ∧ x.takeCount = 0 ∧ x.openTake = none ∧ x.closeReason = none ∧ x.lostInput = 0 ∧ x.lostFull = 0 ∧ x.lostBusy = 0
      ∧ x.gapRun = none ∧ x.forcedPending = false ∧ x.extensionReported = false ∧ x.reserved = true
      ∧ x.markIssued = 0 ∧ x.rangeIssued = 0
      ∧ (∃ a, Answered (.openSession tag r) s t a ∧ (a.status = .ok ∨ a.status = .adjusted))
      ∧ t.offLine = { s with
          sessions := s.sessions ++ [x]
          lastSession := x.number
          store := { s.store with chains := s.store.chains ++ [Chain.mk x.number []] }
          channels := s.channels.set c { ch with
            phase := (match mode with | .immediate => .recording | .onVoice => .armed)
            session := some x.number, startMode := some mode, arrivedHead := none, lastFrame := none
            detector := { floor := 256, phase := .quiet, voicedRun := 0, quietRun := 0, lastLevel := none }
            ring := [], fifo := [], levelCounter := 0, keypad := { ch.keypad with speaker := 1 } } }.offLine

/-- CLOSE_SESSION in RECORDING sets the last frame at the arrived head, brings marks and ranges within it, and leaves the channel
and the session CLOSING; no take, block or byte changes (R3, R26, R80, R100). -/
def Obligations.CloseSessionStopsTakingFrames : Prop :=
  ∀ (s : State) (tag : Byte) (n : Nat) (x : Session), Taken (.closeSession tag n) s → s.session? n = some x →
    x.phase = .recording → Moves (.closeSession tag n) s fun v =>
      Answered (.closeSession tag n) s v ⟨.ok, u16 n ++ u8 2 ++ opt32 x.arrivedHead⟩
      ∧ (v.channels.get x.channel).phase = .closing ∧ (v.channels.get x.channel).lastFrame = x.arrivedHead
      ∧ (v.channels.get x.channel).assembler = []
      ∧ (v.channels.get x.channel).fifo = (s.channels.get x.channel).fifo
      ∧ (∃ y, v.session? n = some y ∧ y =
          { x with phase := .closing, closeReason := some .request, lastFrame := x.arrivedHead })
      ∧ (∀ e, x.arrivedHead = some e →
          (∀ m ∈ v.marks, m.session = n → m.frame ≤ e)
          ∧ ∀ g ∈ v.ranges, g.session = n → g.start ≤ e ∧ ∀ f, g.stop = some f → f ≤ e)
      ∧ (∀ m ∈ s.marks, m.session ≠ n → m ∈ v.marks) ∧ (∀ g ∈ s.ranges, g.session ≠ n → g ∈ v.ranges)
      ∧ (∀ c, c ≠ x.channel → v.channels.get c = s.channels.get c)
      ∧ v.takes = s.takes ∧ v.store = s.store ∧ v.queue = s.queue ∧ v.readback = s.readback

/-- CLOSE_SESSION frees an ARMED session at once; unknown sessions are refused NO_SUCH, CLOSING and CLOSED ones WRONG_STATE
(R3, R26, R29).  That the reply of an ARMED session's close has its last frame absent is read by inference
(notes/assumptions/38.md). -/
def Obligations.CloseSessionFreesAnArmedSession : Prop :=
  ∀ (s : State) (tag : Byte) (n : Nat), Taken (.closeSession tag n) s →
    (∀ x, s.session? n = some x → x.phase = .armed → (∀ t ∈ s.takes, t.session ≠ n) →
      Moves (.closeSession tag n) s fun v =>
        Answered (.closeSession tag n) s v ⟨.ok, u16 n ++ u8 3 ++ opt32 none⟩
        ∧ v.session? n = none ∧ (v.channels.get x.channel).phase = .off ∧ (v.channels.get x.channel).session = none
        ∧ (v.channels.get x.channel).ring = [] ∧ (v.channels.get x.channel).fifo = []
        ∧ v.store.mem = s.store.mem)
    ∧ (s.session? n = none → Moves (.closeSession tag n) s fun v =>
        Answered (.closeSession tag n) s v ⟨.noSuch, []⟩ ∧ v.offLine = s.offLine)
    ∧ (∀ x, s.session? n = some x → x.phase = .closing ∨ x.phase = .closed → Moves (.closeSession tag n) s fun v =>
        Answered (.closeSession tag n) s v ⟨.wrongState, []⟩ ∧ v.offLine = s.offLine)

/-- CONFIGURE_STORE stores the low mark, clamped to 4096 with status ADJUSTED, and checks the condition at once; a change of it
raises a STORE notice (R37 with R36). -/
def Obligations.ConfigureStoreSetsTheLowMark : Prop :=
  ∀ (s : State) (tag : Byte) (mark : Nat), Taken (.configureStore tag mark) s →
    let m := min 4096 mark
    let condition : StoreCondition :=
      if s.store.free.length = 0 then .exhausted else if s.store.free.length ≤ m then .low else .normal
    Leaves (.configureStore tag mark) s fun t =>
      Answered (.configureStore tag mark) s t
        ⟨if 4096 < mark then .adjusted else .ok, u16 m ++ u16 s.store.free.length ++ u8 condition.code⟩
      ∧ t.offLine = { s with store := { s.store with lowMark := m, condition := condition } }.offLine
      ∧ (condition ≠ s.store.condition → s.hears .store → t.told .store .whole)

/-- The category of a frame by the five tests of R40, in order. -/
def Obligations.CategoriesFollowTheFiveTests : Prop :=
  ∀ (s : State) (x : Session) (f : Nat),
    let unstored := x.firstStored = none ∨ ∃ a, x.firstStored = some a ∧ f < a
    let trimmed := ∃ p, x.trimPoint = some p ∧ f < p
    let notYet := x.storedHead = none ∨ ∃ h, x.storedHead = some h ∧ h < f
    let present := ∃ b ∈ s.store.chain x.number, b.first ≤ f ∧ f < b.first + b.held
    (unstored → s.category x f = .unstored)
    ∧ (¬ unstored → trimmed → s.category x f = .trimmed)
    ∧ (¬ unstored → ¬ trimmed → notYet → s.category x f = .notYet)
    ∧ (¬ unstored → ¬ trimmed → ¬ notYet → present → s.category x f = .present
        ∧ ∃ b ∈ s.store.chain x.number, b.first ≤ f ∧ f < b.first + b.held
          ∧ s.store.place? x.number f = some (b.block, f - b.first))
    ∧ (¬ unstored → ¬ trimmed → ¬ notYet → ¬ present → s.category x f = .lost)

/-- A frame is kept at byte offset block times 32,768 plus slot times 512, each sample low byte first: written there it reads
back, and every byte outside those 512 stays (R31). -/
def Obligations.FramesAreStoredInTheirSlots : Prop :=
  ∀ (st : Store) (block slot : Nat) (samples : List Sample), samples.length = 256 →
    (st.writeFrame block slot samples).readFrame block slot = some samples
    ∧ (∀ i (h : i < samples.length),
        readByte (st.writeFrame block slot samples).mem (block * 32768 + slot * 512 + 2 * i)
          = some (samples[i].setWidth 8)
        ∧ readByte (st.writeFrame block slot samples).mem (block * 32768 + slot * 512 + 2 * i + 1)
          = some ((samples[i] >>> 8).setWidth 8))
    ∧ ∀ a, a < block * 32768 + slot * 512 ∨ block * 32768 + slot * 512 + 512 ≤ a →
        readByte (st.writeFrame block slot samples).mem a = readByte st.mem a

/-! ### Capture channels -/

/-- The voice detector on a completed frame: its level, the voiced test on the old floor, the new floor, the runs, held at 65535,
and the switch of its state by at least N_on voiced or H quiet frames; a frame without samples changes neither level nor floor
and counts as unvoiced (R9 to R13). -/
def Obligations.DetectorAnalysesFrames : Prop :=
  ∀ (cfg : ChannelConfig) (d : Detector),
    (∀ samples : List Sample, samples.length = 256 →
      let sum := (samples.map fun x => x.toInt.natAbs).sum
      let level := sum / 256
      let voiced := decide (cfg.ratio * d.floor ≤ 8 * level ∧ cfg.minimum ≤ level)
      let moved := if level < d.floor then d.floor - max 1 ((d.floor - level) / 8)
        else if d.floor < level then d.floor + 1 else d.floor
      let e := d.analyse cfg (some samples)
      sum ≤ 8388608 ∧ level ≤ 32768 ∧ e.lastLevel = some level
      ∧ e.floor = (if moved < 8 then 8 else if 8192 < moved then 8192 else moved)
      ∧ e.voicedRun = (d.runs cfg voiced).voicedRun ∧ e.quietRun = (d.runs cfg voiced).quietRun
      ∧ e.phase = (d.runs cfg voiced).phase)
    ∧ (∀ voiced : Bool, let e := d.runs cfg voiced
      e.voicedRun = (if voiced then min 65535 (d.voicedRun + 1) else 0)
      ∧ e.quietRun = (if voiced then 0 else min 65535 (d.quietRun + 1))
      ∧ e.floor = d.floor ∧ e.lastLevel = d.lastLevel
      ∧ (e.phase = .speech ↔
          (d.phase = .quiet ∧ cfg.onsetRun ≤ e.voicedRun) ∨ (d.phase = .speech ∧ e.quietRun < cfg.hangRun)))
    ∧ d.analyse cfg none = d.runs cfg false

/-- CONFIGURE_CHANNEL replaces the whole configuration, each value clamped to its range, and of the rest of the part changes only
the LEVEL counter, when M changes, and keys that become disabled (R19, R20, R84, R92). -/
def Obligations.ConfigureChannelReplaces : Prop :=
  ∀ (s : State) (tag : Byte) (r : ConfigureChannelReq), Taken (.configureChannel tag r) s →
    (3 < r.channel → Performs (.configureChannel tag r) s ⟨.noSuch, []⟩ s)
    ∧ ∀ c : ChannelId, r.channel = c.val →
      let ch := s.channels.get c
      let play : PlayPermission := match r.offPlay with | 0 => .all | 1 => .cleared | _ => .none
      let polarity (n : Nat) : Polarity := if n = 0 then .activeLow else .activeHigh
      let cfg : ChannelConfig :=
        { ratio := max 12 (min 64 r.ratio), minimum := min 4096 r.minimum, onsetRun := max 1 (min 8 r.onsetRun)
          hangRun := max 4 (min 63 r.hangRun), startMode := if r.startMode = 0 then .immediate else .onVoice
          outputMode := if r.outputMode = 0 then .echo else .quiet
          polarity := ⟨polarity r.polarity.c0, polarity r.polarity.c1, polarity r.polarity.c2, polarity r.polarity.c3⟩
          enable := r.enable, speakers := max 2 (min 31 r.speakers), offPlay := play
          offReadback := r.offReadback && decide (play ≠ .none), offExport := r.offExport
          levelPeriod := min 250 r.levelPeriod
          plan := { nominal := max 625 (min 112500 r.plan.nominal), grace := min 37500 r.plan.grace
                    pause := max 4 (min 250 r.plan.pause), softOverlap := min 250 r.plan.softOverlap
                    hardOverlap := min 625 r.plan.hardOverlap } }
      Leaves (.configureChannel tag r) s fun t =>
        (∃ status, (status = .ok ∨ status = .adjusted)
          ∧ Answered (.configureChannel tag r) s t ⟨status, configBytes cfg⟩)
        ∧ (t.channels.get c).config = cfg
        ∧ (∀ k, (t.channels.get c).keypad.keys.get k =
            if r.enable.get k then ch.keypad.keys.get k else { pressed := false, debounce := 0 })
        ∧ (t.channels.get c).levelCounter = (if cfg.levelPeriod = ch.config.levelPeriod then ch.levelCounter else 0)
        ∧ t.channels.get c = { ch with
            config := (t.channels.get c).config, levelCounter := (t.channels.get c).levelCounter
            keypad := { ch.keypad with keys := (t.channels.get c).keypad.keys } }
        ∧ (∀ d, d ≠ c → t.channels.get d = s.channels.get d)
        ∧ { t with channels := s.channels }.offLine = s.offLine

/-! ### Reports -/

/-- The information requests report and change nothing: IDENTIFY in both device states, and STORE_INFO, SESSION_INFO,
CHANNEL_INFO, TAKE_INFO, LIST_TAKES, DISPATCH_INFO, LIST_MARKS, LIST_RANGES, STATION_INFO and READBACK_INFO (R21, R43, R44, R71,
R72, R82, R103, R124, R150, R163, R185).  Where R196 names no width the report's bytes are the model's choice
(notes/assumptions/13.md, 24.md, 53.md, 59.md). -/
def Obligations.ReportsChangeNothing : Prop :=
  ∀ (s : State) (tag : Byte),
    (s.admits (.identify tag) = true → Performs (.identify tag) s
      ⟨.ok, u16 0x47A1 ++ u16 0x4820 ++ [Config.revision] ++ u8 s.link.device.code ++ u16 s.store.blocks ++ u8 s.link.rate
        ++ [4, 8, 128] ++ u16 2048 ++ [64, 16, 8] ++ u16 s.link.errorCount ++ opt8 (s.link.lastCause.map (·.code))⟩ s)
    ∧ (Taken (.storeInfo tag) s → Performs (.storeInfo tag) s
      ⟨.ok, u16 s.store.blocks ++ u16 s.store.free.length ++ opt16 s.store.free.head? ++ u16 s.store.lowMark
        ++ u8 s.store.condition.code
        ++ listBytes (fun x : Session => u16 x.number ++ u16 (s.store.chain x.number).length) s.orderedSessions⟩ s)
    ∧ (Taken (.sessionInfo tag 0) s → Performs (.sessionInfo tag 0) s ⟨.ok, s.tableReport⟩ s)
    ∧ (∀ n x, n ≠ 0 → s.session? n = some x → Taken (.sessionInfo tag n) s →
        Performs (.sessionInfo tag n) s ⟨.ok, s.sessionReport x⟩ s)
    ∧ (∀ c : ChannelId, Taken (.channelInfo tag c.val) s →
        Performs (.channelInfo tag c.val) s ⟨.ok, channelReport (s.channels.get c)⟩ s)
    ∧ (∀ n m t, s.take? ⟨n, m⟩ = some t → Taken (.takeInfo tag n m) s →
        Performs (.takeInfo tag n m) s ⟨.ok, s.takeReport t⟩ s)
    ∧ (∀ r : ListTakesReq, (r.scope = 0 → r.session ≠ 0 → s.session? r.session ≠ none) → Taken (.listTakes tag r) s →
        Performs (.listTakes tag r) s ⟨adjusted (listTakesChanges r), s.takeListing (s.takesFrom r)⟩ s)
    ∧ (∀ position, Taken (.dispatchInfo tag position) s → Performs (.dispatchInfo tag position) s
        ⟨if position = 0 then .adjusted else .ok, s.dispatchReport (max 1 position)⟩ s)
    ∧ (∀ (r : ListMarksReq) x, s.session? r.session = some x → Taken (.listMarks tag r) s →
        Performs (.listMarks tag r) s
          ⟨adjusted (decide (9 < r.kindFilter ∨ 4 < r.sourceFilter)), s.markListing r.session (s.marksFrom r)⟩ s)
    ∧ (∀ (r : ListRangesReq) x, s.session? r.session = some x → Taken (.listRanges tag r) s →
        Performs (.listRanges tag r) s ⟨adjusted (decide (2 < r.stateFilter)), s.rangeListing x r⟩ s)
    ∧ (∀ n : StationId, Taken (.stationInfo tag n.val) s →
        Performs (.stationInfo tag n.val) s ⟨.ok, s.stationReport n⟩ s)
    ∧ ∀ c : ChannelId, Taken (.readbackInfo tag c.val) s →
        Performs (.readbackInfo tag c.val) s ⟨.ok, readbackReport (s.readback.get c)⟩ s

/-! ### Takes -/

/-- SET_PLAN replaces the fields given, each clamped to its range, in an ARMED or RECORDING session, and nothing else; unknown
sessions are refused NO_SUCH, CLOSING and CLOSED ones WRONG_STATE (R50). -/
def Obligations.SetPlanReplacesTheFieldsGiven : Prop :=
  ∀ (s : State) (tag : Byte) (n : Nat) (p : PlanPatch), Taken (.setPlan tag n p) s →
    (s.session? n = none → Performs (.setPlan tag n p) s ⟨.noSuch, []⟩ s)
    ∧ ∀ x, s.session? n = some x →
      (x.phase = .closing ∨ x.phase = .closed → Performs (.setPlan tag n p) s ⟨.wrongState, []⟩ s)
      ∧ (x.phase = .armed ∨ x.phase = .recording →
        let plan : Plan :=
          { nominal := (p.nominal.map (clamp 625 112500)).getD x.plan.nominal
            grace := (p.grace.map (clamp 0 37500)).getD x.plan.grace
            pause := (p.pause.map (clamp 4 250)).getD x.plan.pause
            softOverlap := (p.softOverlap.map (clamp 0 250)).getD x.plan.softOverlap
            hardOverlap := (p.hardOverlap.map (clamp 0 625)).getD x.plan.hardOverlap }
        let clamped := p.nominal.any (fun k => k < 625 || 112500 < k) || p.grace.any (fun k => 37500 < k)
          || p.pause.any (fun k => k < 4 || 250 < k) || p.softOverlap.any (fun k => 250 < k)
          || p.hardOverlap.any (fun k => 625 < k)
        Performs (.setPlan tag n p) s
          ⟨if clamped then .adjusted else .ok,
            u32 plan.nominal ++ u16 plan.grace ++ u8 plan.pause ++ u8 plan.softOverlap ++ u16 plan.hardOverlap⟩
          { s with sessions := s.sessions.map fun y => if y.number = n then { y with plan := plan } else y })

/-- CUT_NOW on the open take of a RECORDING session: with 32 core frames and a free record a FORCED cut is made now, ending the
take at the arrived head and opening the next one with the lead-in of R58 under the plan in force, that of the last frame that
arrived; with fewer frames it is DEFERRED; while one is pending it is DEFERRED and changes nothing; without a record or a take
number it is refused FULL (R50, R55, R57, R58).  What the plan in force is between a SET_PLAN and the next frame is in
notes/assumptions/37.md. -/
def Obligations.CutNowCutsOrDefers : Prop :=
  ∀ (s : State) (tag : Byte) (n m : Nat) (x : Session) (k : Take), Taken (.cutNow tag n) s → s.session? n = some x →
    x.phase = .recording → x.openTake = some m → s.take? ⟨n, m⟩ = some k →
    let deferred : Answer := ⟨.deferred, u16 m ++ u32 (k.core + 31)⟩
    (x.forcedPending = true → Moves (.cutNow tag n) s fun v =>
      Answered (.cutNow tag n) s v deferred ∧ v.offLine = s.offLine)
    ∧ (x.forcedPending = false → (∀ f, x.arrivedHead = some f → f + 1 - k.core < 32) → Moves (.cutNow tag n) s fun v =>
      Answered (.cutNow tag n) s v deferred
      ∧ v.offLine = (s.setSessions
          (s.sessions.map fun y => if y.number = n then { y with forcedPending := true } else y)).offLine)
    ∧ ∀ f, x.forcedPending = false → x.arrivedHead = some f → 32 ≤ f + 1 - k.core →
      let leadIn := max (max (f + 1 - x.planInForce.hardOverlap) (k.leadIn + 1)) (x.firstStored.getD 0)
      (65535 ≤ x.takeCount ∨ s.takesFree = 0 → Moves (.cutNow tag n) s fun v =>
        Answered (.cutNow tag n) s v ⟨.full, []⟩ ∧ v.offLine = s.offLine)
      ∧ (x.takeCount < 65535 → s.takesFree ≠ 0 → Moves (.cutNow tag n) s fun v =>
        (∃ u ∈ v.takes, u.session = n ∧ u.number = m ∧ u.capture = .closed ∧ u.stop = some f ∧ u.cutKind = some .forced
          ∧ u.leadIn = k.leadIn ∧ u.core = k.core)
        ∧ (∃ u ∈ v.takes, u.session = n ∧ u.number = x.takeCount + 1 ∧ u.capture = .opened ∧ u.stop = none
          ∧ u.core = f + 1 ∧ u.takeClass = x.takeClass ∧ u.leadIn = leadIn)
        ∧ (s.take? ⟨n, x.takeCount + 1⟩ = none →
          Answered (.cutNow tag n) s v ⟨.ok, u16 m ++ u32 f ++ u16 (x.takeCount + 1) ++ u32 leadIn ++ u32 (f + 1)⟩)
        ∧ v.channels = s.channels ∧ v.readback = s.readback)

/-- RELEASE_TAKE of a CLOSED take no station holds frees its record and nothing else of the table; the reply carries the session's
trim point as R41 gives it without the take, also where the release frees the session (the model's choice,
notes/assumptions/46.md), and the free count.  Open takes are refused WRONG_STATE, takes a station holds IN_USE, unknown ones
NO_SUCH (R69, R41). -/
def Obligations.ReleaseTakeFreesTheRecord : Prop :=
  ∀ (s : State) (tag : Byte) (n m : Nat), Taken (.releaseTake tag n m) s →
    let i : Instr := .releaseTake tag n m
    let refused (status : Status) : Prop := Moves i s fun v => Answered i s v ⟨status, []⟩ ∧ v.offLine = s.offLine
    let held (x : Session) : List Nat :=
      (s.takes.filter fun t => t.session = n ∧ t.number ≠ m).map (·.leadIn)
        ++ (match (s.readback.get x.channel).current with
          | some e => if e.entry.session = n then (s.readback.get x.channel).fetch.toList else []
          | none => [])
        ++ if s.exporter.phase = .streaming ∧ s.exporter.session = n then s.exporter.cursor.toList else []
    let trim : Option Nat := (s.session? n).bind fun x => x.firstStored.bind fun _ =>
      match held x with
      | [] => some (match x.arrivedHead with | some h => h + 1 | none => 0)
      | a :: rest => some (rest.foldl min a)
    (s.take? ⟨n, m⟩ = none → refused .noSuch)
    ∧ ∀ k, s.take? ⟨n, m⟩ = some k →
      (k.capture = .opened → refused .wrongState)
      ∧ (k.capture = .closed → k.dispatch = .assigned ∨ k.dispatch = .inWork → refused .inUse)
      ∧ (k.capture = .closed → k.dispatch ≠ .assigned → k.dispatch ≠ .inWork → Moves i s fun v =>
        Answered i s v ⟨.ok, u16 n ++ u16 m ++ opt32 trim ++ u16 v.takesFree⟩
        ∧ v.takes.map Take.ref = (s.takes.map Take.ref).filter (fun r => r ≠ ⟨n, m⟩)
        ∧ (k.dispatch = .queued → v.queue = s.queue.filter fun r => r ≠ ⟨n, m⟩)
        ∧ (k.dispatch ≠ .queued → v.queue = s.queue)
        ∧ v.rotation = s.rotation ∧ v.store.mem = s.store.mem)

/-! ### Dispatch -/

/-- QUEUE_TAKE, CLEAR_HOLD, SET_CLASS and RECALL_TAKE.  An UNQUEUED or TYPED take is queued at its class tail, a HELD one at its
class head with returns 0; SET_CLASS replaces the class and takes a QUEUED take to the tail of it; RECALL_TAKE takes the take out
of the queue or of its station's list and leaves it UNQUEUED, its station absent and its other fields kept.  The rest of the queue
keeps its order; a matching pass may then assign takes, the given one included, to the tails of station lists.  Everything outside
dispatch and the stations stands (R105 to R107, R111, R119 to R121, R123).  The premise of RECALL_TAKE is the dispatch
invariant. -/
def Obligations.DispatchRequestsPlaceTheTake : Prop :=
  ∀ (s : State) (tag : Byte) (n m : Nat),
    let r : TakeRef := ⟨n, m⟩
    let frame (t : State) : Prop := t.channels = s.channels ∧ t.sessions = s.sessions ∧ t.store = s.store
      ∧ t.marks = s.marks ∧ t.ranges = s.ranges ∧ t.readback = s.readback
    let idle : Prop := ∀ st, (s.stations.get st).wanting = false
    let standing (t : State) (u : Take) : List Byte :=
      u8 u.dispatch.code ++ opt8 (u.station.map (·.val)) ++ num16 (positionIn t.queue r)
    let lists (t : State) : Prop := ∀ o, ∃ more, (t.stations.get o).takes = (s.stations.get o).takes ++ more
    (s.take? r = none → ∀ i code, i = .queueTake tag n m ∨ i = .clearHold tag n m ∨ i = .setClass tag n m code
      ∨ i = .recallTake tag n m → Taken i s → Performs i s ⟨.noSuch, []⟩ s)
    ∧ ∀ k, s.take? r = some k →
      let placed (q : List TakeRef) (t : State) (ahead behind : Nat → Prop) : Prop := ∃ a b, q = a ++ b
        ∧ List.Sublist t.queue (a ++ r :: b) ∧ (idle → t.queue = a ++ r :: b) ∧ (∀ p ∈ a, ahead (s.classOf p))
        ∧ ∀ p, b.head? = some p → behind (s.classOf p)
      let queued (i : Instr) (t : State) (returns : Nat) : Prop := ∃ u, t.take? r = some u
        ∧ (u.dispatch = .queued ∨ u.dispatch = .assigned) ∧ u.takeClass = k.takeClass ∧ u.returns = returns
        ∧ u.excluded = k.excluded ∧ (idle → u.dispatch = .queued ∧ u.station = none ∧ u.lastStation = k.lastStation)
        ∧ Answered i s t ⟨.ok, standing t u⟩
      (Taken (.queueTake tag n m) s →
        (k.dispatch = .unqueued ∨ k.dispatch = .typed → Leaves (.queueTake tag n m) s fun t =>
          queued (.queueTake tag n m) t k.returns ∧ frame t ∧ lists t
          ∧ placed s.queue t (fun c => c ≤ k.takeClass.code) (fun c => k.takeClass.code < c))
        ∧ (k.dispatch ≠ .unqueued → k.dispatch ≠ .typed → Performs (.queueTake tag n m) s ⟨.wrongState, []⟩ s))
      ∧ (Taken (.clearHold tag n m) s →
        (k.dispatch = .held → Leaves (.clearHold tag n m) s fun t =>
          queued (.clearHold tag n m) t 0 ∧ frame t ∧ lists t
          ∧ placed s.queue t (fun c => c < k.takeClass.code) (fun c => k.takeClass.code ≤ c))
        ∧ (k.dispatch ≠ .held → Performs (.clearHold tag n m) s ⟨.wrongState, []⟩ s))
      ∧ (∀ code, Taken (.setClass tag n m code) s →
        let urgency := min 2 code
        (urgency = k.takeClass.code → Leaves (.setClass tag n m code) s fun t => t.offLine = s.offLine)
        ∧ (urgency ≠ k.takeClass.code → Leaves (.setClass tag n m code) s fun t =>
          frame t ∧ lists t
          ∧ (∃ u, t.take? r = some u ∧ u.takeClass.code = urgency ∧ u.returns = k.returns ∧ u.excluded = k.excluded
            ∧ (idle → u = { k with takeClass := u.takeClass })
            ∧ Answered (.setClass tag n m code) s t ⟨if 2 < code then .adjusted else .ok, u8 urgency ++ standing t u⟩)
          ∧ (k.dispatch = .queued →
            placed (s.queue.filter fun q => q ≠ r) t (fun c => c ≤ urgency) (fun c => urgency < c))
          ∧ (k.dispatch ≠ .queued → List.Sublist t.queue s.queue ∧ (idle → t.queue = s.queue))))
      ∧ (Taken (.recallTake tag n m) s →
        (k.dispatch = .unqueued → Performs (.recallTake tag n m) s ⟨.wrongState, []⟩ s)
        ∧ (s.DispatchInv → k.dispatch ≠ .unqueued → Leaves (.recallTake tag n m) s fun t =>
          Answered (.recallTake tag n m) s t ⟨.ok, u8 k.dispatch.code ++ opt8 (k.station.map (·.val))⟩
          ∧ t.take? r = some { k with dispatch := .unqueued, station := none } ∧ r ∉ t.queue ∧ frame t
          ∧ (k.station = none → t.queue = (s.queue.filter fun q => q ≠ r)
              ∧ ∀ o, (t.stations.get o).takes = (s.stations.get o).takes)
          ∧ ∀ st, k.station = some st → List.Sublist t.queue s.queue ∧ ∀ o, ∃ more,
              (t.stations.get o).takes
                = (if o = st then (s.stations.get o).takes.erase r else (s.stations.get o).takes) ++ more
              ∧ r ∉ (t.stations.get o).takes ∧ ∀ q ∈ more, q ∈ s.queue))

/-- ASSIGN_TAKE appends the take to the named station's list and makes it ASSIGNED there, leaving the rotation pointer, its
returns and its excluded station; a TAKE notice with event DISPATCH (code 4) reports it; the refusals of
R122 in R122's order, each changing nothing (R122, R115; where R66 words the order otherwise: notes/assumptions/57.md). -/
def Obligations.AssignTakeGivesTheTake : Prop :=
  ∀ (s : State) (tag : Byte) (n m station : Nat), Taken (.assignTake tag n m station) s →
    let i : Instr := .assignTake tag n m station
    (s.take? ⟨n, m⟩ = none ∨ 7 < station → Performs i s ⟨.noSuch, []⟩ s)
    ∧ ∀ (k : Take) (st : StationId), s.take? ⟨n, m⟩ = some k → station = st.val →
      let port := s.stations.get st
      let held := k.dispatch = .assigned ∨ k.dispatch = .inWork
      let closed := port.config.enable = false ∨ port.link ≠ .present
      (held ∨ closed → Performs i s ⟨.wrongState, []⟩ s)
      ∧ (¬ held → ¬ closed → port.config.depth ≤ port.takes.length → Performs i s ⟨.full, []⟩ s)
      ∧ (¬ held → ¬ closed → port.takes.length < port.config.depth → Leaves i s fun t =>
        Answered i s t ⟨.ok, u8 station ++ opt8 (positionIn (port.takes ++ [⟨n, m⟩]) ⟨n, m⟩) ++ u8 (port.takes.length + 1)⟩
        ∧ t.take? ⟨n, m⟩ = some { k with dispatch := .assigned, station := some st, lastStation := some st }
        ∧ t.queue = s.queue.filter (fun r => r ≠ ⟨n, m⟩) ∧ (t.stations.get st).takes = port.takes ++ [⟨n, m⟩]
        ∧ (s.hears .take → ∃ e ∈ t.link.notices, e.kind = .take ∧ e.subject = .take n m ∧ e.contents[5]? = some 4)
        ∧ (∀ o, o ≠ st → (t.stations.get o).offLine = (s.stations.get o).offLine) ∧ t.rotation = s.rotation
        ∧ t.channels = s.channels ∧ t.sessions = s.sessions ∧ t.store = s.store ∧ t.marks = s.marks
        ∧ t.ranges = s.ranges ∧ t.readback = s.readback)

/-! ### Marks and ranges -/

/-- ADD_MARK inserts a host mark, clamped into the markable span, under the session's next mark number and in the order of R74;
DELETE_MARK frees any mark but the part's own, and raises no notice.  A SPEAKER mark of the session that records on its channel
sets the keypad's speaker, and no channel changes otherwise (R74, R77, R78, R81, R87).  Which bytes of a tag are printable is
presumed (notes/assumptions/12.md). -/
def Obligations.HostMarksAreAddedAndDeleted : Prop :=
  (∀ (s : State) (tag : Byte) (r : AddMarkReq) (x : Session) (first : Nat) (k : MarkKind),
    Taken (.addMark tag r) s → s.session? r.session = some x → x.firstStored = some first → MarkKind.ofCode? r.kind = some k →
    let low := max first (x.trimPoint.getD 0)
    let high := max low (x.arrivedHead.getD low)
    let mark : Mark :=
      { session := r.session, number := x.markIssued + 1, frame := max low (min high r.frame), kind := k, source := .host
        tag := r.tag.map cleanText, speaker := if k = .speaker then some (max 1 (min 31 (r.speaker.getD 1))) else none
        length := none, cause := none, span := none, serial := none }
    (∀ e ∈ s.marks, e.identical mark = false) → x.markIssued < 65535 → s.marks.length < 1984 →
    Leaves (.addMark tag r) s fun t =>
      (∃ a b, s.marks = a ++ b ∧ t.marks = a ++ mark :: b ∧ (∀ e ∈ a, mark.before e = false)
        ∧ ∀ e, b.head? = some e → mark.before e = true)
      ∧ t.sessions = s.sessions.map (fun y => if y.number = r.session then { y with markIssued := x.markIssued + 1 } else y)
      ∧ t.channels = (if k = .speaker ∧ x.phase = .recording ∧ (s.channels.get x.channel).session = some r.session then
          let ch := s.channels.get x.channel
          s.channels.set x.channel { ch with keypad := { ch.keypad with speaker := max 1 (min 31 (r.speaker.getD 1)) } }
        else s.channels)
      ∧ { t with marks := s.marks, sessions := s.sessions, channels := s.channels }.offLine = s.offLine)
  ∧ ∀ (s : State) (tag : Byte) (n k : Nat), Taken (.deleteMark tag n k) s →
    (s.session? n = none ∨ s.mark? n k = none → Performs (.deleteMark tag n k) s ⟨.noSuch, []⟩ s)
    ∧ ∀ x m, s.session? n = some x → s.mark? n k = some m →
      (m.source = .device → Performs (.deleteMark tag n k) s ⟨.notPermitted, []⟩ s)
      ∧ (m.source ≠ .device →
        let left := s.marks.filter fun e => e.session ≠ n ∨ e.number ≠ k
        Leaves (.deleteMark tag n k) s fun t =>
          Answered (.deleteMark tag n k) s t ⟨.ok, u16 n ++ u16 k ++ u16 (left.filter fun e => e.session = n).length⟩
          ∧ t.offLine = { s with marks := left }.offLine ∧ t.link.notices = s.link.notices)

/-- OPEN_RANGE inserts a host range clamped into the recording, with READBACK no beside PLAY NONE, under the session's next range
number and in the order of R90 (R90, R92, R95).  Which bytes of its label are printable is presumed (notes/assumptions/12.md). -/
def Obligations.OpenRangeInserts : Prop :=
  ∀ (s : State) (tag : Byte) (r : OpenRangeReq) (x : Session) (first : Nat), Taken (.openRange tag r) s →
    s.session? r.session = some x → x.firstStored = some first → (r.stop = none → x.phase = .recording) →
    s.ranges.length < 64 → (r.stop = none → s.openRanges r.session < 4) → x.rangeIssued < 65535 →
    let low := max first (x.trimPoint.getD 0)
    let start := max low (min (max low (x.arrivedHead.getD low)) r.start)
    let play : PlayPermission := match r.play with | 0 => .all | 1 => .cleared | _ => .none
    let range : Range :=
      { session := r.session, number := x.rangeIssued + 1, start := start
        stop := r.stop.map fun e => max start (min (max start (x.arrivedHead.getD start)) e)
        play := play, readback := r.readback && decide (play ≠ .none), exportable := r.exportable
        label := r.label.map cleanText, source := .host }
    Leaves (.openRange tag r) s fun t =>
      (∃ a b, s.ranges = a ++ b ∧ t.ranges = a ++ range :: b ∧ (∀ g ∈ a, range.before g = false)
        ∧ ∀ g, b.head? = some g → range.before g = true)
      ∧ (∃ status, (status = .ok ∨ status = .adjusted)
        ∧ Answered (.openRange tag r) s t ⟨status, rangeRecord range ++ u8 (t.openRanges r.session)⟩)
      ∧ t.offLine = ((s.setSessions
          (s.sessions.map fun y => if y.number = r.session then { y with rangeIssued := x.rangeIssued + 1 } else y)).setRanges
          t.ranges).offLine

/-- CLOSE_RANGE ends an open range at NOW or at a clamped frame; SET_RANGE replaces the fields given; DELETE_RANGE frees the range.
The keypad toggle of the session's channel turns OFF exactly when it names a range closed or deleted so, and no other changes
(R92, R97, R98, R99).  Which bytes of a label are printable is presumed (notes/assumptions/12.md). -/
def Obligations.RangeRequestsChangeTheRange : Prop :=
  ∀ (s : State) (tag : Byte) (n k : Nat) (x : Session) (g : Range), s.session? n = some x → s.range? n k = some g →
    let ch := s.channels.get x.channel
    let toggles (t : State) : Prop := t.channels =
      if ch.session = some n then
        s.channels.set x.channel { ch with keypad := { ch.keypad with
          offRecord := if ch.keypad.offRecord = some k then none else ch.keypad.offRecord } }
      else s.channels
    (∀ stop, Taken (.closeRange tag n k stop) s → g.stop = none →
      let last := match stop with
        | none => max g.start (x.arrivedHead.getD g.start)
        | some f => max (max g.start (x.trimPoint.getD 0)) (min f (x.arrivedHead.getD g.start))
      Leaves (.closeRange tag n k stop) s fun t =>
        t.ranges = s.ranges.map (fun q => if q.session = n ∧ q.number = k then { q with stop := some last } else q) ∧ toggles t
        ∧ { t with ranges := s.ranges, channels := s.channels }.offLine = s.offLine)
    ∧ (∀ stop, Taken (.closeRange tag n k stop) s → g.stop ≠ none →
        Performs (.closeRange tag n k stop) s ⟨.wrongState, []⟩ s)
    ∧ (∀ r : SetRangeReq, r.session = n → r.range = k → Taken (.setRange tag r) s → Leaves (.setRange tag r) s fun t =>
        t.ranges = s.ranges.map (fun q => if q.session = n ∧ q.number = k then
          let play := match r.play with | none => q.play | some 0 => .all | some 1 => .cleared | some _ => .none
          { q with
            play := play, readback := r.readback.getD q.readback && decide (play ≠ .none)
            exportable := r.exportable.getD q.exportable
            label := match r.label with | .keep => q.label | .replace b => some (cleanText b) | .remove => none }
          else q)
        ∧ { t with ranges := s.ranges }.offLine = s.offLine)
    ∧ (Taken (.deleteRange tag n k) s → Leaves (.deleteRange tag n k) s fun t =>
        t.ranges = s.ranges.filter (fun q => q.session ≠ n ∨ q.number ≠ k) ∧ toggles t
        ∧ Answered (.deleteRange tag n k) s t
            ⟨.ok, u16 n ++ u16 k ++ u8 (t.openRanges n) ++ u16 t.ranges.length⟩
        ∧ { t with ranges := s.ranges, channels := s.channels }.offLine = s.offLine)

/-! ### Read-back -/

/-- QUEUE_READBACK and its companions.  CHAIN yes appends the entry under the unit's next serial, and starts it when the unit is idle
and it passes its tests; CHAIN no aborts the current entry first, discards the pending ones and starts the new entry when it passes
its tests in the state so left; the refusals of R153 change nothing.  CANCEL_READBACK with scope CURRENT aborts the current entry
and starts the head of the pending queue when it passes its tests, with scope ALL clears the unit; CONFIGURE_READBACK sets the drain
threshold, clamped to 7, and nothing else (R152 to R156, R159 to R161).  A cancel's reply names the head of the queue, and a
resolved end has no width: the model's choices (notes/assumptions/51.md, 63.md). -/
def Obligations.ReadbackRequestsAct : Prop :=
  ∀ (s : State) (tag : Byte) (c : ChannelId),
    let u := s.readback.get c
    let refused (i : Instr) (status : Status) : Prop := Moves i s fun v => Answered i s v ⟨status, []⟩ ∧ v.offLine = s.offLine
    let frame (v : State) : Prop := v.queue = s.queue ∧ v.stations = s.stations ∧ v.exporter = s.exporter
      ∧ ∀ d, d ≠ c → v.readback.get d = s.readback.get d
    let plays (v : State) (e : ReadbackEntry) (a b : Nat) : Prop := let w := v.readback.get c
      w.fetch = some a ∧ w.finished = false ∧ w.fifo = [] ∧ ∃ mark, w.current =
        some { entry := e, start := a, stop := b, startMark := mark, played := 0, withheld := 0, silent := 0 }
    let ended (v : State) (k : ReadbackCurrent) (next : List ReadbackEntry) : Prop := ∀ rec, s.recordingOn c = some rec →
      let f := match rec.arrivedHead with | some h => h + 1 | none => 0
      (∀ e ∈ next, e.session ≠ rec.number) → rec.markIssued < 65535 → s.marks.length < 2048 →
      (∀ e ∈ s.marks, e.session = rec.number → e.frame ≠ f) →
      ∃ m ∈ v.marks, m.session = rec.number ∧ m.number = rec.markIssued + 1 ∧ m.frame = f ∧ m.kind = .readbackEnd
        ∧ m.source = .device ∧ m.serial = some k.entry.serial ∧ m.span = some ⟨k.entry.session, k.start, k.stop⟩
    (∀ (r : QueueReadbackReq) (i : Instr), i = .queueReadbackChain tag r ∨ i = .queueReadbackPreempt tag r → Taken i s →
      (3 < r.channel ∨ s.session? r.session = none → refused i .noSuch)
      ∧ ∀ x, r.channel = c.val → s.session? r.session = some x → x.channel ≠ c → refused i .notPermitted)
    ∧ (∀ (r : QueueReadbackReq) (x : Session), r.channel = c.val → s.session? r.session = some x → x.channel = c →
      let entry (chain : Bool) : ReadbackEntry :=
        { serial := u.nextSerial, session := r.session, chain := chain
          start := if r.startForm = 0 then .frame r.startValue else .mark (r.startValue % 65536)
          stop := if r.endForm = 0 then .frame r.endValue else if r.endForm = 1 then .mark (r.endValue % 65536)
            else .length (max 1 (min 112500 r.endValue)) }
      let answer (body : List Byte) : Answer := ⟨adjusted (readbackChanges r), u16 u.nextSerial ++ body⟩
      let serial := (u.nextSerial + 1) % 256
      (Taken (.queueReadbackChain tag r) s → let i : Instr := .queueReadbackChain tag r
        (8 ≤ u.pending.length → refused i .full)
        ∧ (u.pending.length < 8 → u.current ≠ none → Moves i s fun v =>
          v.offLine = (s.modReadback c fun u =>
            { u with nextSerial := (u.nextSerial + 1) % 256, pending := u.pending ++ [entry true] }).offLine
          ∧ ((∀ e ∈ u.pending, e.serial ≠ u.nextSerial) →
            Answered i s v (answer (u8 1 ++ u16 (u.pending.length + 1) ++ [0xFF]))))
        ∧ (u.pending = [] → u.current = none → Moves i s fun v =>
          (v.readback.get c).nextSerial = serial ∧ (v.readback.get c).pending = [] ∧ frame v
          ∧ (∀ a b, s.resolveEntry c (entry true) = .ok (a, b) →
              plays v (entry true) a b ∧ Answered i s v (answer (u8 0 ++ u16 0 ++ [0xFF])))
          ∧ ∀ why, s.resolveEntry c (entry true) = .error why →
              (v.readback.get c).current = none ∧ Answered i s v (answer (u8 2 ++ u16 0 ++ u8 why.reason.code))))
      ∧ (Taken (.queueReadbackPreempt tag r) s → let i : Instr := .queueReadbackPreempt tag r
        let aborted := (s.modReadback c fun u => { u with nextSerial := serial }).finishEntry c .aborted
        Moves i s fun v =>
          (v.readback.get c).nextSerial = serial ∧ (v.readback.get c).pending = [] ∧ frame v
          ∧ (∀ k, u.current = some k → ended v k [entry false])
          ∧ (∀ a b, aborted.resolveEntry c (entry false) = .ok (a, b) →
              plays v (entry false) a b ∧ Answered i s v (answer (u8 0 ++ u16 0 ++ [0xFF])))
          ∧ ∀ why, aborted.resolveEntry c (entry false) = .error why →
              (v.readback.get c).current = none ∧ Answered i s v (answer (u8 2 ++ u16 0 ++ u8 why.reason.code))))
    ∧ (∀ i, i = .cancelReadbackCurrent tag c.val → Taken i s →
      (u.current = none → refused i .wrongState)
      ∧ ∀ k, u.current = some k → Moves i s fun v =>
        frame v ∧ ended v k u.pending
        ∧ (u.pending = [] → (v.readback.get c).current = none ∧ (v.readback.get c).pending = []
          ∧ Answered i s v ⟨.ok, u16 k.entry.serial ++ [0, 0xFF, 0xFF, 0xFF, 0xFF]⟩)
        ∧ ∀ e rest, u.pending = e :: rest →
          (∀ a b, (s.finishEntry c .aborted).resolveEntry c e = .ok (a, b) →
            plays v e a b ∧ (v.readback.get c).pending = rest
            ∧ Answered i s v ⟨.ok, u16 k.entry.serial ++ [0] ++ u16 e.serial ++ [0, 0xFF]⟩)
          ∧ ∀ why, (s.finishEntry c .aborted).resolveEntry c e = .error why →
            Answered i s v ⟨.ok, u16 k.entry.serial ++ [0] ++ u16 e.serial ++ [2] ++ u8 why.reason.code⟩)
    ∧ (∀ i scope, i = .cancelReadbackAll tag c.val scope → Taken i s →
      (u.outstanding = 0 → refused i .wrongState)
      ∧ (u.outstanding ≠ 0 → Moves i s fun v =>
        (v.readback.get c).current = none ∧ (v.readback.get c).pending = [] ∧ frame v
        ∧ (∀ k, u.current = some k → ended v k [])
        ∧ Answered i s v ⟨if 1 < scope then .adjusted else .ok,
            opt16 (u.current.map (·.entry.serial)) ++ u8 u.pending.length ++ [0xFF, 0xFF, 0xFF, 0xFF]⟩))
    ∧ (∀ i k, i = .configureReadback tag c.val k → Taken i s →
        Performs i s ⟨if 7 < k then .adjusted else .ok, u8 (min 7 k) ++ u8 u.outstanding⟩
          { s with readback := s.readback.set c { u with threshold := min 7 k } })
    ∧ ∀ channel k, 3 < channel →
      (Taken (.cancelReadbackCurrent tag channel) s → refused (.cancelReadbackCurrent tag channel) .noSuch)
      ∧ (Taken (.cancelReadbackAll tag channel k) s → refused (.cancelReadbackAll tag channel k) .noSuch)
      ∧ (Taken (.configureReadback tag channel k) s → Performs (.configureReadback tag channel k) s ⟨.noSuch, []⟩ s)

/-! ### The export -/

/-- FETCH_AUDIO, from a position or from the resume point, starts a STREAMING export while none runs and the first frame is neither
unstored nor trimmed; it is refused IN_USE while one runs, GONE for such a frame, NO_SUCH without a session (R188). -/
def Obligations.FetchAudioStartsTheExport : Prop :=
  ∀ (s : State) (tag : Byte) (count : Nat), let n := max 1 (min 16777215 count)
    let starts (i : Instr) (session position : Nat) : Prop :=
      (s.session? session = none → Moves i s fun v => Answered i s v ⟨.noSuch, []⟩ ∧ v.offLine = s.offLine)
      ∧ ∀ x, s.session? session = some x →
        let p := min 1382399999 position
        let gone := s.category x (p / 256) = .unstored ∨ s.category x (p / 256) = .trimmed
        (s.exporter.phase ≠ .idle → Moves i s fun v => Answered i s v ⟨.inUse, []⟩ ∧ v.offLine = s.offLine)
        ∧ (s.exporter.phase = .idle → gone → Moves i s fun v => Answered i s v ⟨.gone, []⟩ ∧ v.offLine = s.offLine)
        ∧ (s.exporter.phase = .idle → ¬ gone → Moves i s fun v =>
          (∃ status, (status = .ok ∨ status = .adjusted) ∧ Answered i s v ⟨status, u16 session ++ u32 p ++ u32 n⟩)
          ∧ v.exporter =
            { phase := .streaming, session := session, tag := tag, start := p, count := n, sent := 0, withheld := 0, lost := 0
              reason := none, fifo := [], cursor := some (p / 256), reader := .idle, resume := some ⟨session, p⟩ }
          ∧ v.channels = s.channels ∧ v.takes = s.takes ∧ v.stations = s.stations ∧ v.readback = s.readback)
    (∀ session start, Taken (.fetchAudio tag session start count) s →
      starts (.fetchAudio tag session start count) session start)
    ∧ ∀ form, Taken (.fetchAudioContinue tag form count) s →
      (s.exporter.resume = none → Moves (.fetchAudioContinue tag form count) s fun v =>
        Answered (.fetchAudioContinue tag form count) s v ⟨.noSuch, []⟩ ∧ v.offLine = s.offLine)
      ∧ ∀ r, s.exporter.resume = some r → starts (.fetchAudioContinue tag form count) r.session r.position

/-- STOP_FETCH ends a STREAMING export with reason STOPPED and reports its TAG and the samples sent; in IDLE and ENDING it is
refused WRONG_STATE (R192). -/
def Obligations.StopFetchEndsTheExport : Prop :=
  ∀ (s : State) (tag : Byte), Taken (.stopFetch tag) s →
    (s.exporter.phase = .streaming → Leaves (.stopFetch tag) s fun t =>
      Answered (.stopFetch tag) s t ⟨.ok, [s.exporter.tag] ++ u32 s.exporter.sent⟩
      ∧ t.exporter = { s.exporter with phase := .ending, reason := some .stopped, fifo := [], cursor := none, reader := .stopped }
      ∧ t.channels = s.channels ∧ t.takes = s.takes ∧ t.readback = s.readback ∧ t.queue = s.queue)
    ∧ (s.exporter.phase ≠ .streaming → Performs (.stopFetch tag) s ⟨.wrongState, []⟩ s)

/-- NOTICE_SENT, DATA_SENT and FETCH_END_SENT free the line.  After an OVERFLOW notice the dropped-notice count is 0; a DATA message
counts its samples and moves a resume point that is not absent, and the last one ends the export COMPLETE; after FETCH_END the
export is IDLE (R181, R182, R190, R191).  That withheld and lost samples are counted when the message has been sent, that a link
reset orphans a message on the line, and when the dropped count is cleared, is read by inference (notes/assumptions/16.md, 31.md,
42.md). -/
def Obligations.SentMessagesFreeTheLine : Prop :=
  ∀ s : State,
    (∀ n, s.link.line = some (.notice n) → Moves .noticeSent s fun v => v = { s with link := { s.link with
        line := none, dropped := if n.kind = .device ∧ n.contents.head? = some 1 then 0 else s.link.dropped } })
    ∧ (∀ m, s.link.line = some (.fetchEnd m false) → Moves .fetchEndSent s fun v =>
        v = { s with link := { s.link with line := none }, exporter := { s.exporter with phase := .idle } })
    ∧ ∀ d, s.link.line = some (.data d false) → Moves .dataSent s fun v =>
        let sent := s.exporter.sent + d.samples.length
        v.link.line = none ∧ v.exporter.sent = sent ∧ v.exporter.withheld = s.exporter.withheld + d.withheld
        ∧ v.exporter.lost = s.exporter.lost + d.lost
        ∧ v.exporter.resume = s.exporter.resume.map (fun _ => ⟨s.exporter.session, s.exporter.start + sent⟩)
        ∧ (s.exporter.phase = .streaming → sent < s.exporter.count → v.exporter.phase = .streaming)
        ∧ (s.exporter.phase = .streaming → s.exporter.count ≤ sent →
          v.exporter.phase = .ending ∧ v.exporter.reason = some .complete ∧ v.exporter.fifo = [])
        ∧ v.channels = s.channels ∧ v.takes = s.takes ∧ v.stations = s.stations ∧ v.readback = s.readback

/-! ### Events of the capture channels -/

/-- FRAME_COMPLETED: the frame becomes the echo source in every state, but while a read-back plays it is not kept; in ARMED and
RECORDING it takes the next frame number and is analysed; in RECORDING it joins the capture FIFO, or is lost with cause STORE_BUSY
when 4 ordinary entries wait (R6, R13, R16, R17, R172).  That the command carries the samples since the last one is the model's
choice (notes/assumptions/8.md). -/
def Obligations.FramesArrive : Prop :=
  ∀ (s : State) (c : ChannelId) (samples : List Sample), let ch := s.channels.get c
    let frame := ch.assembler ++ samples
    let echo := if (s.readback.get c).current.isSome then none else some frame
    ch.input = .live → samples ≠ [] → frame.length = 256 → Moves (.frameCompleted c samples) s fun v =>
      let w := v.channels.get c
      w.assembler = [] ∧ w.inputLossTimer = 0 ∧ w.echo = echo ∧ w.config = ch.config
      ∧ (ch.phase = .off ∨ ch.phase = .closing → v = s.modChannel c fun ch =>
          { ch with assembler := [], inputLossTimer := 0, echo := echo })
      ∧ (∀ n x, ch.session = some n → s.session? n = some x → ch.phase = .armed ∨ ch.phase = .recording →
        let f := match ch.arrivedHead with | some h => h + 1 | none => 0
        w.arrivedHead = some f ∧ w.detector = ch.detector.analyse ch.config (some frame)
        ∧ (ch.phase = .recording → w.fifo = ch.fifo ++
            [if ch.fifo.countP CaptureEntry.isOrdinary < 4 then .ordinary f frame else .lost f .storeBusy]))

/-- What a completed frame sets off.  It counts for the LEVEL notice (R18).  In ARMED it joins the pre-roll ring, of 8 frames; the
frame that switches the detector to SPEECH starts recording, with the ring as pre-roll entries and its oldest frame as the first
stored frame (R14, R15).  In RECORDING the first frame opens the first take, and every frame at or above the open take's core start
is searched for a cut, forced, soft or hard, under the plan as it stands when the frame arrives; a cut that finds no record extends
the take (R47, R48, R50 to R54, R56 to R59). -/
def Obligations.ArrivedFramesAreSearched : Prop :=
  ∀ (s : State) (c : ChannelId) (samples : List Sample) (n : Nat) (x : Session), let ch := s.channels.get c
    let frame := ch.assembler ++ samples
    let f := match ch.arrivedHead with | some h => h + 1 | none => 0
    let d := ch.detector.analyse ch.config (some frame)
    let room : Prop := (s.link.notices.countP fun e => e.kind ≠ .device) + 2 ≤ 255
    ch.input = .live → samples ≠ [] → frame.length = 256 → ch.session = some n → s.session? n = some x → x.channel = c →
    ch.phase = .armed ∨ ch.phase = .recording → Moves (.frameCompleted c samples) s fun v => let w := v.channels.get c
      (ch.config.levelPeriod = 0 → w.levelCounter = ch.levelCounter)
      ∧ (ch.levelCounter + 1 < ch.config.levelPeriod → w.levelCounter = ch.levelCounter + 1)
      ∧ (0 < ch.config.levelPeriod → ch.config.levelPeriod ≤ ch.levelCounter + 1 → w.levelCounter = 0
        ∧ (s.link.mask.getLsbD 5 = true → room → v.told .level (.channel c)))
      ∧ (ch.phase = .armed → f ≠ 5399999 →
        let ring := (if ch.ring.length < 8 then ch.ring else ch.ring.drop 1) ++ [RingFrame.mk f frame]
        let onset := ch.detector.phase = .quiet ∧ d.phase = .speech
        (¬ onset → w.phase = .armed ∧ w.ring = ring ∧ w.fifo = ch.fifo ∧ v.takes = s.takes)
        ∧ (onset → w.phase = .recording ∧ w.ring = []
          ∧ w.fifo = ring.map (fun r => CaptureEntry.preRoll r.frame r.samples)
          ∧ ∃ y first, v.session? n = some y ∧ ring.head? = some first ∧ y.phase = .recording
            ∧ y.firstStored = some first.frame ∧ y.takeCount = x.takeCount + 1 ∧ y.openTake = some (x.takeCount + 1)))
      ∧ (ch.phase = .recording → x.firstStored = none → ∃ y, v.session? n = some y ∧ y.firstStored = some f
        ∧ y.takeCount = x.takeCount + 1 ∧ y.openTake = some (x.takeCount + 1))
      ∧ ∀ a m k, ch.phase = .recording → x.firstStored = some a → x.openTake = some m → s.take? ⟨n, m⟩ = some k →
        let len := f + 1 - k.core
        let due : Option (Nat × CutKind) :=
          if f < k.core then none
          else if x.forcedPending = true ∧ 32 ≤ len ∧ f ≠ 5399999 then some (f + 1, .forced)
          else if x.plan.nominal ≤ len ∧ x.plan.pause ≤ d.quietRun ∧ (s.readback.get c).current = none then
            some (f + 1 - (x.plan.pause + 1) / 2, .soft)
          else if x.plan.nominal + x.plan.grace ≤ len ∧ f ≠ 5399999 then some (f + 1, .hard)
          else none
        (due = none → v.takes = s.takes)
        ∧ ∀ cut kind, due = some (cut, kind) → x.takeCount < 65535 →
          (s.takesFree ≠ 0 →
            (∃ u ∈ v.takes, u.session = n ∧ u.number = m ∧ u.capture = .closed ∧ u.stop = some (cut - 1)
              ∧ u.cutKind = some kind ∧ u.leadIn = k.leadIn ∧ u.core = k.core)
            ∧ (∃ u ∈ v.takes, u.session = n ∧ u.number = x.takeCount + 1 ∧ u.capture = .opened ∧ u.stop = none
              ∧ u.core = cut
              ∧ u.leadIn = max (max (cut - if kind = .soft then x.plan.softOverlap else x.plan.hardOverlap) (k.leadIn + 1)) a)
            ∧ ∃ y, v.session? n = some y ∧ y.openTake = some (x.takeCount + 1) ∧ y.forcedPending = false
              ∧ y.extensionReported = false)
          ∧ (s.takesFree = 0 → v.takes = s.takes
            ∧ (∃ y, v.session? n = some y ∧ y.openTake = some m ∧ y.extensionReported = true)
            ∧ (x.extensionReported = false → s.link.mask.getLsbD 7 = true →
              (s.link.notices.countP fun e => e.kind ≠ .device) + 3 ≤ 255 → v.told .table (.table .takes)))

/-- Input loss and return: the expiry of the input-loss timer makes the input LOST, discards the partial frame and counts three
frames lost in RECORDING; each lost-frame tick counts one more; the first sample back makes it LIVE.  In OFF and CLOSING
nothing is counted (R7, R8). -/
def Obligations.InputLossAndReturn : Prop :=
  ∀ (s : State) (c : ChannelId), let ch := s.channels.get c
    let taking (x : Session) (h : Nat) : Prop := ch.phase = .recording ∧ ch.session = some x.number
      ∧ s.session? x.number = some x ∧ ch.arrivedHead = some h
    (ch.input = .live → Moves (.inputLossTimerExpiry c) s fun v =>
      (v.channels.get c).input = .lost ∧ (v.channels.get c).assembler = [] ∧ (v.channels.get c).lostTick = some 0
      ∧ (ch.phase = .off ∨ ch.phase = .closing → v.offLine = (s.modChannel c fun ch =>
          { ch with input := .lost, assembler := [], inputLossTimer := 48, lostTick := some 0 }).offLine
        ∧ (s.hears .input → v.told .input (.channel c)))
      ∧ (∀ x h, taking x h → h + 3 < 5399999 → (v.channels.get c).arrivedHead = some (h + 3)
        ∧ (v.channels.get c).fifo = ch.fifo ++ [.lost (h + 1) .input, .lost (h + 2) .input, .lost (h + 3) .input]))
    ∧ (ch.input = .lost → Moves (.lostFrameTick c) s fun v =>
      (v.channels.get c).lostTick = some 0 ∧ (v.channels.get c).input = .lost
      ∧ (ch.phase = .off ∨ ch.phase = .closing → v = s.modChannel c fun ch => { ch with lostTick := some 0 })
      ∧ (∀ x h, taking x h → h + 1 < 5399999 → (v.channels.get c).arrivedHead = some (h + 1)
        ∧ (v.channels.get c).fifo = ch.fifo ++ [.lost (h + 1) .input]))
    ∧ ∀ sample, ch.input = .lost → Leaves (.inputReturned c sample) s fun t =>
      t.offLine = (s.modChannel c fun ch =>
        { ch with input := .live, assembler := [sample], inputLossTimer := 0, lostTick := none }).offLine
      ∧ (s.hears .input → t.told .input (.channel c))

/-- CHANNEL_OUTPUT_FRAME_TIME: while an entry plays the output carries the head of the read-back FIFO, which leaves it, or silence;
otherwise the latest completed frame in ECHO, silent while the input is LOST, or silence in QUIET (R17, R158). -/
def Obligations.OutputFollowsItsSource : Prop :=
  ∀ (s : State) (c : ChannelId), let ch := s.channels.get c
    let u := s.readback.get c
    Moves (.channelOutputFrameTime c) s fun v => let w := v.channels.get c
      w.echo = none ∧ w.config = ch.config ∧ (∀ d, d ≠ c → (v.channels.get d).outputFrame = (s.channels.get d).outputFrame)
      ∧ (u.current = none → v = s.modChannel c fun ch => { ch with
          echo := none
          output := match ch.config.outputMode with | .echo => .echo | .quiet => .quiet
          outputFrame := if ch.config.outputMode = .echo ∧ ch.input = .live then ch.echo else none })
      ∧ (∀ k e rest, u.current = some k → u.fifo = e :: rest →
          w.output = .readback ∧ w.outputFrame = e.samples ∧ (v.readback.get c).fifo = rest
          ∧ (v.readback.get c).current = some { k with played := k.played + if e.samples.isSome then 1 else 0 }
          ∧ v.sessions = s.sessions ∧ v.store = s.store)
      ∧ (∀ k, u.current = some k → u.fifo = [] → w.outputFrame = none ∨ (u.finished = true ∧ w.output = .echo))
      ∧ (∀ k, u.current = some k → u.fifo = [] → u.finished = false → u.reader ≠ .waiting →
          w.output = .readback ∧ (v.readback.get c).underruns = min 65535 (u.underruns + 1))

/-- The keys of a marker keypad: eight samples in a row are needed to change an accepted state; an accepted press in OFF and
CLOSING only changes it, in ARMED starts recording at the press frame, and in both ARMED and RECORDING acts there: keys 1 and 3 mark it,
key 2 advances the speaker and marks it, key 4 opens an off-record range with the channel's permissions and closes it at the next
press, or finds the range table full.  A disabled key does nothing (R84 to R88, R15, R96).  That the eighth sample performs the
acceptance is the model's choice (notes/assumptions/9.md). -/
def Obligations.KeypadKeysAct : Prop :=
  ∀ (s : State) (c : ChannelId) (k : KeyId), let ch := s.channels.get c
    let key := ch.keypad.keys.get k
    let f := match ch.arrivedHead with | some h => h + 1 | none => 0
    let accepted (pressed : Bool) : State := s.modChannel c fun ch =>
      { ch with keypad := { ch.keypad with keys := ch.keypad.keys.set k { pressed := pressed, debounce := 0 } } }
    (ch.config.enable.get k = false → exec (.keySample c k true) s = .next s ∧ exec (.keySample c k false) s = .next s
      ∧ exec (.keypadPressAccepted c k) s = .next s ∧ exec (.keypadReleaseAccepted c k) s = .next s)
    ∧ (ch.config.enable.get k = true →
      (key.pressed = true → Leaves (.keypadReleaseAccepted c k) s fun t => t.offLine = (accepted false).offLine)
      ∧ (∀ high, let reads := (ch.config.polarity.get k = .activeHigh) = (high = true)
        Leaves (.keySample c k high) s fun t =>
          ((reads ↔ key.pressed = true) → t.offLine = (accepted key.pressed).offLine)
          ∧ (¬ (reads ↔ key.pressed = true) → key.debounce < 7 →
            (t.channels.get c).keypad.keys.get k = { key with debounce := key.debounce + 1 })
          ∧ (¬ (reads ↔ key.pressed = true) → 7 ≤ key.debounce →
            (t.channels.get c).keypad.keys.get k = { pressed := !key.pressed, debounce := 0 }
            ∧ exec (if key.pressed then .keypadReleaseAccepted c k else .keypadPressAccepted c k) s = .next t))
      ∧ (key.pressed = false → Leaves (.keypadPressAccepted c k) s fun t =>
        (t.channels.get c).keypad.keys.get k = { pressed := true, debounce := 0 }
        ∧ (ch.phase = .off ∨ ch.phase = .closing → t.offLine = (accepted true).offLine)
        ∧ (∀ n x, ch.phase = .armed → ch.session = some n → s.session? n = some x →
          (t.channels.get c).phase = .recording ∧ (t.channels.get c).ring = []
          ∧ ∃ y, t.session? n = some y ∧ y.phase = .recording ∧ y.firstStored = some f ∧ y.takeCount = x.takeCount + 1)
        ∧ ∀ n x, ch.phase = .armed ∨ ch.phase = .recording → ch.session = some n → s.session? n = some x →
          let speaker := if ch.keypad.speaker < ch.config.speakers then ch.keypad.speaker + 1 else 1
          let open? := (t.channels.get c).keypad.offRecord
          let range : Range :=
            { session := n, number := x.rangeIssued + 1, start := f, stop := none, play := ch.config.offPlay
              readback := ch.config.offReadback && decide (ch.config.offPlay ≠ .none)
              exportable := ch.config.offExport, label := none, source := .keypad }
          (k ≠ 1 → (t.channels.get c).keypad.speaker = ch.keypad.speaker)
          ∧ (k = 1 → (t.channels.get c).keypad.speaker = speaker)
          ∧ (k ≠ 3 → (∀ e ∈ s.marks, e.session = n → e.frame ≠ f) → x.markIssued < 65535 → s.marks.length < 1984 →
            ∃ m ∈ t.marks, m.session = n ∧ m.number = x.markIssued + 1 ∧ m.frame = f ∧ m.source = .keypad
              ∧ m.kind = (if k = 0 then .general else if k = 1 then .speaker else .exhibit) ∧ m.tag = none
              ∧ m.speaker = if k = 1 then some speaker else none)
          ∧ (k = 3 → x.channel = c → ch.phase = .armed →
            (∀ j, ch.keypad.offRecord = some j → open? = none
              ∧ ∀ g ∈ s.ranges, g.session = n → g.number = j → g.stop = none → { g with stop := some f } ∈ t.ranges)
            ∧ (ch.keypad.offRecord = none → s.ranges.length < 64 → s.openRanges n < 4 → x.rangeIssued < 65535 →
              open? = some (x.rangeIssued + 1) ∧ range ∈ t.ranges ∧ ∀ g ∈ t.ranges, g = range ∨ g ∈ s.ranges)
            ∧ (ch.keypad.offRecord = none → 4 ≤ s.openRanges n ∨ 65535 ≤ x.rangeIssued →
              open? = none ∧ ∀ g ∈ t.ranges, g ∈ s.ranges))
          ∧ (k = 3 → x.channel = c → ch.phase = .recording →
            (∀ j, ch.keypad.offRecord = some j → open? = none
              ∧ (s.hears .mark → t.told .mark (.session n))
              ∧ t.ranges = s.ranges.map fun g => if g.session = n ∧ g.number = j then { g with stop := some f } else g)
            ∧ (ch.keypad.offRecord = none →
              (s.ranges.length < 64 → s.openRanges n < 4 → x.rangeIssued < 65535 →
                open? = some (x.rangeIssued + 1) ∧ (s.hears .mark → t.told .mark (.session n))
                ∧ ∃ a b, s.ranges = a ++ b ∧ t.ranges = a ++ range :: b)
              ∧ (64 ≤ s.ranges.length ∨ 4 ≤ s.openRanges n ∨ 65535 ≤ x.rangeIssued → open? = none ∧ t.ranges = s.ranges
                ∧ (s.hears .table → t.told .table (.table .ranges)))))))

/-! ### Transfers and the arbiter -/

/-- CAPTURE_TRANSFER_END: the frame stands in its slot, its entry leaves the FIFO, the stored head is its number and the port is
FREE; no byte outside the slot changes (R31, R35).  A slot outside the store faults, the model's choice
(notes/assumptions/7.md). -/
def Obligations.CaptureTransferStoresTheFrame : Prop :=
  ∀ (s : State) (g : Grant) (c : ChannelId) (x : Session) (f : Nat) (samples : List Sample),
    s.arbiter.grant = some g → g.client = .capture c → (s.channels.get c).session = some x.number →
    s.session? x.number = some x → (s.channels.get c).headFrame = some (f, samples) →
    (g.block < s.store.blocks → g.slot < 64 → Moves .captureTransferEnd s fun v =>
      (samples.length = 256 → v.store.readFrame g.block g.slot = some samples)
      ∧ (∀ a, a < g.block * 32768 + g.slot * 512 ∨ g.block * 32768 + g.slot * 512 + 2 * samples.length ≤ a →
          readByte v.store.mem a = readByte s.store.mem a)
      ∧ (v.channels.get c).fifo = (s.channels.get c).fifo.tail ∧ v.arbiter.grant = none
      ∧ (∃ y, v.session? x.number = some y ∧ y.storedHead = some f ∧ y.gapRun = none ∧ y.lostInput = x.lostInput)
      ∧ v.takes = s.takes ∧ v.stations = s.stations ∧ v.readback = s.readback)
    ∧ (¬ (g.block < s.store.blocks ∧ g.slot < 64) → exec .captureTransferEnd s = .fault .outsideStore)

/-- The end of a reader's transfer frees the port and gives the frame to the FIFO of its client; a transfer whose client has been
emptied is discarded.  No reader's transfer writes the store's bytes (R140, R157, R171, R189). -/
def Obligations.ReaderTransfersDeliver : Prop :=
  ∀ (s : State) (g : Grant) (samples : List Sample) (f b slot : Nat), s.arbiter.grant = some g →
    let ends (i : Instr) (P : State → Prop) : Prop :=
      (g.live = true → g.block < s.store.blocks → g.slot < 64 → s.store.readFrame g.block g.slot = some samples →
        Moves i s fun v => P v ∧ v.arbiter.grant = none ∧ v.store.mem = s.store.mem ∧ v.takes = s.takes)
      ∧ (g.live = false → Moves i s fun v => v.arbiter.grant = none ∧ v.store.mem = s.store.mem ∧ v.takes = s.takes
        ∧ v.stations = s.stations ∧ v.readback = s.readback ∧ v.exporter = s.exporter)
    (∀ n, g.client = .station n → (s.stations.get n).reader = .request f b slot → ends .stationReaderTransferEnd fun v =>
      (v.stations.get n).fifo = (s.stations.get n).fifo
        ++ [⟨f, some samples, none, (s.stations.get n).cycle.map fun k => { k with cursor := f }⟩]
      ∧ (v.stations.get n).fetch = some (f + 1)
      ∧ ((s.stations.get n).fifo.length = 3 → (v.stations.get n).resting = true))
    ∧ (∀ c k, g.client = .readback c → (s.readback.get c).reader = .request f b slot →
      (s.readback.get c).current = some k → ends .readbackReaderTransferEnd fun v =>
        (v.readback.get c).fifo = (s.readback.get c).fifo ++ [⟨f, some samples⟩]
        ∧ (f = k.stop → (v.readback.get c).finished = true) ∧ (f ≠ k.stop → (v.readback.get c).fetch = some (f + 1)))
    ∧ (g.client = .exporter → s.exporter.reader = .request f b slot → ends .exportReaderTransferEnd fun v =>
        v.exporter.fifo = s.exporter.fifo ++ [⟨f, .samples samples⟩]
        ∧ (f ≠ (s.exporter.start + s.exporter.count - 1) / 256 → v.exporter.cursor = some (f + 1)))

/-- With the port FREE and a client requesting, the arbiter grants one of the highest level presented, the first of them in the rank
of R170, with the levels of R166 to R169: it holds the port, for the frame its reader waits for or the place the store chooses, and
the station pointer moves for a station alone; a capture frame that finds no place leaves the port FREE.  A BUSY port is not taken
away.  Refresh due times are counted, held at 15, and a burst takes one off (R34, R165 to R171). -/
def Obligations.ArbiterGrantsByLevelAndRank : Prop :=
  (∀ s : State, (s.chooseClient = none ↔ ∀ k, s.level k = 0)
    ∧ ∀ k, s.chooseClient = some k → (∀ j, s.level j ≤ s.level k)
      ∧ ∃ before after, clientRank s.arbiter.stationPointer = before ++ k :: after ∧ ∀ j ∈ before, s.level j < s.level k)
  ∧ (∀ p : StationId, clientRank p = [.refresh, .capture 0, .capture 1, .capture 2, .capture 3, .readback 0, .readback 1,
      .readback 2, .readback 3, .station (p + 1), .station (p + 2), .station (p + 3), .station (p + 4), .station (p + 5),
      .station (p + 6), .station (p + 7), .station p, .exporter])
  ∧ (∀ s : State, s.level .refresh = (if s.arbiter.refreshDue = 0 then 0 else if s.arbiter.refreshDue < 4 then 1 else 3))
  ∧ (∀ (s : State) c, s.level (.capture c) = min 3 ((s.channels.get c).fifo.filter CaptureEntry.hasSamples).length)
  ∧ (∀ (s : State) c, (s.readback.get c).current ≠ none → (s.readback.get c).reader.requests = true →
      s.level (.readback c) = match (s.readback.get c).fifo.length, (s.readback.get c).resting with
        | 0, _ => 3 | 1, _ => 2 | 2, _ => 1 | 3, false => 1 | 3, true => 0 | _, _ => 0)
  ∧ (∀ (s : State) n, (s.stations.get n).config.enable = true → (s.stations.get n).transport ≠ .stopped →
      (s.stations.get n).takes ≠ [] → (s.stations.get n).reader.requests = true →
      s.level (.station n) = match (s.stations.get n).fifo.length, (s.stations.get n).resting with
        | 0, _ => 3 | 1, _ => 2 | 2, _ => 1 | 3, false => 1 | 3, true => 0 | _, _ => 0)
  ∧ (∀ s : State, s.exporter.phase = .streaming → s.exporter.reader.requests = true →
      s.level .exporter = if s.exporter.fifo.length < 2 then 1 else 0)
  ∧ (∀ s : State, (∀ n, (s.stations.get n).reader.requests = false → s.level (.station n) = 0)
      ∧ (∀ c, (s.readback.get c).reader.requests = false → s.level (.readback c) = 0)
      ∧ (s.exporter.reader.requests = false → s.level .exporter = 0))
  ∧ (∀ s : State, (s.arbiter.grant ≠ none ∨ s.chooseClient = none → s.decideGrant = s)
      ∧ ∀ k, s.arbiter.grant = none → s.chooseClient = some k →
        let granted (block slot : Nat) (pointer : StationId) : State := { s with arbiter :=
          { s.arbiter with grant := some ⟨k, true, block, slot⟩, stationPointer := pointer } }
        (k = .refresh → s.decideGrant = granted 0 0 s.arbiter.stationPointer)
        ∧ (∀ c, k = .readback c → ∃ f b slot, (s.readback.get c).reader = .request f b slot
            ∧ s.decideGrant = granted b slot s.arbiter.stationPointer)
        ∧ (∀ n, k = .station n → ∃ f b slot, (s.stations.get n).reader = .request f b slot
            ∧ s.decideGrant = granted b slot n)
        ∧ (k = .exporter → ∃ f b slot, s.exporter.reader = .request f b slot
            ∧ s.decideGrant = granted b slot s.arbiter.stationPointer)
        ∧ ∀ c x f samples, k = .capture c → s.channelSession? c = some x →
          (s.channels.get c).headFrame = some (f, samples) →
          (∀ st b slot, s.store.place x.number f = some (st, b, slot) →
            s.decideGrant.arbiter = (granted b slot s.arbiter.stationPointer).arbiter
            ∧ s.decideGrant.store = { st with condition := s.decideGrant.store.condition })
          ∧ (s.store.place x.number f = none → s.decideGrant.arbiter = s.arbiter
            ∧ (s.decideGrant.channels.get c).fifo = (s.channels.get c).fifo.tail))
  ∧ (∀ (s : State) k, s.settleOnce.arbiter.grant = none → s.settleOnce.chooseClient = some k →
      (∀ c, k = .capture c → ∃ x f samples, s.settleOnce.channelSession? c = some x
        ∧ (s.settleOnce.channels.get c).headFrame = some (f, samples) ∧ s.settleOnce.store.place x.number f ≠ none) →
      s.settle.arbiter.grant.map (·.client) = some k
      ∧ s.settle.arbiter.stationPointer = match k with | .station n => n | _ => s.arbiter.stationPointer)
  ∧ (∀ s : State, Moves .refreshDueTime s fun v => v = { s with arbiter := { s.arbiter with
      refreshTimer := 0, refreshDue := min 15 (s.arbiter.refreshDue + 1) } })
  ∧ ∀ (s : State) g, s.arbiter.grant = some g → g.client = .refresh → Moves .refreshBurstEnd s fun v =>
      v = { s with arbiter := { s.arbiter with grant := none, refreshDue := s.arbiter.refreshDue - 1 } }

/-! ### Typist stations -/

/-- CONFIGURE_STATION replaces the whole configuration, each value clamped, Y after X.  Disabling stops the station, sends no AUDIO
that waits, and returns its takes: each becomes QUEUED at the head of its class, in list order, or the pass gives it to another
station, with its class, returns and excluded station kept.  Nothing outside dispatch and the stations changes (R105, R118, R129,
R148, R202).  Which bytes of the display text are printable is presumed (notes/assumptions/12.md). -/
def Obligations.ConfigureStationReplaces : Prop :=
  ∀ (s : State) (tag : Byte) (r : ConfigureStationReq), Taken (.configureStation tag r) s →
    (7 < r.station → Performs (.configureStation tag r) s ⟨.noSuch, []⟩ s)
    ∧ ∀ n : StationId, r.station = n.val →
      let x := min 16 r.scanPlay
      let st := s.stations.get n
      let cfg : StationConfig :=
        { enable := r.enable, channelSet := BitVec.ofNat 4 r.channelSet, classSet := BitVec.ofNat 3 r.classSet
          depth := max 1 (min 4 r.depth), cleared := r.cleared, startAtCore := r.startAtCore
          backspace := min 125 r.backspace, scanPlay := x, scanStride := max (x + 1) (min 64 r.scanStride)
          grace := min 600 r.grace, text := cleanText r.text }
      Leaves (.configureStation tag r) s fun t => let w := t.stations.get n
        (∃ status, (status = .ok ∨ status = .adjusted)
          ∧ Answered (.configureStation tag r) s t ⟨status, stationConfigBytes cfg⟩)
        ∧ w.config = cfg
        ∧ (st.config.enable = true → r.enable = false →
          w.takes = [] ∧ w.pedals = [] ∧ w.transport = .stopped ∧ w.fifo = [] ∧ w.audioWaiting = none
          ∧ (∀ q ∈ st.takes, ∀ k, s.take? q = some k → ∃ u, t.take? q = some u
            ∧ ((u.dispatch = .queued ∧ u.station = none) ∨ (u.dispatch = .assigned ∧ ∃ o, o ≠ n ∧ u.station = some o))
            ∧ u.takeClass = k.takeClass ∧ u.returns = k.returns ∧ u.excluded = k.excluded)
          ∧ ((∀ o, o ≠ n → (s.stations.get o).wanting = false) → ∀ code,
            (t.queue.filter fun q => s.classOf q = code)
              = (st.takes.filter fun q => s.classOf q = code) ++ s.queue.filter fun q => s.classOf q = code))
        ∧ (∀ m, m ≠ n → (t.stations.get m).config = (s.stations.get m).config)
        ∧ t.channels = s.channels ∧ t.sessions = s.sessions ∧ t.store = s.store ∧ t.marks = s.marks ∧ t.ranges = s.ranges
        ∧ t.readback = s.readback

/-- What packets and silence do to a port's link state.  A valid packet restarts the silence timer and makes an ABSENT or LOST port
PRESENT; ALIVE stores the model, a KEY of unknown code or action does nothing more; an invalid, unfinished or broken packet is
counted, and outside a packet a break, a timeout or a low stop bit counts nothing; 1000 ms of silence make a PRESENT port LOST;
the reclaim timer makes it ABSENT and returns its takes.  While STARTING lines are ignored (R126 to R128, R118, R130, R202).  That
the events bring the received bytes is the model's choice (notes/assumptions/55.md). -/
def Obligations.StationLinksFollowTheirPackets : Prop :=
  ∀ (s : State) (n : StationId), let st := s.stations.get n
    let frame (t : State) : Prop := t.channels = s.channels ∧ t.sessions = s.sessions ∧ t.store = s.store
      ∧ t.marks = s.marks ∧ t.ranges = s.ranges ∧ t.readback = s.readback
    let breaks (received : List Byte) (i : Instr) : Prop :=
      i = .stationPacketInvalid ⟨n, received⟩ true ∨ i = .stationPacketTimeout ⟨n, received⟩ ∨ i = .stationLineBreak ⟨n, received⟩
    let bad (i : Instr) : Prop := (∃ received, receivingPacket received = true ∧ breaks received i)
      ∨ ∃ received, receivedBad received = true ∧ i = .stationPacketInvalid ⟨n, received⟩ false
    let heard : Station := if st.link = .present then { st with silenceTimer := some 0 }
      else { st with silenceTimer := some 0, link := .present, reclaimTimer := none }
    (s.link.device = .starting → (∀ i, bad i → exec i s = .next s) ∧ (∀ model, exec (.alive n model) s = .next s)
      ∧ ∀ code action, exec (.keyUnknown n code action) s = .next s)
    ∧ (∀ received i, receivingPacket received = false → breaks received i → exec i s = .next s)
    ∧ (∀ received, receivedBad received = false → exec (.stationPacketInvalid ⟨n, received⟩ false) s = .next s)
    ∧ (s.link.device = .ready →
      (∀ i, bad i → Leaves i s fun t =>
        t.offLine = (s.modStation n fun st => { st with badPackets := min 65535 (st.badPackets + 1) }).offLine)
      ∧ (∀ model, Leaves (.alive n model) s fun t =>
        t.offLine = (s.modStation n fun _ => { heard with model := some model }).offLine
        ∧ (st.link ≠ .present → s.hears .station → t.told .station (.station n)))
      ∧ (∀ code action, Leaves (.keyUnknown n code action) s fun t =>
        t.offLine = (s.modStation n fun _ => heard).offLine)
      ∧ (st.link = .present → Leaves (.stationLinkLost n) s fun t => let w := t.stations.get n
        w.accepting = false ∧ w.pedals = [] ∧ w.transport = .stopped ∧ w.fifo = [] ∧ w.config = st.config ∧ frame t
        ∧ (st.config.grace ≠ 0 → w.link = .lost ∧ w.reclaimTimer = some 0 ∧ w.takes = st.takes ∧ t.takes = s.takes
            ∧ t.queue = s.queue ∧ (st.transport ≠ .stopped → w.stoppedByPart = true))
        ∧ (st.config.grace = 0 → w.link = .absent ∧ w.reclaimTimer = none ∧ w.takes = []))
      ∧ (st.link = .lost → Leaves (.reclaimTimerExpiry n) s fun t => let w := t.stations.get n
        w.link = .absent ∧ w.reclaimTimer = none ∧ w.takes = [] ∧ w.config = st.config ∧ frame t
        ∧ ∀ r ∈ st.takes, ∀ k, s.take? r = some k → ∃ u, t.take? r = some u
          ∧ (u.dispatch = .queued ∨ u.dispatch = .assigned) ∧ u.returns = k.returns ∧ u.excluded = k.excluded
          ∧ u.takeClass = k.takeClass))

/-- A pedal moves to the tail of the held-pedal order on a press and leaves it on a release; on an enabled port with a current take
the transport becomes what the governing pedal calls for, but for a release of another pedal after a stop by the part, and for
HOLDING under PLAY; a PLAY press makes an ASSIGNED take IN_WORK (R135, R136).  What a disabled port does with its pedals is the
model's choice (notes/assumptions/18.md). -/
def Obligations.PedalsGovernTheTransport : Prop :=
  ∀ (s : State) (n : StationId) (p : Pedal) (press : Bool), s.link.device = .ready →
    let i : Instr := match p with | .play => .playPedal n press | .fwd => .fwdPedal n press | .back => .backPedal n press
    let st := s.stations.get n
    let held := if press then st.pedals.erase p ++ [p] else st.pedals.erase p
    let wanted : Transport := match held.getLast? with
      | some .play => .playing | some .fwd => .scanFwd | some .back => .scanBack | none => .stopped
    Moves i s fun v => let w := v.stations.get n
      w.pedals = held ∧ w.link = .present ∧ w.silenceTimer = some 0 ∧ w.config = st.config ∧ w.takes = st.takes
      ∧ v.channels = s.channels ∧ v.sessions = s.sessions ∧ v.store = s.store ∧ v.marks = s.marks ∧ v.queue = s.queue
      ∧ (st.config.enable = false ∨ s.currentOf n = none → w.transport = st.transport ∧ v.takes = s.takes)
      ∧ ∀ t x, st.config.enable = true → s.currentOf n = some (t, x) →
        (press = true → w.status = .none)
        ∧ (w.transport =
          if (st.stoppedByPart = true ∧ press = false ∧ st.pedals.getLast? ≠ some p)
              ∨ (st.transport = .holding ∧ wanted = .playing) then st.transport else wanted)
        ∧ (∃ u, v.take? t.ref = some u
          ∧ u = { t with dispatch :=
              if press = true ∧ p = .play ∧ t.dispatch = .assigned then .inWork else t.dispatch })

/-- The keys of an enabled port on their press: DONE types an IN_WORK closed take and otherwise says why not; RETURN gives the take
back, off the list and to the head of its class or, the third time, to HELD; READY toggles the accepting flag; NOTE marks the
cursor frame.  A release, and any key of a disabled port, acts on the link state alone (R105, R107, R116, R130, R143, R144, R146).
The premise of DONE and RETURN is the dispatch invariant. -/
def Obligations.KeysActOnTheCurrentTake : Prop :=
  ∀ (s : State) (n : StationId), s.link.device = .ready → let st := s.stations.get n
    let heard : Station := if st.link = .present then { st with silenceTimer := some 0 }
      else { st with silenceTimer := some 0, link := .present, reclaimTimer := none }
    let status (i : Instr) (e : StationStatus) : Prop := Leaves i s fun t =>
      t.offLine = (s.modStation n fun _ => { heard with status := e, statusMark := none }).offLine
    (∀ i press, i = .doneKey n press ∨ i = .returnKey n press ∨ i = .readyKey n press ∨ i = .noteKey n press →
      press = false ∨ st.config.enable = false → Leaves i s fun t => t.offLine = (s.modStation n fun _ => heard).offLine)
    ∧ (st.config.enable = true →
      (Leaves (.readyKey n true) s fun t => (t.stations.get n).accepting = (!st.accepting)
        ∧ (s.hears .station → t.told .station (.station n))
        ∧ (st.accepting = true → t.offLine = (s.modStation n fun _ => { heard with accepting := false }).offLine))
      ∧ (s.currentOf n = none → status (.doneKey n true) .noTake ∧ status (.returnKey n true) .noTake
          ∧ status (.noteKey n true) .noTake)
      ∧ ∀ k x, s.currentOf n = some (k, x) →
        let left (t : State) : Prop := k.ref ∉ (t.stations.get n).takes
          ∧ ∃ more, (t.stations.get n).takes = st.takes.tail ++ more ∧ ∀ q ∈ more, q ∈ s.queue
        (k.dispatch = .assigned → status (.doneKey n true) .notYetPlayed)
        ∧ (k.dispatch ≠ .assigned → k.capture = .opened → status (.doneKey n true) .stillRecording)
        ∧ (s.DispatchInv → k.dispatch ≠ .assigned → k.capture = .closed → Leaves (.doneKey n true) s fun t =>
          (t.stations.get n).status = .typed ∧ t.channels = s.channels ∧ t.sessions = s.sessions ∧ t.marks = s.marks
          ∧ t.take? k.ref = some { k with dispatch := .typed, station := none } ∧ left t ∧ List.Sublist t.queue s.queue)
        ∧ (s.DispatchInv → Leaves (.returnKey n true) s fun t =>
          t.channels = s.channels ∧ t.sessions = s.sessions ∧ t.marks = s.marks ∧ left t
          ∧ ∃ u, t.take? k.ref = some u ∧ u.returns = min 3 (k.returns + 1) ∧ u.excluded = some n ∧ u.takeClass = k.takeClass
            ∧ (k.returns < 2 → (t.stations.get n).status = .returned ∧ u.station ≠ some n
                ∧ ((u.dispatch = .queued ∧ k.ref ∈ t.queue) ∨ (u.dispatch = .assigned ∧ k.ref ∉ t.queue))
                ∧ ∃ a b, s.queue = a ++ b ∧ List.Sublist t.queue (a ++ k.ref :: b)
                  ∧ ((∀ o, o ≠ n → (s.stations.get o).wanting = false) → st.accepting = false →
                    t.queue = a ++ k.ref :: b)
                  ∧ (∀ q ∈ a, s.classOf q < k.takeClass.code) ∧ ∀ q, b.head? = some q → k.takeClass.code ≤ s.classOf q)
            ∧ (2 ≤ k.returns → (t.stations.get n).status = .held ∧ u.dispatch = .held ∧ u.station = none
                ∧ List.Sublist t.queue s.queue))
        ∧ ∀ f, st.cursor = some f → Leaves (.noteKey n true) s fun t =>
          ((t.stations.get n).status = .noteAdded ∨ (t.stations.get n).status = .noteMerged
            ∨ (t.stations.get n).status = .noteDropped)
          ∧ t.channels = s.channels ∧ t.takes = s.takes ∧ t.ranges = s.ranges ∧ t.store = s.store
          ∧ ((∀ e ∈ s.marks, e.session = k.session → e.frame ≠ f) → x.markIssued < 65535 → s.marks.length < 1984 →
            (t.stations.get n).status = .noteAdded ∧ (t.stations.get n).statusMark = some (x.markIssued + 1)
            ∧ ∃ m ∈ t.marks, m.session = k.session ∧ m.number = x.markIssued + 1 ∧ m.frame = f ∧ m.kind = .note
              ∧ m.source = .station n ∧ m.tag = none))

/-- STATION_FRAME_TIME of an enabled port that is not STOPPED: the head entry is sent and the cursor becomes its frame; with nothing
buffered a closed take that has been handled ends, a reader at the stored head holds, and any other is an underrun, each but the
end of take sending silence.  A scan with nothing buffered is parked, steps by Y when X is 0, or has an underrun (R137 to R139,
R141).  That an entry carries the move that follows it, that a HOLDING station may come to the end of its take, that a scan at the
stored head has an underrun, and that HOLDING goes to PLAYING with what is buffered, are the model's choices
(notes/assumptions/17.md, 19.md, 21.md, 47.md). -/
def Obligations.StationFrameTimesPlay : Prop :=
  ∀ (s : State) (n : StationId), let st := s.stations.get n
    (s.link.device = .starting ∨ st.config.enable = false ∨ st.transport = .stopped → exec (.stationFrameTime n) s = .next s)
    ∧ (s.link.device = .ready → st.config.enable = true → st.transport ≠ .stopped →
      (∀ e rest, st.fifo = e :: rest → Moves (.stationFrameTime n) s fun v => let w := v.stations.get n
        w.fifo = rest ∧ w.audioWaiting = some (e.samples.getD (List.replicate 256 0)) ∧ w.underruns = st.underruns
        ∧ w.transport = (if st.transport = .holding then .playing else st.transport)
        ∧ (e.move = none → w.cursor = some e.frame ∧ w.cursorPlayed = true)
        ∧ (∀ m, e.move = some m → w.cursor = some m ∧ w.cursorPlayed = false)
        ∧ w.parked = st.parked
        ∧ (rest.length ≤ 2 → w.resting = false))
      ∧ (∀ t x, st.fifo = [] → s.currentOf n = some (t, x) → st.transport = .scanFwd ∨ st.transport = .scanBack →
        let silent : Station := { st with frameTimer := some 0, audioWaiting := some (List.replicate 256 0) }
        (st.parked = true → Moves (.stationFrameTime n) s fun v => v.stations.get n = silent)
        ∧ ∀ k p, st.parked = false → st.cycle = some k → st.cursor = some p →
          (k.scanPlay ≠ 0 → Moves (.stationFrameTime n) s fun v =>
            v.stations.get n = { silent with underruns := min 65535 (st.underruns + 1) })
          ∧ (k.scanPlay = 0 → st.config.scanPlay = 0 → Moves (.stationFrameTime n) s fun v => let w := v.stations.get n
            let ub := upperBound x t
            w.audioWaiting = silent.audioWaiting ∧ w.cursorPlayed = false ∧ w.underruns = st.underruns
            ∧ (st.transport = .scanFwd → ub < p + k.scanStride → w.cursor = some ub ∧ w.parked = true)
            ∧ (st.transport = .scanFwd → p + k.scanStride ≤ ub →
                w.cursor = some (landForward (s.playable st x) ub (p + k.scanStride)) ∧ w.parked = false)
            ∧ (st.transport = .scanBack → p < t.leadIn + k.scanStride →
                w.cursor = some (landBackward (s.playable st x) t.leadIn ub t.leadIn) ∧ w.parked = true)
            ∧ (st.transport = .scanBack → t.leadIn + k.scanStride ≤ p →
                w.cursor = some (landBackward (s.playable st x) t.leadIn ub (p - k.scanStride)) ∧ w.parked = false)))
      ∧ ∀ t x, st.fifo = [] → s.currentOf n = some (t, x) → st.transport = .playing ∨ st.transport = .holding →
        (∀ e, t.stop = some e → st.reader = .stopped → Moves (.stationFrameTime n) s fun v => let w := v.stations.get n
          w.cursor = some e ∧ w.cursorPlayed = true ∧ w.transport = .stopped ∧ w.stoppedByPart = true
          ∧ w.status = .endOfTake ∧ w.audioWaiting = none ∧ w.underruns = st.underruns)
        ∧ (st.reader = .waiting → Moves (.stationFrameTime n) s fun v => let w := v.stations.get n
          w.transport = .holding ∧ w.audioWaiting = some (List.replicate 256 0) ∧ w.cursor = st.cursor
          ∧ w.underruns = st.underruns)
        ∧ (∀ f b slot, st.reader = .request f b slot → st.transport = .playing → Moves (.stationFrameTime n) s fun v =>
          let w := v.stations.get n
          w.transport = .playing ∧ w.audioWaiting = some (List.replicate 256 0) ∧ w.cursor = st.cursor
          ∧ w.underruns = min 65535 (st.underruns + 1)))

/-- The packets of a station line: the refresh timer makes a STATE packet due, which begins when the line is free, with the body of
R201; a packet sent frees the line, a STATE packet restarts the refresh timer and clears the skip flag it carried.  A waiting AUDIO
packet goes next, but only from an enabled port that is not STOPPED; otherwise it is not sent (R129, R147, R201, R202).  That AUDIO
goes before a STATE packet due with it is the model's choice (notes/assumptions/58.md). -/
def Obligations.StationLinesSendPackets : Prop :=
  ∀ (s : State) (n : StationId), let st := s.stations.get n
    let sends : Prop := st.config.enable = true ∧ st.transport ≠ .stopped
    let quiet : Prop := st.audioWaiting = none ∨ ¬ sends
    let current := (s.currentOf n).map (·.1)
    let body (skip : Bool) : List Byte :=
      u8 st.link.code ++ yesNo st.config.enable ++ yesNo st.accepting ++ u8 st.transport.code ++ yesNo st.parked
        ++ num16 (st.takes.head?.map (·.session)) ++ num16 (st.takes.head?.map (·.number))
        ++ opt8 (current.map (·.capture.code)) ++ opt8 (current.map (·.dispatch.code)) ++ opt8 (current.map (·.takeClass.code))
        ++ opt32 st.cursor ++ yesNo st.cursorPlayed ++ u8 st.takes.length ++ u8 st.config.depth ++ u8 st.status.code
        ++ num16 st.statusMark ++ yesNo skip ++ st.config.text
    (s.link.device = .ready → Leaves (.stateRefreshTimer n) s fun t =>
      t.offLine = s.offLine
      ∧ (st.line = none → quiet → (t.stations.get n).line = some (.state (body st.skipFlag) st.skipFlag))
      ∧ (st.line ≠ none → (t.stations.get n).line = st.line ∧ (t.stations.get n).stateDue = true))
    ∧ (s.link.device = .starting → exec (.stateRefreshTimer n) s = .next s)
    ∧ (∀ sent skip, st.line = some (.state sent skip) → Leaves (.statePacketSent n) s fun t =>
      t.offLine = (s.modStation n fun st => { st with stateTimer := some 0, skipFlag := st.skipFlag && !skip }).offLine
      ∧ (s.link.device = .ready →
        (∀ a, sends → st.audioWaiting = some a → (t.stations.get n).line = some (.audio a))
        ∧ (quiet → (t.stations.get n).audioWaiting = none ∧ ∀ a, (t.stations.get n).line ≠ some (.audio a))
        ∧ (quiet → st.stateDue = true → (t.stations.get n).line
          = some (.state (body (st.skipFlag && !skip)) (st.skipFlag && !skip)))))
    ∧ (∀ samples, st.line = some (.audio samples) → Leaves (.audioPacketSent n) s fun t =>
      t.offLine = s.offLine
      ∧ (s.link.device = .ready →
        (∀ a, sends → st.audioWaiting = some a → (t.stations.get n).line = some (.audio a))
        ∧ (quiet → (t.stations.get n).audioWaiting = none ∧ ∀ a, (t.stations.get n).line ≠ some (.audio a))
        ∧ (quiet → st.stateDue = true → (t.stations.get n).line = some (.state (body st.skipFlag) st.skipFlag))))
end

