-- ==== Sys2Proof/Laws/State.lean ====
section
/-! SUPPORT. One lemma for each field of the state and each named update of it, all by `rfl` and all for `simp`, so that no
proof unfolds a record update. -/

namespace Sys2Proof.Machine

variable (s : State)

/-! ### modChannel -/

@[simp] theorem State.modChannel_channels (c : ChannelId) (f : Channel → Channel) :
    (s.modChannel c f).channels = s.channels.set c (f (s.channels.get c)) := rfl
@[simp] theorem State.modChannel_sessions (c : ChannelId) (f : Channel → Channel) :
    (s.modChannel c f).sessions = s.sessions := rfl
@[simp] theorem State.modChannel_lastSession (c : ChannelId) (f : Channel → Channel) :
    (s.modChannel c f).lastSession = s.lastSession := rfl
@[simp] theorem State.modChannel_store (c : ChannelId) (f : Channel → Channel) :
    (s.modChannel c f).store = s.store := rfl
@[simp] theorem State.modChannel_takes (c : ChannelId) (f : Channel → Channel) :
    (s.modChannel c f).takes = s.takes := rfl
@[simp] theorem State.modChannel_marks (c : ChannelId) (f : Channel → Channel) :
    (s.modChannel c f).marks = s.marks := rfl
@[simp] theorem State.modChannel_ranges (c : ChannelId) (f : Channel → Channel) :
    (s.modChannel c f).ranges = s.ranges := rfl
@[simp] theorem State.modChannel_queue (c : ChannelId) (f : Channel → Channel) :
    (s.modChannel c f).queue = s.queue := rfl
@[simp] theorem State.modChannel_rotation (c : ChannelId) (f : Channel → Channel) :
    (s.modChannel c f).rotation = s.rotation := rfl
@[simp] theorem State.modChannel_stations (c : ChannelId) (f : Channel → Channel) :
    (s.modChannel c f).stations = s.stations := rfl
@[simp] theorem State.modChannel_readback (c : ChannelId) (f : Channel → Channel) :
    (s.modChannel c f).readback = s.readback := rfl
@[simp] theorem State.modChannel_arbiter (c : ChannelId) (f : Channel → Channel) :
    (s.modChannel c f).arbiter = s.arbiter := rfl
@[simp] theorem State.modChannel_link (c : ChannelId) (f : Channel → Channel) : (s.modChannel c f).link = s.link := rfl
@[simp] theorem State.modChannel_exporter (c : ChannelId) (f : Channel → Channel) :
    (s.modChannel c f).exporter = s.exporter := rfl
@[simp] theorem State.modChannel_pending (c : ChannelId) (f : Channel → Channel) :
    (s.modChannel c f).pending = s.pending := rfl

/-! ### modStation -/

@[simp] theorem State.modStation_channels (n : StationId) (f : Station → Station) :
    (s.modStation n f).channels = s.channels := rfl
@[simp] theorem State.modStation_sessions (n : StationId) (f : Station → Station) :
    (s.modStation n f).sessions = s.sessions := rfl
@[simp] theorem State.modStation_lastSession (n : StationId) (f : Station → Station) :
    (s.modStation n f).lastSession = s.lastSession := rfl
@[simp] theorem State.modStation_store (n : StationId) (f : Station → Station) :
    (s.modStation n f).store = s.store := rfl
@[simp] theorem State.modStation_takes (n : StationId) (f : Station → Station) :
    (s.modStation n f).takes = s.takes := rfl
@[simp] theorem State.modStation_marks (n : StationId) (f : Station → Station) :
    (s.modStation n f).marks = s.marks := rfl
@[simp] theorem State.modStation_ranges (n : StationId) (f : Station → Station) :
    (s.modStation n f).ranges = s.ranges := rfl
@[simp] theorem State.modStation_queue (n : StationId) (f : Station → Station) :
    (s.modStation n f).queue = s.queue := rfl
@[simp] theorem State.modStation_rotation (n : StationId) (f : Station → Station) :
    (s.modStation n f).rotation = s.rotation := rfl
@[simp] theorem State.modStation_stations (n : StationId) (f : Station → Station) :
    (s.modStation n f).stations = s.stations.set n (f (s.stations.get n)) := rfl
@[simp] theorem State.modStation_readback (n : StationId) (f : Station → Station) :
    (s.modStation n f).readback = s.readback := rfl
@[simp] theorem State.modStation_arbiter (n : StationId) (f : Station → Station) :
    (s.modStation n f).arbiter = s.arbiter := rfl
@[simp] theorem State.modStation_link (n : StationId) (f : Station → Station) : (s.modStation n f).link = s.link := rfl
@[simp] theorem State.modStation_exporter (n : StationId) (f : Station → Station) :
    (s.modStation n f).exporter = s.exporter := rfl
@[simp] theorem State.modStation_pending (n : StationId) (f : Station → Station) :
    (s.modStation n f).pending = s.pending := rfl

/-! ### modReadback -/

@[simp] theorem State.modReadback_channels (c : ChannelId) (f : Readback → Readback) :
    (s.modReadback c f).channels = s.channels := rfl
@[simp] theorem State.modReadback_sessions (c : ChannelId) (f : Readback → Readback) :
    (s.modReadback c f).sessions = s.sessions := rfl
@[simp] theorem State.modReadback_lastSession (c : ChannelId) (f : Readback → Readback) :
    (s.modReadback c f).lastSession = s.lastSession := rfl
@[simp] theorem State.modReadback_store (c : ChannelId) (f : Readback → Readback) :
    (s.modReadback c f).store = s.store := rfl
@[simp] theorem State.modReadback_takes (c : ChannelId) (f : Readback → Readback) :
    (s.modReadback c f).takes = s.takes := rfl
@[simp] theorem State.modReadback_marks (c : ChannelId) (f : Readback → Readback) :
    (s.modReadback c f).marks = s.marks := rfl
@[simp] theorem State.modReadback_ranges (c : ChannelId) (f : Readback → Readback) :
    (s.modReadback c f).ranges = s.ranges := rfl
@[simp] theorem State.modReadback_queue (c : ChannelId) (f : Readback → Readback) :
    (s.modReadback c f).queue = s.queue := rfl
@[simp] theorem State.modReadback_rotation (c : ChannelId) (f : Readback → Readback) :
    (s.modReadback c f).rotation = s.rotation := rfl
@[simp] theorem State.modReadback_stations (c : ChannelId) (f : Readback → Readback) :
    (s.modReadback c f).stations = s.stations := rfl
@[simp] theorem State.modReadback_readback (c : ChannelId) (f : Readback → Readback) :
    (s.modReadback c f).readback = s.readback.set c (f (s.readback.get c)) := rfl
@[simp] theorem State.modReadback_arbiter (c : ChannelId) (f : Readback → Readback) :
    (s.modReadback c f).arbiter = s.arbiter := rfl
@[simp] theorem State.modReadback_link (c : ChannelId) (f : Readback → Readback) :
    (s.modReadback c f).link = s.link := rfl
@[simp] theorem State.modReadback_exporter (c : ChannelId) (f : Readback → Readback) :
    (s.modReadback c f).exporter = s.exporter := rfl
@[simp] theorem State.modReadback_pending (c : ChannelId) (f : Readback → Readback) :
    (s.modReadback c f).pending = s.pending := rfl

/-! ### modLink -/

@[simp] theorem State.modLink_channels (f : Link → Link) : (s.modLink f).channels = s.channels := rfl
@[simp] theorem State.modLink_sessions (f : Link → Link) : (s.modLink f).sessions = s.sessions := rfl
@[simp] theorem State.modLink_lastSession (f : Link → Link) : (s.modLink f).lastSession = s.lastSession := rfl
@[simp] theorem State.modLink_store (f : Link → Link) : (s.modLink f).store = s.store := rfl
@[simp] theorem State.modLink_takes (f : Link → Link) : (s.modLink f).takes = s.takes := rfl
@[simp] theorem State.modLink_marks (f : Link → Link) : (s.modLink f).marks = s.marks := rfl
@[simp] theorem State.modLink_ranges (f : Link → Link) : (s.modLink f).ranges = s.ranges := rfl
@[simp] theorem State.modLink_queue (f : Link → Link) : (s.modLink f).queue = s.queue := rfl
@[simp] theorem State.modLink_rotation (f : Link → Link) : (s.modLink f).rotation = s.rotation := rfl
@[simp] theorem State.modLink_stations (f : Link → Link) : (s.modLink f).stations = s.stations := rfl
@[simp] theorem State.modLink_readback (f : Link → Link) : (s.modLink f).readback = s.readback := rfl
@[simp] theorem State.modLink_arbiter (f : Link → Link) : (s.modLink f).arbiter = s.arbiter := rfl
@[simp] theorem State.modLink_link (f : Link → Link) : (s.modLink f).link = f s.link := rfl
@[simp] theorem State.modLink_exporter (f : Link → Link) : (s.modLink f).exporter = s.exporter := rfl
@[simp] theorem State.modLink_pending (f : Link → Link) : (s.modLink f).pending = s.pending := rfl

/-! ### modStore -/

@[simp] theorem State.modStore_channels (f : Store → Store) : (s.modStore f).channels = s.channels := rfl
@[simp] theorem State.modStore_sessions (f : Store → Store) : (s.modStore f).sessions = s.sessions := rfl
@[simp] theorem State.modStore_lastSession (f : Store → Store) : (s.modStore f).lastSession = s.lastSession := rfl
@[simp] theorem State.modStore_store (f : Store → Store) : (s.modStore f).store = f s.store := rfl
@[simp] theorem State.modStore_takes (f : Store → Store) : (s.modStore f).takes = s.takes := rfl
@[simp] theorem State.modStore_marks (f : Store → Store) : (s.modStore f).marks = s.marks := rfl
@[simp] theorem State.modStore_ranges (f : Store → Store) : (s.modStore f).ranges = s.ranges := rfl
@[simp] theorem State.modStore_queue (f : Store → Store) : (s.modStore f).queue = s.queue := rfl
@[simp] theorem State.modStore_rotation (f : Store → Store) : (s.modStore f).rotation = s.rotation := rfl
@[simp] theorem State.modStore_stations (f : Store → Store) : (s.modStore f).stations = s.stations := rfl
@[simp] theorem State.modStore_readback (f : Store → Store) : (s.modStore f).readback = s.readback := rfl
@[simp] theorem State.modStore_arbiter (f : Store → Store) : (s.modStore f).arbiter = s.arbiter := rfl
@[simp] theorem State.modStore_link (f : Store → Store) : (s.modStore f).link = s.link := rfl
@[simp] theorem State.modStore_exporter (f : Store → Store) : (s.modStore f).exporter = s.exporter := rfl
@[simp] theorem State.modStore_pending (f : Store → Store) : (s.modStore f).pending = s.pending := rfl

/-! ### modArbiter -/

@[simp] theorem State.modArbiter_channels (f : Arbiter → Arbiter) : (s.modArbiter f).channels = s.channels := rfl
@[simp] theorem State.modArbiter_sessions (f : Arbiter → Arbiter) : (s.modArbiter f).sessions = s.sessions := rfl
@[simp] theorem State.modArbiter_lastSession (f : Arbiter → Arbiter) :
    (s.modArbiter f).lastSession = s.lastSession := rfl
@[simp] theorem State.modArbiter_store (f : Arbiter → Arbiter) : (s.modArbiter f).store = s.store := rfl
@[simp] theorem State.modArbiter_takes (f : Arbiter → Arbiter) : (s.modArbiter f).takes = s.takes := rfl
@[simp] theorem State.modArbiter_marks (f : Arbiter → Arbiter) : (s.modArbiter f).marks = s.marks := rfl
@[simp] theorem State.modArbiter_ranges (f : Arbiter → Arbiter) : (s.modArbiter f).ranges = s.ranges := rfl
@[simp] theorem State.modArbiter_queue (f : Arbiter → Arbiter) : (s.modArbiter f).queue = s.queue := rfl
@[simp] theorem State.modArbiter_rotation (f : Arbiter → Arbiter) : (s.modArbiter f).rotation = s.rotation := rfl
@[simp] theorem State.modArbiter_stations (f : Arbiter → Arbiter) : (s.modArbiter f).stations = s.stations := rfl
@[simp] theorem State.modArbiter_readback (f : Arbiter → Arbiter) : (s.modArbiter f).readback = s.readback := rfl
@[simp] theorem State.modArbiter_arbiter (f : Arbiter → Arbiter) : (s.modArbiter f).arbiter = f s.arbiter := rfl
@[simp] theorem State.modArbiter_link (f : Arbiter → Arbiter) : (s.modArbiter f).link = s.link := rfl
@[simp] theorem State.modArbiter_exporter (f : Arbiter → Arbiter) : (s.modArbiter f).exporter = s.exporter := rfl
@[simp] theorem State.modArbiter_pending (f : Arbiter → Arbiter) : (s.modArbiter f).pending = s.pending := rfl

/-! ### modExporter -/

@[simp] theorem State.modExporter_channels (f : Exporter → Exporter) : (s.modExporter f).channels = s.channels := rfl
@[simp] theorem State.modExporter_sessions (f : Exporter → Exporter) : (s.modExporter f).sessions = s.sessions := rfl
@[simp] theorem State.modExporter_lastSession (f : Exporter → Exporter) :
    (s.modExporter f).lastSession = s.lastSession := rfl
@[simp] theorem State.modExporter_store (f : Exporter → Exporter) : (s.modExporter f).store = s.store := rfl
@[simp] theorem State.modExporter_takes (f : Exporter → Exporter) : (s.modExporter f).takes = s.takes := rfl
@[simp] theorem State.modExporter_marks (f : Exporter → Exporter) : (s.modExporter f).marks = s.marks := rfl
@[simp] theorem State.modExporter_ranges (f : Exporter → Exporter) : (s.modExporter f).ranges = s.ranges := rfl
@[simp] theorem State.modExporter_queue (f : Exporter → Exporter) : (s.modExporter f).queue = s.queue := rfl
@[simp] theorem State.modExporter_rotation (f : Exporter → Exporter) : (s.modExporter f).rotation = s.rotation := rfl
@[simp] theorem State.modExporter_stations (f : Exporter → Exporter) : (s.modExporter f).stations = s.stations := rfl
@[simp] theorem State.modExporter_readback (f : Exporter → Exporter) : (s.modExporter f).readback = s.readback := rfl
@[simp] theorem State.modExporter_arbiter (f : Exporter → Exporter) : (s.modExporter f).arbiter = s.arbiter := rfl
@[simp] theorem State.modExporter_link (f : Exporter → Exporter) : (s.modExporter f).link = s.link := rfl
@[simp] theorem State.modExporter_exporter (f : Exporter → Exporter) : (s.modExporter f).exporter = f s.exporter := rfl
@[simp] theorem State.modExporter_pending (f : Exporter → Exporter) : (s.modExporter f).pending = s.pending := rfl

/-! ### modSession -/

@[simp] theorem State.modSession_channels (n : Nat) (f : Session → Session) :
    (s.modSession n f).channels = s.channels := rfl
@[simp] theorem State.modSession_sessions (n : Nat) (f : Session → Session) :
    (s.modSession n f).sessions = s.sessions.map fun x => if x.number = n then f x else x := rfl
@[simp] theorem State.modSession_lastSession (n : Nat) (f : Session → Session) :
    (s.modSession n f).lastSession = s.lastSession := rfl
@[simp] theorem State.modSession_store (n : Nat) (f : Session → Session) : (s.modSession n f).store = s.store := rfl
@[simp] theorem State.modSession_takes (n : Nat) (f : Session → Session) : (s.modSession n f).takes = s.takes := rfl
@[simp] theorem State.modSession_marks (n : Nat) (f : Session → Session) : (s.modSession n f).marks = s.marks := rfl
@[simp] theorem State.modSession_ranges (n : Nat) (f : Session → Session) : (s.modSession n f).ranges = s.ranges := rfl
@[simp] theorem State.modSession_queue (n : Nat) (f : Session → Session) : (s.modSession n f).queue = s.queue := rfl
@[simp] theorem State.modSession_rotation (n : Nat) (f : Session → Session) :
    (s.modSession n f).rotation = s.rotation := rfl
@[simp] theorem State.modSession_stations (n : Nat) (f : Session → Session) :
    (s.modSession n f).stations = s.stations := rfl
@[simp] theorem State.modSession_readback (n : Nat) (f : Session → Session) :
    (s.modSession n f).readback = s.readback := rfl
@[simp] theorem State.modSession_arbiter (n : Nat) (f : Session → Session) :
    (s.modSession n f).arbiter = s.arbiter := rfl
@[simp] theorem State.modSession_link (n : Nat) (f : Session → Session) : (s.modSession n f).link = s.link := rfl
@[simp] theorem State.modSession_exporter (n : Nat) (f : Session → Session) :
    (s.modSession n f).exporter = s.exporter := rfl
@[simp] theorem State.modSession_pending (n : Nat) (f : Session → Session) :
    (s.modSession n f).pending = s.pending := rfl

/-! ### modTake -/

@[simp] theorem State.modTake_channels (r : TakeRef) (f : Take → Take) : (s.modTake r f).channels = s.channels := rfl
@[simp] theorem State.modTake_sessions (r : TakeRef) (f : Take → Take) : (s.modTake r f).sessions = s.sessions := rfl
@[simp] theorem State.modTake_lastSession (r : TakeRef) (f : Take → Take) :
    (s.modTake r f).lastSession = s.lastSession := rfl
@[simp] theorem State.modTake_store (r : TakeRef) (f : Take → Take) : (s.modTake r f).store = s.store := rfl
@[simp] theorem State.modTake_takes (r : TakeRef) (f : Take → Take) :
    (s.modTake r f).takes = s.takes.map fun t => if t.session = r.session ∧ t.number = r.number then f t else t := rfl
@[simp] theorem State.modTake_marks (r : TakeRef) (f : Take → Take) : (s.modTake r f).marks = s.marks := rfl
@[simp] theorem State.modTake_ranges (r : TakeRef) (f : Take → Take) : (s.modTake r f).ranges = s.ranges := rfl
@[simp] theorem State.modTake_queue (r : TakeRef) (f : Take → Take) : (s.modTake r f).queue = s.queue := rfl
@[simp] theorem State.modTake_rotation (r : TakeRef) (f : Take → Take) : (s.modTake r f).rotation = s.rotation := rfl
@[simp] theorem State.modTake_stations (r : TakeRef) (f : Take → Take) : (s.modTake r f).stations = s.stations := rfl
@[simp] theorem State.modTake_readback (r : TakeRef) (f : Take → Take) : (s.modTake r f).readback = s.readback := rfl
@[simp] theorem State.modTake_arbiter (r : TakeRef) (f : Take → Take) : (s.modTake r f).arbiter = s.arbiter := rfl
@[simp] theorem State.modTake_link (r : TakeRef) (f : Take → Take) : (s.modTake r f).link = s.link := rfl
@[simp] theorem State.modTake_exporter (r : TakeRef) (f : Take → Take) : (s.modTake r f).exporter = s.exporter := rfl
@[simp] theorem State.modTake_pending (r : TakeRef) (f : Take → Take) : (s.modTake r f).pending = s.pending := rfl

/-! ### setMarks -/

@[simp] theorem State.setMarks_channels (l : List Mark) : (s.setMarks l).channels = s.channels := rfl
@[simp] theorem State.setMarks_sessions (l : List Mark) : (s.setMarks l).sessions = s.sessions := rfl
@[simp] theorem State.setMarks_lastSession (l : List Mark) : (s.setMarks l).lastSession = s.lastSession := rfl
@[simp] theorem State.setMarks_store (l : List Mark) : (s.setMarks l).store = s.store := rfl
@[simp] theorem State.setMarks_takes (l : List Mark) : (s.setMarks l).takes = s.takes := rfl
@[simp] theorem State.setMarks_marks (l : List Mark) : (s.setMarks l).marks = l := rfl
@[simp] theorem State.setMarks_ranges (l : List Mark) : (s.setMarks l).ranges = s.ranges := rfl
@[simp] theorem State.setMarks_queue (l : List Mark) : (s.setMarks l).queue = s.queue := rfl
@[simp] theorem State.setMarks_rotation (l : List Mark) : (s.setMarks l).rotation = s.rotation := rfl
@[simp] theorem State.setMarks_stations (l : List Mark) : (s.setMarks l).stations = s.stations := rfl
@[simp] theorem State.setMarks_readback (l : List Mark) : (s.setMarks l).readback = s.readback := rfl
@[simp] theorem State.setMarks_arbiter (l : List Mark) : (s.setMarks l).arbiter = s.arbiter := rfl
@[simp] theorem State.setMarks_link (l : List Mark) : (s.setMarks l).link = s.link := rfl
@[simp] theorem State.setMarks_exporter (l : List Mark) : (s.setMarks l).exporter = s.exporter := rfl
@[simp] theorem State.setMarks_pending (l : List Mark) : (s.setMarks l).pending = s.pending := rfl

/-! ### setRanges -/

@[simp] theorem State.setRanges_channels (l : List Range) : (s.setRanges l).channels = s.channels := rfl
@[simp] theorem State.setRanges_sessions (l : List Range) : (s.setRanges l).sessions = s.sessions := rfl
@[simp] theorem State.setRanges_lastSession (l : List Range) : (s.setRanges l).lastSession = s.lastSession := rfl
@[simp] theorem State.setRanges_store (l : List Range) : (s.setRanges l).store = s.store := rfl
@[simp] theorem State.setRanges_takes (l : List Range) : (s.setRanges l).takes = s.takes := rfl
@[simp] theorem State.setRanges_marks (l : List Range) : (s.setRanges l).marks = s.marks := rfl
@[simp] theorem State.setRanges_ranges (l : List Range) : (s.setRanges l).ranges = l := rfl
@[simp] theorem State.setRanges_queue (l : List Range) : (s.setRanges l).queue = s.queue := rfl
@[simp] theorem State.setRanges_rotation (l : List Range) : (s.setRanges l).rotation = s.rotation := rfl
@[simp] theorem State.setRanges_stations (l : List Range) : (s.setRanges l).stations = s.stations := rfl
@[simp] theorem State.setRanges_readback (l : List Range) : (s.setRanges l).readback = s.readback := rfl
@[simp] theorem State.setRanges_arbiter (l : List Range) : (s.setRanges l).arbiter = s.arbiter := rfl
@[simp] theorem State.setRanges_link (l : List Range) : (s.setRanges l).link = s.link := rfl
@[simp] theorem State.setRanges_exporter (l : List Range) : (s.setRanges l).exporter = s.exporter := rfl
@[simp] theorem State.setRanges_pending (l : List Range) : (s.setRanges l).pending = s.pending := rfl

/-! ### setQueue -/

@[simp] theorem State.setQueue_channels (l : List TakeRef) : (s.setQueue l).channels = s.channels := rfl
@[simp] theorem State.setQueue_sessions (l : List TakeRef) : (s.setQueue l).sessions = s.sessions := rfl
@[simp] theorem State.setQueue_lastSession (l : List TakeRef) : (s.setQueue l).lastSession = s.lastSession := rfl
@[simp] theorem State.setQueue_store (l : List TakeRef) : (s.setQueue l).store = s.store := rfl
@[simp] theorem State.setQueue_takes (l : List TakeRef) : (s.setQueue l).takes = s.takes := rfl
@[simp] theorem State.setQueue_marks (l : List TakeRef) : (s.setQueue l).marks = s.marks := rfl
@[simp] theorem State.setQueue_ranges (l : List TakeRef) : (s.setQueue l).ranges = s.ranges := rfl
@[simp] theorem State.setQueue_queue (l : List TakeRef) : (s.setQueue l).queue = l := rfl
@[simp] theorem State.setQueue_rotation (l : List TakeRef) : (s.setQueue l).rotation = s.rotation := rfl
@[simp] theorem State.setQueue_stations (l : List TakeRef) : (s.setQueue l).stations = s.stations := rfl
@[simp] theorem State.setQueue_readback (l : List TakeRef) : (s.setQueue l).readback = s.readback := rfl
@[simp] theorem State.setQueue_arbiter (l : List TakeRef) : (s.setQueue l).arbiter = s.arbiter := rfl
@[simp] theorem State.setQueue_link (l : List TakeRef) : (s.setQueue l).link = s.link := rfl
@[simp] theorem State.setQueue_exporter (l : List TakeRef) : (s.setQueue l).exporter = s.exporter := rfl
@[simp] theorem State.setQueue_pending (l : List TakeRef) : (s.setQueue l).pending = s.pending := rfl

/-! ### setTakes -/

@[simp] theorem State.setTakes_channels (l : List Take) : (s.setTakes l).channels = s.channels := rfl
@[simp] theorem State.setTakes_sessions (l : List Take) : (s.setTakes l).sessions = s.sessions := rfl
@[simp] theorem State.setTakes_lastSession (l : List Take) : (s.setTakes l).lastSession = s.lastSession := rfl
@[simp] theorem State.setTakes_store (l : List Take) : (s.setTakes l).store = s.store := rfl
@[simp] theorem State.setTakes_takes (l : List Take) : (s.setTakes l).takes = l := rfl
@[simp] theorem State.setTakes_marks (l : List Take) : (s.setTakes l).marks = s.marks := rfl
@[simp] theorem State.setTakes_ranges (l : List Take) : (s.setTakes l).ranges = s.ranges := rfl
@[simp] theorem State.setTakes_queue (l : List Take) : (s.setTakes l).queue = s.queue := rfl
@[simp] theorem State.setTakes_rotation (l : List Take) : (s.setTakes l).rotation = s.rotation := rfl
@[simp] theorem State.setTakes_stations (l : List Take) : (s.setTakes l).stations = s.stations := rfl
@[simp] theorem State.setTakes_readback (l : List Take) : (s.setTakes l).readback = s.readback := rfl
@[simp] theorem State.setTakes_arbiter (l : List Take) : (s.setTakes l).arbiter = s.arbiter := rfl
@[simp] theorem State.setTakes_link (l : List Take) : (s.setTakes l).link = s.link := rfl
@[simp] theorem State.setTakes_exporter (l : List Take) : (s.setTakes l).exporter = s.exporter := rfl
@[simp] theorem State.setTakes_pending (l : List Take) : (s.setTakes l).pending = s.pending := rfl

/-! ### setSessions -/

@[simp] theorem State.setSessions_channels (l : List Session) : (s.setSessions l).channels = s.channels := rfl
@[simp] theorem State.setSessions_sessions (l : List Session) : (s.setSessions l).sessions = l := rfl
@[simp] theorem State.setSessions_lastSession (l : List Session) : (s.setSessions l).lastSession = s.lastSession := rfl
@[simp] theorem State.setSessions_store (l : List Session) : (s.setSessions l).store = s.store := rfl
@[simp] theorem State.setSessions_takes (l : List Session) : (s.setSessions l).takes = s.takes := rfl
@[simp] theorem State.setSessions_marks (l : List Session) : (s.setSessions l).marks = s.marks := rfl
@[simp] theorem State.setSessions_ranges (l : List Session) : (s.setSessions l).ranges = s.ranges := rfl
@[simp] theorem State.setSessions_queue (l : List Session) : (s.setSessions l).queue = s.queue := rfl
@[simp] theorem State.setSessions_rotation (l : List Session) : (s.setSessions l).rotation = s.rotation := rfl
@[simp] theorem State.setSessions_stations (l : List Session) : (s.setSessions l).stations = s.stations := rfl
@[simp] theorem State.setSessions_readback (l : List Session) : (s.setSessions l).readback = s.readback := rfl
@[simp] theorem State.setSessions_arbiter (l : List Session) : (s.setSessions l).arbiter = s.arbiter := rfl
@[simp] theorem State.setSessions_link (l : List Session) : (s.setSessions l).link = s.link := rfl
@[simp] theorem State.setSessions_exporter (l : List Session) : (s.setSessions l).exporter = s.exporter := rfl
@[simp] theorem State.setSessions_pending (l : List Session) : (s.setSessions l).pending = s.pending := rfl

/-! ### The changed part itself -/

@[simp] theorem State.modChannel_get_self (c : ChannelId) (f : Channel → Channel) :
    (s.modChannel c f).channels.get c = f (s.channels.get c) := by simp
@[simp] theorem State.modStation_get_self (n : StationId) (f : Station → Station) :
    (s.modStation n f).stations.get n = f (s.stations.get n) := by simp
@[simp] theorem State.modReadback_get_self (c : ChannelId) (f : Readback → Readback) :
    (s.modReadback c f).readback.get c = f (s.readback.get c) := by simp

theorem State.modChannel_get_ne {c d : ChannelId} (f : Channel → Channel) (h : d ≠ c) :
    (s.modChannel c f).channels.get d = s.channels.get d := PerChannel.get_set_ne _ _ h
theorem State.modStation_get_ne {m n : StationId} (f : Station → Station) (h : n ≠ m) :
    (s.modStation m f).stations.get n = s.stations.get n := PerStation.get_set_ne _ _ h
theorem State.modReadback_get_ne {c d : ChannelId} (f : Readback → Readback) (h : d ≠ c) :
    (s.modReadback c f).readback.get d = s.readback.get d := PerChannel.get_set_ne _ _ h

/-- A change of a session that keeps its number keeps the numbers of the table. -/
theorem State.modSession_numbers (n : Nat) (f : Session → Session) (h : ∀ x, (f x).number = x.number) :
    (s.modSession n f).sessions.map (·.number) = s.sessions.map (·.number) := by
  simp only [State.modSession_sessions, List.map_map]
  refine List.map_congr_left fun x _ => ?_
  by_cases hx : x.number = n <;> simp [hx, h]

/-! ### Notices change the link alone -/

variable (k : NoticeKind) (sub : Subject) (contents : List Byte)

@[simp] theorem State.raise_channels : (s.raise k sub contents).channels = s.channels := rfl
@[simp] theorem State.raise_sessions : (s.raise k sub contents).sessions = s.sessions := rfl
@[simp] theorem State.raise_lastSession : (s.raise k sub contents).lastSession = s.lastSession := rfl
@[simp] theorem State.raise_store : (s.raise k sub contents).store = s.store := rfl
@[simp] theorem State.raise_takes : (s.raise k sub contents).takes = s.takes := rfl
@[simp] theorem State.raise_marks : (s.raise k sub contents).marks = s.marks := rfl
@[simp] theorem State.raise_ranges : (s.raise k sub contents).ranges = s.ranges := rfl
@[simp] theorem State.raise_queue : (s.raise k sub contents).queue = s.queue := rfl
@[simp] theorem State.raise_rotation : (s.raise k sub contents).rotation = s.rotation := rfl
@[simp] theorem State.raise_stations : (s.raise k sub contents).stations = s.stations := rfl
@[simp] theorem State.raise_readback : (s.raise k sub contents).readback = s.readback := rfl
@[simp] theorem State.raise_arbiter : (s.raise k sub contents).arbiter = s.arbiter := rfl
@[simp] theorem State.raise_exporter : (s.raise k sub contents).exporter = s.exporter := rfl
@[simp] theorem State.raise_pending : (s.raise k sub contents).pending = s.pending := rfl

theorem State.raise_link : (s.raise k sub contents).link = s.link.raise k sub contents := rfl

end Sys2Proof.Machine
end

