-- ==== Sys2Proof/Laws/Link.lean ====
section
/-! SUPPORT. What the shared operations of the link can do: raising a notice, sending on the lines at the end of a command, and
performing a request. -/

namespace Sys2Proof.Machine

/-! ### Notices (R182, R183) -/

/-- A notice of a masked kind is dropped. -/
theorem Link.raise_masked (l : Link) {k : NoticeKind} (sub : Subject) (contents : List Byte)
    (h : l.mask.getLsbD k.code = false) : l.raise k sub contents = l := by simp [Link.raise, h]

/-- Merging a notice into the set changes the set alone. -/
theorem Link.merge_eq (l : Link) (k : NoticeKind) (sub : Subject) (contents : List Byte) :
    l.merge k sub contents = { l with notices := (l.merge k sub contents).notices } := by
  unfold Link.merge; split <;> rfl

/-- Raising a notice changes the pending set and the dropped-notice count alone. -/
theorem Link.raise_eq (l : Link) (k : NoticeKind) (sub : Subject) (contents : List Byte) :
    l.raise k sub contents =
      { l with notices := (l.raise k sub contents).notices, dropped := (l.raise k sub contents).dropped } := by
  unfold Link.raise
  split
  · split
    · rw [Link.merge_eq]
    · simp only []; rw [Link.merge_eq]
  · rfl

@[simp] theorem Link.raise_offLine (l : Link) (k : NoticeKind) (sub : Subject) (contents : List Byte) :
    (l.raise k sub contents).offLine = l.offLine := by rw [Link.raise_eq]; rfl

@[simp] theorem Link.raise_line (l : Link) (k : NoticeKind) (sub : Subject) (contents : List Byte) :
    (l.raise k sub contents).line = l.line := by rw [Link.raise_eq]

@[simp] theorem Link.raise_inProgress (l : Link) (k : NoticeKind) (sub : Subject) (contents : List Byte) :
    (l.raise k sub contents).inProgress = l.inProgress := by rw [Link.raise_eq]

@[simp] theorem Link.raise_device (l : Link) (k : NoticeKind) (sub : Subject) (contents : List Byte) :
    (l.raise k sub contents).device = l.device := by rw [Link.raise_eq]

@[simp] theorem Link.raise_replies (l : Link) (k : NoticeKind) (sub : Subject) (contents : List Byte) :
    (l.raise k sub contents).replies = l.replies := by rw [Link.raise_eq]

/-- A raised notice moves nothing but notices. -/
@[simp] theorem State.raise_offLine (s : State) (k : NoticeKind) (sub : Subject) (contents : List Byte) :
    (s.raise k sub contents).offLine = s.offLine := by
  simp [State.offLine, State.raise_link]

/-! ### The lines at the end of a command (R147, R181) -/

/-- Two states that agree in everything but replies, notices, lines and the export FIFO have the same `offLine`. -/
theorem State.modLink_offLine (s : State) (f : Link → Link) (h : (f s.link).offLine = s.link.offLine) :
    (s.modLink f).offLine = s.offLine := by simp [State.offLine, h]

/-- The choice of the next outbound message moves nothing else. -/
@[simp] theorem State.transmit_offLine (s : State) : s.transmit.offLine = s.offLine := by
  unfold State.transmit
  repeat' split
  all_goals rfl

/-- The choice of the next outbound message leaves the request in progress as it is. -/
@[simp] theorem State.transmit_inProgress (s : State) : s.transmit.link.inProgress = s.link.inProgress := by
  unfold State.transmit
  repeat' split
  all_goals rfl

theorem State.modStation_offLine (s : State) (n : StationId) (f : Station → Station)
    (h : (f (s.stations.get n)).offLine = (s.stations.get n).offLine) : (s.modStation n f).offLine = s.offLine := by
  fin_cases n <;> simp_all [State.offLine, State.modStation, PerStation.set, PerStation.get]

theorem Station.startPacket_offLine (st : Station) (body : List Byte) :
    (st.startPacket body).offLine = st.offLine := by
  unfold Station.startPacket
  repeat' split
  all_goals rfl

@[simp] theorem State.stationLines_link (before s : State) : (State.stationLines before s).link = s.link := by
  unfold State.stationLines
  split
  · rfl
  · simp [allStations]

/-- The packets chosen for the station lines move nothing else. -/
@[simp] theorem State.stationLines_offLine (before s : State) : (State.stationLines before s).offLine = s.offLine := by
  unfold State.stationLines
  split
  · rfl
  · have step : ∀ (l : List StationId) (r : State), (l.foldl (fun r n => r.modStation n fun st =>
        { st with stateDue := st.stateDue || before.stateChanged s n }.startPacket (s.stateBody n)) r).offLine = r.offLine := by
      intro l
      induction l with
      | nil => intro r; rfl
      | cons n l ih =>
        intro r
        rw [List.foldl_cons, ih, State.modStation_offLine]
        rw [Station.startPacket_offLine]; rfl
    exact step _ _

/-- Sending at the end of a command moves nothing but the lines and what waits for them. -/
@[simp] theorem State.finish_offLine (before s : State) : (State.finish before s).offLine = s.offLine := by
  simp [State.finish]

@[simp] theorem State.finish_inProgress (before s : State) :
    (State.finish before s).link.inProgress = s.link.inProgress := by simp [State.finish]

/-! ### Requests (R179) -/

@[simp] theorem State.recordReply_offLine (s : State) (r : Reply) : (s.recordReply r).offLine = s.offLine := rfl

@[simp] theorem State.withRequest_offLine (s : State) (r : Request) : (s.withRequest r).offLine = s.offLine := by
  unfold State.withRequest; split <;> rfl

/-- The request a request command is performed as is the request in progress. -/
theorem State.withRequest_inProgress {s : State} {i : Instr} (h : s.admits i = true) (r : Request) :
    (s.withRequest (s.requestOr r)).link.inProgress = some ⟨s.requestOr r, none⟩ := by
  unfold State.admits at h
  unfold State.withRequest State.requestOr
  split
  · next p hp =>
    simp only [hp, Bool.and_eq_true, decide_eq_true_eq] at h
    obtain ⟨q, rep⟩ := p
    simp only at h
    simp [hp, h.1]
  · simp

@[simp] theorem State.withRequest_device (s : State) (r : Request) : (s.withRequest r).link.device = s.link.device := by
  unfold State.withRequest; split <;> rfl

/-- A request command that is taken runs its own rule on the state in which it is the request in progress, and its answer joins
the replies. -/
theorem State.performRequest_taken {s : State} {i : Instr} {r : Request} (h : Taken i s) (hr : i.request = some r)
    (f : State → State × Answer) :
    s.performRequest i f =
      (f (s.withRequest (s.requestOr r))).1.recordReply
        (makeReply (s.requestOr r) (f (s.withRequest (s.requestOr r))).2) := by
  simp [State.performRequest, hr, h.1, h.2]

/-- A request command that is not taken while the link is busy with another request changes nothing. -/
theorem State.performRequest_not_admitted {s : State} {i : Instr} (h : s.admits i = false) (f : State → State × Answer) :
    s.performRequest i f = s := by
  unfold State.performRequest; split <;> simp [h]

/-- What a request command that is taken can do, when its rule keeps the request in progress: it answers, and apart from the
lines it leaves what its rule leaves. -/
theorem State.request_spec {s : State} {i : Instr} {r : Request} (h : Taken i s) (hr : i.request = some r)
    (f : State → State × Answer)
    (hf : (f (s.withRequest (s.requestOr r))).1.link.inProgress = (s.withRequest (s.requestOr r)).link.inProgress) :
    ∃ t, s.request i f = .next t ∧ Answered i s t (f (s.withRequest (s.requestOr r))).2
      ∧ t.offLine = (f (s.withRequest (s.requestOr r))).1.offLine := by
  refine ⟨_, rfl, ⟨r, hr, ?_⟩, ?_⟩
  · rw [State.finish_inProgress, State.performRequest_taken h hr]
    simp [State.recordReply, hf, State.withRequest_inProgress h.1]
  · rw [State.finish_offLine, State.performRequest_taken h hr, State.recordReply_offLine]

end Sys2Proof.Machine
end

