-- ==== Sys2Proof/Laws/Memory.lean ====
section
/-! SUPPORT. The laws of the audio memory: a read after a write, and the canonical form that every operation keeps. -/

namespace Sys2Proof.Machine

/-- A byte written reads back. -/
@[simp] theorem readByte_writeByte_self (m : AudioMemory) (a : Nat) (b : Byte) :
    readByte (writeByte m a b) a = some b := by
  induction m with
  | nil => simp [writeByte, readByte]
  | cons e rest ih =>
    obtain ⟨k, v⟩ := e
    unfold writeByte
    split
    · simp [readByte]
    · split
      · simp [readByte]
      · next _ h => simp [readByte, Ne.symm h, ih]

/-- A write leaves every other byte alone. -/
theorem readByte_writeByte_ne (m : AudioMemory) {a c : Nat} (b : Byte) (h : c ≠ a) :
    readByte (writeByte m a b) c = readByte m c := by
  induction m with
  | nil => simp [writeByte, readByte, Ne.symm h]
  | cons e rest ih =>
    obtain ⟨k, v⟩ := e
    unfold writeByte
    split
    · simp [readByte, Ne.symm h]
    · split
      · next _ hk => subst hk; simp [readByte, Ne.symm h]
      · simp [readByte, ih]

/-- Bytes outside those written read as before. -/
theorem readByte_writeBytes_outside (m : AudioMemory) (a : Nat) (bs : List Byte) (c : Nat)
    (h : c < a ∨ a + bs.length ≤ c) : readByte (writeBytes m a bs) c = readByte m c := by
  induction bs generalizing m a with
  | nil => rfl
  | cons b bs ih =>
    simp only [List.length_cons] at h
    rw [writeBytes, ih _ _ (by omega), readByte_writeByte_ne _ _ (by omega)]

/-- Bytes written read back. -/
theorem readBytes_writeBytes (m : AudioMemory) (a : Nat) (bs : List Byte) :
    readBytes (writeBytes m a bs) a bs.length = some bs := by
  induction bs generalizing m a with
  | nil => rfl
  | cons b bs ih =>
    have h : readByte (writeBytes (writeByte m a b) (a + 1) bs) a = some b := by
      rw [readByte_writeBytes_outside _ _ _ _ (by omega), readByte_writeByte_self]
    simp [writeBytes, readBytes, h, ih]

/-- The bound of the keys of a rising memory may be lowered or dropped. -/
theorem risingFrom_mono {m : AudioMemory} {lo : Nat} (h : risingFrom (some lo) m = true) :
    risingFrom none m = true ∧ ∀ l ≤ lo, risingFrom (some l) m = true := by
  cases m with
  | nil => simp [risingFrom]
  | cons e rest =>
    simp only [risingFrom, Bool.and_eq_true, decide_eq_true_eq] at h ⊢
    exact ⟨h.2, fun l hl => ⟨by omega, h.2⟩⟩

theorem risingFrom_writeByte (m : AudioMemory) (lo : Option Nat) (a : Nat) (b : Byte)
    (h : risingFrom lo m = true) (ha : ∀ l, lo = some l → l < a) : risingFrom lo (writeByte m a b) = true := by
  induction m generalizing lo with
  | nil => cases lo <;> simp_all [writeByte, risingFrom]
  | cons e rest ih =>
    obtain ⟨k, v⟩ := e
    have hrest : risingFrom (some k) rest = true := by cases lo <;> simp_all [risingFrom]
    unfold writeByte
    split
    · next hk => cases lo <;> simp_all [risingFrom]
    · split
      · next _ hk => subst hk; cases lo <;> simp_all [risingFrom]
      · next hk hne =>
        have := ih (some k) hrest (fun l hl => by cases hl; omega)
        cases lo <;> simp_all [risingFrom]

/-- A write keeps the canonical form. -/
theorem writeByte_wf (m : AudioMemory) (a : Nat) (b : Byte) (h : Memory.wf m = true) :
    Memory.wf (writeByte m a b) = true :=
  risingFrom_writeByte m none a b h fun _ hl => nomatch hl

theorem writeBytes_wf (m : AudioMemory) (a : Nat) (bs : List Byte) (h : Memory.wf m = true) :
    Memory.wf (writeBytes m a bs) = true := by
  induction bs generalizing m a with
  | nil => exact h
  | cons b bs ih => exact ih _ _ (writeByte_wf m a b h)

/-- A frame written to a slot keeps the canonical form. -/
theorem Store.writeFrame_wf (st : Store) (block slot : Nat) (samples : List Sample) (h : Memory.wf st.mem = true) :
    Memory.wf (st.writeFrame block slot samples).mem = true := writeBytes_wf _ _ _ h

/-- The memory after reset is in canonical form. -/
theorem reset_memory_wf : Memory.wf State.reset.store.mem = true := rfl

end Sys2Proof.Machine
end

