-- ==== Sys2Proof/Laws/Station.lean ====
section
/-! SUPPORT. What the shared operations of dispatch, of the range toggle and of a station port can do. -/

namespace Sys2Proof.Machine

/-! ### Placing in an ordered list (R74, R90, R105) -/

/-- An element is inserted behind every element it does not go before, ahead of one it does. -/
theorem insertBy_split {α : Type} (before : α → α → Bool) (a : α) (l : List α) :
    ∃ u v, l = u ++ v ∧ insertBy before a l = u ++ a :: v ∧ (∀ b ∈ u, before a b = false)
      ∧ ∀ b, v.head? = some b → before a b = true := by
  induction l with
  | nil => exact ⟨[], [], rfl, rfl, by simp, by simp⟩
  | cons b rest ih =>
    by_cases h : before a b = true
    · exact ⟨[], b :: rest, rfl, by simp [insertBy, h], by simp, by simp [h]⟩
    · obtain ⟨u, v, hl, hi, hu, hv⟩ := ih
      exact ⟨b :: u, v, by simp [hl], by simp [insertBy, h, hi], by simpa [h] using hu, hv⟩

/-- Apart from its place the inserted element changes nothing: the list is a rearrangement of the element and the rest. -/
theorem insertBy_perm {α : Type} (before : α → α → Bool) (a : α) (l : List α) : (insertBy before a l).Perm (a :: l) := by
  obtain ⟨u, v, hl, hi, -⟩ := insertBy_split before a l
  rw [hi, hl]; exact List.perm_middle

theorem mem_insertBy {α : Type} {before : α → α → Bool} {a b : α} {l : List α} :
    b ∈ insertBy before a l ↔ b = a ∨ b ∈ l := by simp [(insertBy_perm before a l).mem_iff]

/-- A reference put at the tail of its class stands behind every reference of its class or a more urgent one (R105). -/
theorem State.atClassTail_queue (s : State) (r : TakeRef) :
    ∃ u v, s.queue = u ++ v ∧ (s.atClassTail r).queue = u ++ r :: v ∧ (∀ q ∈ u, s.classOf q ≤ s.classOf r)
      ∧ ∀ q, v.head? = some q → s.classOf r < s.classOf q := by
  simpa [State.atClassTail, State.setQueue] using
    insertBy_split (fun a b => decide (s.classOf a < s.classOf b)) r s.queue

/-- A reference put at the head of its class stands behind the more urgent ones alone (R105). -/
theorem State.atClassHead_queue (s : State) (r : TakeRef) :
    ∃ u v, s.queue = u ++ v ∧ (s.atClassHead r).queue = u ++ r :: v ∧ (∀ q ∈ u, s.classOf q < s.classOf r)
      ∧ ∀ q, v.head? = some q → s.classOf r ≤ s.classOf q := by
  simpa [State.atClassHead, State.setQueue] using
    insertBy_split (fun a b => decide (s.classOf a ≤ s.classOf b)) r s.queue

/-! ### Ranges (R91) and the keypad toggle (R97, R99) -/

/-- A range covers the frames that have arrived, from its start to its end when it has one. -/
theorem Range.covers_iff (g : Range) (arrived : Option Nat) (f : Nat) :
    g.covers arrived f = true ↔ g.start ≤ f ∧ (∃ h, arrived = some h ∧ f ≤ h) ∧ ∀ e, g.stop = some e → f ≤ e := by
  cases arrived <;> cases hs : g.stop <;> simp [Range.covers, hs, and_assoc]

/-- Keeping or turning off a toggle changes the channel of the session alone. -/
theorem State.keepToggle_eq (s : State) (n : Nat) (keep : Nat → Bool) :
    s.keepToggle n keep = { s with channels := (s.keepToggle n keep).channels } := by
  unfold State.keepToggle
  repeat' split
  all_goals rfl

@[simp] theorem State.keepToggle_sessions (s : State) (n : Nat) (keep : Nat → Bool) :
    (s.keepToggle n keep).sessions = s.sessions := by rw [State.keepToggle_eq]

@[simp] theorem State.keepToggle_ranges (s : State) (n : Nat) (keep : Nat → Bool) :
    (s.keepToggle n keep).ranges = s.ranges := by rw [State.keepToggle_eq]

@[simp] theorem State.keepToggle_link (s : State) (n : Nat) (keep : Nat → Bool) :
    (s.keepToggle n keep).link = s.link := by rw [State.keepToggle_eq]

/-! ### A station port -/

@[simp] theorem Station.landOn_config (st : Station) (f : Nat) : (st.landOn f).config = st.config := rfl
@[simp] theorem Station.landOn_takes (st : Station) (f : Nat) : (st.landOn f).takes = st.takes := rfl
@[simp] theorem Station.landOn_transport (st : Station) (f : Nat) : (st.landOn f).transport = st.transport := rfl
@[simp] theorem Station.landOn_cursor (st : Station) (f : Nat) : (st.landOn f).cursor = some f := rfl
@[simp] theorem Station.landOn_cursorPlayed (st : Station) (f : Nat) : (st.landOn f).cursorPlayed = false := rfl
@[simp] theorem Station.landOn_fifo (st : Station) (f : Nat) : (st.landOn f).fifo = st.fifo := rfl

@[simp] theorem Station.park_config (st : Station) (f : Nat) : (st.park f).config = st.config := rfl
@[simp] theorem Station.park_takes (st : Station) (f : Nat) : (st.park f).takes = st.takes := rfl
@[simp] theorem Station.park_transport (st : Station) (f : Nat) : (st.park f).transport = st.transport := rfl
@[simp] theorem Station.park_cursor (st : Station) (f : Nat) : (st.park f).cursor = some f := rfl
@[simp] theorem Station.park_parked (st : Station) (f : Nat) : (st.park f).parked = true := rfl

@[simp] theorem Station.clip_config (st : Station) (e : Nat) : (st.clip e).config = st.config := by
  unfold Station.clip; split <;> rfl
@[simp] theorem Station.clip_takes (st : Station) (e : Nat) : (st.clip e).takes = st.takes := by
  unfold Station.clip; split <;> rfl
@[simp] theorem Station.clip_transport (st : Station) (e : Nat) : (st.clip e).transport = st.transport := by
  unfold Station.clip; split <;> rfl
@[simp] theorem Station.clip_cursor (st : Station) (e : Nat) : (st.clip e).cursor = st.cursor := by
  unfold Station.clip; split <;> rfl

/-- A cut leaves a scan with X = 0 that has nothing buffered where it is: only the bound of its window changes (R133, R138). -/
theorem Station.clip_stride {st : Station} {k : ScanCycle} (e : Nat) (hf : st.fifo = []) (hr : st.reader = .stopped)
    (hk : st.cycle = some k) (hx : k.scanPlay = 0) :
    st.clip e = { st with cycle := some { k with windowEnd := min k.windowEnd e } } := by
  simp [Station.clip, Station.beyond, hf, hr, hk, hx]

/-- What begins on the line of a port (R147, R202): nothing while a packet is on it; else the AUDIO packet that waits on a port
that sends AUDIO; else the STATE packet that is due, and no AUDIO packet waits any longer. -/
theorem Station.startPacket_spec (st : Station) (body : List Byte) :
    (∀ p, st.line = some p → st.startPacket body = st)
    ∧ (st.line = none →
      (∀ a, st.audioWaiting = some a → st.sendsAudio = true →
        st.startPacket body = { st with line := some (.audio a), audioWaiting := none })
      ∧ (st.audioWaiting = none ∨ st.sendsAudio = false → st.startPacket body =
        if st.stateDue then { st with line := some (.state body st.skipFlag), stateDue := false, audioWaiting := none }
        else { st with audioWaiting := none })) := by
  refine ⟨fun p h => by simp [Station.startPacket, h], fun h => ⟨fun a ha hs => by simp [Station.startPacket, h, ha, hs], ?_⟩⟩
  rintro (ha | hs)
  · simp [Station.startPacket, h, ha]
  · cases ha : st.audioWaiting <;> simp [Station.startPacket, h, hs, ha]

end Sys2Proof.Machine
end

