-- ==== Sys2Proof/Tests/Slice0.lean ====
section
/-! SUPPORT. The author's own tests: the smoke of WellFormed, words written out from the layouts of chapter 11, values of the
manual's worked examples, and for every statement with hypotheses a concrete state and operands that meet them. -/

namespace Sys2Proof.Tests

-- The tests wait for the kernel one after another, so that the package compiles as one text in few threads.
set_option Elab.async false

open Sys2Proof Sys2Proof.Machine

/-! ### WellFormed refuses each ill-formed term -/

theorem test_wf_message_too_short : Instr.wf (.messageReceived [0, 0, 0, 0, 0]) = false := by decide +kernel
theorem test_wf_length_that_is_allowed : Instr.wf (.messageBadLength 2) = false ∧ Instr.wf (.messageBadLength 1026) = false
    ∧ Instr.wf (.messageBadLength 1) = true ∧ Instr.wf (.messageBadLength 1027) = true := by decide +kernel
theorem test_wf_kind_beyond_a_byte : Instr.wf (.requestUnknownKind 0 256 []) = false := by decide +kernel
theorem test_wf_scope_full_is_the_other_row : Instr.wf (.resetLink 0 1) = false ∧ Instr.wf (.resetLink 0 256) = false := by decide +kernel
theorem test_wf_mask_beyond_two_bytes : Instr.wf (.setNoticeMask 0 65536) = false := by decide +kernel
theorem test_wf_session_beyond_two_bytes : Instr.wf (.closeSession 0 65536) = false ∧ Instr.wf (.takeInfo 0 1 65536) = false := by
  decide +kernel
theorem test_wf_numbers_beyond_a_byte : Instr.wf (.channelInfo 0 256) = false ∧ Instr.wf (.setClass 0 1 1 256) = false
    ∧ Instr.wf (.assignTake 0 1 1 256) = false ∧ Instr.wf (.configureReadback 0 0 256) = false := by decide +kernel
theorem test_wf_low_mark_and_position : Instr.wf (.configureStore 0 65536) = false ∧ Instr.wf (.dispatchInfo 0 65536) = false := by
  decide +kernel
theorem test_wf_now_is_no_frame : Instr.wf (.closeRange 0 1 1 (some 4294967295)) = false
    ∧ Instr.wf (.closeRange 0 1 1 (some 4294967294)) = true := by decide +kernel
theorem test_wf_scope_current_is_the_other_row : Instr.wf (.cancelReadbackAll 0 0 0) = false := by decide +kernel
theorem test_wf_form_start_is_the_other_row : Instr.wf (.fetchAudioContinue 0 0 1) = false
    ∧ Instr.wf (.fetchAudio 0 1 4294967296 1) = false := by decide +kernel
theorem test_wf_samples : Instr.wf (.frameCompleted 0 []) = false
    ∧ Instr.wf (.frameCompleted 0 (List.replicate 257 0)) = false := by decide +kernel

def noPatch : PlanPatch := ⟨none, none, none, none, none⟩
def openReq : OpenSessionReq := ⟨0, none, none, none, none, none, noPatch⟩
def channelReq : ConfigureChannelReq :=
  ⟨0, 24, 64, 2, 12, 0, 0, ⟨0, 0, 0, 0⟩, ⟨true, true, true, true⟩, 4, 2, false, true, 0, Plan.default⟩
def stationReq : ConfigureStationReq := ⟨0, true, 15, 7, 2, false, false, 94, 4, 16, 60, List.replicate 20 0x20⟩
def markReq : AddMarkReq := ⟨1, 20, 0, none, none⟩
def rangeReq : OpenRangeReq := ⟨1, 10, some 20, 0, true, true, none⟩
def setRangeReq : SetRangeReq := ⟨1, 1, none, none, none, .keep⟩
def readbackReq : QueueReadbackReq := ⟨0, 1, 0, 10, 0, 12⟩

theorem test_wf_requests : Instr.wf (.openSession 0 { openReq with label := some [] }) = false
    ∧ Instr.wf (.configureChannel 0 { channelReq with ratio := 256 }) = false
    ∧ Instr.wf (.setPlan 0 1 { noPatch with pause := some 256 }) = false
    ∧ Instr.wf (.configureStation 0 { stationReq with text := [] }) = false
    ∧ Instr.wf (.addMark 0 { markReq with frame := 4294967296 }) = false
    ∧ Instr.wf (.openRange 0 { rangeReq with play := 256 }) = false
    ∧ Instr.wf (.setRange 0 { setRangeReq with label := .replace [] }) = false
    ∧ Instr.wf (.listTakes 0 ⟨1, 256, 1, 0, 0⟩) = false ∧ Instr.wf (.listMarks 0 ⟨1, 0, 0, 256, 0⟩) = false
    ∧ Instr.wf (.listRanges 0 ⟨1, 0, 0, 256, none⟩) = false
    ∧ Instr.wf (.queueReadbackChain 0 { readbackReq with endForm := 1, endValue := 65536 }) = false := by decide +kernel

/-! ### Words written out from the layouts of chapter 11 -/

/-- CRC-16 with polynomial 0x1021 and start 0xFFFF over "123456789" is 0x29B1 (the published check value), low byte first
(R177). -/
theorem test_check_bytes : checkBytes [0x31, 0x32, 0x33, 0x34, 0x35, 0x36, 0x37, 0x38, 0x39] = [0xB1, 0x29] := by decide +kernel

/-- The example of chapter 11: RELEASE_TAKE of take 7 of session 12, TAG 0x35. -/
theorem test_release_take_message : (messageBytes 0x22 0x35 [0x0C, 0x00, 0x07, 0x00]).take 9 =
    [0xA7, 0x06, 0x00, 0x22, 0x35, 0x0C, 0x00, 0x07, 0x00]
    ∧ decodeRequest 0x22 0x35 [0x0C, 0x00, 0x07, 0x00] = some (.releaseTake 0x35 12 7) := by decide +kernel

/-- Bodies laid out by hand from R197, one for each family. -/
theorem test_request_bodies :
    decodeRequest 0x02 9 [1] = some (.resetFull 9) ∧ decodeRequest 0x03 9 [0xFF, 0x0F] = some (.setNoticeMask 9 4095)
    ∧ decodeRequest 0x10 9 ([2, 0x81, 0x00] ++ List.replicate 12 0x41 ++ [0, 0, 0, 0] ++ [0, 0, 0, 0, 0, 0, 33, 0, 0, 0]) =
      some (.openSession 9 ⟨2, some (List.replicate 12 0x41), none, none, none, none, { noPatch with pause := some 33 }⟩)
    ∧ decodeRequest 0x14 9 [0x00, 0x10] = some (.configureStore 9 4096)
    ∧ decodeRequest 0x20 9 [5, 0, 0x01, 0xA6, 0x0E, 0, 0, 0, 0, 0, 0, 0, 0] =
      some (.setPlan 9 5 { noPatch with nominal := some 3750 })
    ∧ decodeRequest 0x2B 9 [1, 0, 2, 0, 7] = some (.assignTake 9 1 2 7)
    ∧ decodeRequest 0x39 9 [1, 0, 2, 0, 0xFF, 0xFF, 0xFF, 0xFF] = some (.closeRange 9 1 2 none)
    ∧ decodeRequest 0x49 9 [3, 0] = some (.cancelReadbackCurrent 9 3)
    ∧ decodeRequest 0x50 9 [1, 0, 0, 0xE8, 3, 0, 0, 0x58, 2, 0, 0] = some (.fetchAudio 9 1 1000 600) := by decide +kernel

theorem test_requests_of_no_kind_or_another_length : decodeRequest 0x17 9 [] = none ∧ decodeRequest 0x11 9 [1] = none := by decide +kernel

/-- Packets of R201: a PLAY press and an ALIVE. -/
theorem test_packets :
    decodePacket 3 ([0x11, 0x01, 0x01] ++ checkBytes [0x11, 0x01, 0x01]) = some (.playPedal 3 true)
    ∧ decodePacket 3 ([0x12, 0x07] ++ checkBytes [0x12, 0x07]) = some (.alive 3 0x07)
    ∧ decodePacket 3 [0x13] = some (.stationPacketInvalid ⟨3, [0xB5, 0x13]⟩ false) := by decide +kernel

/-! ### States -/

/-- A part of 4 blocks in READY that has heard nothing. -/
def ready : State :=
  { State.resetWith 4 1 .pin [] with link := { Link.reset 1 .pin with device := .ready, mask := 0 } }

/-- The same, hearing every notice. -/
def hearing : State := { ready with link := { ready.link with mask := 0x0FFF } }

def nextOr (o : Host.Outcome State Fault Refusal) (s : State) : State :=
  match o with
  | .next t => t
  | .fault _ | .refused _ => s

def isNext : Host.Outcome State Fault Refusal → Bool
  | .next _ => true
  | .fault _ | .refused _ => false

theorem eq_next {o : Host.Outcome State Fault Refusal} (s : State) (h : isNext o = true) : o = .next (nextOr o s) := by
  cases o <;> first | rfl | simp [isNext] at h

/-- The state a command leaves, or the one it found. -/
def after (i : Instr) (s : State) : State := nextOr (exec i s) s

/-- The reply a command made to its request. -/
def replyTo (i : Instr) (s : State) : Option (List Byte) :=
  match (after i s).link.inProgress with
  | some p => p.reply.map (·.body)
  | none => none

def session1 : Session where
  number := 1
  channel := 0
  phase := .recording
  label := none
  plan := Plan.default
  planInForce := Plan.default
  dispatchMode := .onClose
  takeClass := .regular
  stationChoice := .rotate
  firstStored := some 0
  arrivedHead := some 40
  storedHead := some 40
  lastFrame := none
  trimPoint := none
  takeCount := 1
  openTake := some 1
  closeReason := none
  lostInput := 0
  lostFull := 0
  lostBusy := 0
  gapRun := none
  forcedPending := false
  extensionReported := false
  reserved := false
  markIssued := 0
  rangeIssued := 0

def take1 : Take :=
  { session := 1, number := 1, channel := 0, leadIn := 0, core := 0, stop := none, capture := .opened, cutKind := none
    dispatch := .unqueued, takeClass := .regular, station := none, lastStation := none, excluded := none, returns := 0
    lostFrames := 0, readback := false }

def closedTake : Take := { take1 with stop := some 20, capture := .closed, cutKind := some .soft }

/-- A frame of one value. -/
def tone (x : Sample) : List Sample := List.replicate 256 x

/-- Session 1 on channel 0 in the phase given, 41 frames in block 0. -/
def inPhase (p : ChannelPhase) (x : Session) : State :=
  { ready with
    channels := ready.channels.set 0
      { Channel.reset with phase := p, session := some 1, startMode := some .immediate, arrivedHead := x.arrivedHead }
    sessions := [x], lastSession := 1, takes := [take1]
    store := { ready.store with free := [1, 2, 3], chains := [⟨1, [⟨0, 0, 41⟩]⟩] } }

def recording : State := inPhase .recording session1
def armedSession : Session :=
  { session1 with phase := .armed, firstStored := none, arrivedHead := none, storedHead := none, takeCount := 0, openTake := none }
def armed : State := { inPhase .armed armedSession with takes := [], store := { ready.store with chains := [⟨1, []⟩] } }
def closing : State := inPhase .closing { session1 with phase := .closing }

/-- Session 1 with these takes. -/
def withTakes (l : List Take) : State := { recording with takes := l }

def mark1 : Mark := { plainMark 1 20 .general .host with number := 1 }
def range1 : Range := ⟨1, 1, 10, none, .all, true, true, none, .keypad⟩
def entry1 : ReadbackEntry := ⟨0, 1, .frame 10, .frame 12, true⟩
def current1 : ReadbackCurrent := ⟨entry1, 10, 12, none, 0, 0, 0⟩

/-- Channel 0's read-back unit as given, in session 1. -/
def reading (u : Readback) : State := { recording with readback := recording.readback.set 0 u }

/-- Station 2 as given, holding take 1 as given. -/
def atStation (t : Take) (st : Station) : State :=
  { recording with takes := [t], stations := recording.stations.set 2 { st with takes := [⟨1, 1⟩] } }
def present2 : Station := { Station.reset with link := .present, cursor := some 5 }
def held (d : DispatchState) (t : Take) : Take := { t with dispatch := d, station := some 2, lastStation := some 2 }

def working : State := atStation (held .inWork closedTake) present2
def assigned2 : State := atStation (held .assigned closedTake) present2

/-- The one take in the queue. -/
def queued1 : State := { withTakes [{ closedTake with dispatch := .queued }] with queue := [⟨1, 1⟩] }

theorem working_dispatchInv : working.DispatchInv := by
  unfold State.DispatchInv State.takesNamed State.queueHolds State.listsHold Take.inList; decide +kernel

theorem assigned2_dispatchInv : assigned2.DispatchInv := by
  unfold State.DispatchInv State.takesNamed State.queueHolds State.listsHold Take.inList; decide +kernel

theorem queued1_dispatchInv : queued1.DispatchInv := by
  unfold State.DispatchInv State.takesNamed State.queueHolds State.listsHold Take.inList; decide +kernel

/-- The grant of a client for the first slot of block 0. -/
def granted (s : State) (c : Client) (live : Bool) : State := { s with arbiter := { s.arbiter with grant := some ⟨c, live, 0, 0⟩ } }

/-- The outbound line as given. -/
def sending (s : State) (o : Outbound) : State := { s with link := { s.link with line := some o } }

/-- A state with an export. -/
def exporting (p : ExportState) : State :=
  { recording with exporter := { Exporter.reset with phase := p, session := 1, count := 600, cursor := some 0 } }

/-! ### Values of the manual's worked examples -/

def detector240 : Detector := ⟨240, .quiet, 0, 5, none⟩

/-- Chapter 01, level and floor: a voiced frame of level 2048, then an unvoiced one of level 150. -/
theorem test_level_and_floor :
    frameLevel (List.replicate 255 2048 ++ [2061]) = 2048
    ∧ (let d := detector240.analyse ChannelConfig.default (some (List.replicate 255 2048 ++ [2061]))
       (d.floor, d.voicedRun, d.quietRun) = (241, 1, 0)
        ∧ (let e := d.analyse ChannelConfig.default (some (tone 150))
           (e.floor, e.voicedRun, e.quietRun) = (230, 0, 1))) := by decide +kernel

/-- R11: the floor stays within 8 to 8192. -/
theorem test_floor_limits :
    ((⟨8, .quiet, 0, 0, none⟩ : Detector).analyse ChannelConfig.default (some (tone 0))).floor = 8
    ∧ ((⟨8192, .quiet, 0, 0, none⟩ : Detector).analyse ChannelConfig.default (some (tone 32767))).floor = 8192 := by decide +kernel

/-- Chapter 03: the soft cut at frame 15811 with Q = 30 ends take 7 at 15796 and opens take 8 at 15797. -/
def before15811 : State :=
  { recording with
    takes := [{ take1 with number := 7, leadIn := 12000, core := 12000 }]
    sessions := [{ session1 with
      plan := { Plan.default with nominal := 3750, grace := 625 }, arrivedHead := some 15810, storedHead := some 15810
      takeCount := 7, openTake := some 7 }]
    channels := ready.channels.set 0
      { Channel.reset with
        phase := .recording, session := some 1, arrivedHead := some 15810
        detector := ⟨256, .quiet, 0, 29, some 0⟩ } }

theorem test_soft_cut :
    (after (.frameCompleted 0 (tone 0)) before15811).takes.map (fun t => (t.number, t.leadIn, t.core, t.stop, t.cutKind))
      = [(7, 12000, 12000, some 15796, some .soft), (8, 15735, 15797, none, none)] := by decide +kernel

/-- Chapter 03: R58 takes the hard overlap for a forced cut: 41 - 188 is below the first frame after take 1's lead-in start. -/
theorem test_forced_cut :
    (after (.cutNow 0 1) recording).takes.map (fun t => (t.number, t.leadIn, t.core, t.stop, t.cutKind))
      = [(1, 0, 0, some 40, some .forced), (2, 1, 41, none, none)] := by decide +kernel

/-- Chapter 05: the permissions of overlapping ranges. -/
def ranges30 : State :=
  { recording with ranges :=
      [⟨1, 1, 10000, some 10801, .none, false, true, none, .keypad⟩, ⟨1, 2, 10300, some 10700, .cleared, true, false, none, .host⟩] }

theorem test_overlapping_ranges :
    [9999, 10000, 10299, 10300, 10700, 10701, 10801, 10802].map (ranges30.effectivePlay { session1 with arrivedHead := some 11000 })
      = [.all, .none, .none, .none, .none, .none, .none, .all] := by decide +kernel

/-- Chapter 05: the range closed at frame 10,801 covers it from its arrival. -/
theorem test_covered_from_arrival :
    [10800, 10801].map (fun h => ranges30.effectivePlay { session1 with arrivedHead := some h } 10801) = [.all, .none] := by
  decide +kernel

/-- Chapter 06: X, A, C, Y, B, Z after the reclaim. -/
def reclaiming : State :=
  let t (n : Nat) (c : TakeClass) (d : DispatchState) : Take := { closedTake with number := n, takeClass := c, dispatch := d }
  { recording with
    takes := [t 1 .daily .assigned, t 2 .regular .assigned, t 3 .daily .assigned, t 4 .expedite .queued, t 5 .daily .queued,
      t 6 .regular .queued]
    queue := [⟨1, 4⟩, ⟨1, 5⟩, ⟨1, 6⟩]
    stations := recording.stations.set 2 { Station.reset with link := .lost, takes := [⟨1, 1⟩, ⟨1, 2⟩, ⟨1, 3⟩] } }

theorem test_reclaim_order :
    (after (.reclaimTimerExpiry 2) reclaiming).queue.map (·.number) = [4, 1, 3, 5, 2, 6] := by decide +kernel

/-- Chapter 09, decision 1: stations 3 and 5 at level 3 with the pointer at 3. -/
def arbiting : State :=
  let st (n : Nat) : Station := { Station.reset with transport := .playing, takes := [⟨1, n⟩], reader := .request 0 0 n }
  { ready with
    arbiter := { ready.arbiter with stationPointer := 3, refreshDue := 1 }
    channels := ready.channels.set 2 { Channel.reset with fifo := [.ordinary 0 (tone 0), .ordinary 1 (tone 0)] }
    stations := (ready.stations.set 3 (st 3)).set 5 (st 5) }

theorem test_first_decision : arbiting.chooseClient = some (.station 5) ∧ arbiting.level (.capture 2) = 2
    ∧ arbiting.level .refresh = 1 := by decide +kernel

/-- Chapter 09: with the refresh due count at 4 refresh is granted first. -/
theorem test_refresh_first :
    (arbiting.modArbiter fun a => { a with refreshDue := 4 }).chooseClient = some .refresh := by decide +kernel

/-- Chapter 04: K2 advances the speaker round S = 3. -/
def hearingRoom : State :=
  recording.modChannel 0 fun ch =>
    { ch with config := { ChannelConfig.default with speakers := 3 }, keypad := { Keypad.reset with speaker := 3 } }

theorem test_speaker_key : let t := after (.keypadPressAccepted 0 1) hearingRoom
    (t.channels.get 0).keypad.speaker = 1
      ∧ t.marks.map (fun m => (m.number, m.frame, m.kind, m.speaker)) = [(1, 41, .speaker, some 1)] := by decide +kernel

/-! ### One step of a command -/

theorem test_store_low_mark_clamped : (after (.configureStore 7 5000) ready).store.lowMark = 4096
    ∧ replyTo (.configureStore 7 5000) ready = some [1, 0x00, 0x10, 4, 0, 1] := by decide +kernel
theorem test_pin_reset_straps : (after (.pinReset true false true true) ready).store.blocks = 8192
    ∧ (after (.pinReset true false true true) ready).link.rate = 6 := by
  constructor <;> rfl
theorem test_open_session : let t := after (.openSession 7 openReq) ready
    t.sessions.map (·.number) = [1] ∧ (t.channels.get 0).phase = .recording ∧ t.lastSession = 1 := by decide +kernel
theorem test_session_number_wraps : (after (.openSession 7 openReq) { ready with lastSession := 65535 }).lastSession = 1 := by decide +kernel
theorem test_close_session : let t := after (.closeSession 7 1) recording
    (t.channels.get 0).lastFrame = some 40 ∧ (t.session? 1).map (·.phase) = some .closed := by decide +kernel
theorem test_frame_arrives : let t := after (.frameCompleted 0 (tone 5)) recording
    (t.channels.get 0).arrivedHead = some 41 ∧ t.arbiter.grant = some ⟨.capture 0, true, 0, 41⟩ := by decide +kernel
theorem test_input_loss : ((after (.inputLossTimerExpiry 0) recording).channels.get 0).arrivedHead = some 43
    ∧ (after (.inputLossTimerExpiry 0) recording).sessions.map (·.lostInput) = [3] := by decide +kernel
def stationFree : State :=
  { withTakes [closedTake] with stations := ready.stations.set 2 { present2 with cursor := none } }

theorem test_assign_take : let t := after (.assignTake 7 1 1 2) stationFree
    (t.stations.get 2).takes = [⟨1, 1⟩] ∧ (t.stations.get 2).cursor = some 0
      ∧ t.takes.map (·.dispatch) = [.assigned] := by decide +kernel
theorem test_play_pedal : let t := after (.playPedal 2 true) (atStation (held .assigned closedTake) present2)
    (t.stations.get 2).transport = .playing ∧ t.takes.map (·.dispatch) = [.inWork]
      ∧ t.arbiter.grant = some ⟨.station 2, true, 0, 5⟩ := by decide +kernel
theorem test_done_key : let t := after (.doneKey 2 true) (atStation (held .inWork closedTake) present2)
    (t.stations.get 2).takes = [] ∧ (t.stations.get 2).status = .typed ∧ t.takes.map (·.dispatch) = [.typed] := by decide +kernel
theorem test_third_return_holds :
    (after (.returnKey 2 true) (atStation { held .inWork closedTake with returns := 2 } present2)).takes.map
      (fun t => (t.dispatch, t.returns, t.excluded)) = [(.held, 3, some 2)] := by decide +kernel
theorem test_release_take_reply :
    (replyTo (.releaseTake 7 1 1) (withTakes [closedTake])).map List.length = some 11
    ∧ replyTo (.releaseTake 7 1 1) (withTakes [held .assigned closedTake]) = some [0x09] := by decide +kernel
theorem test_mark_clamped : let t := after (.addMark 7 { markReq with frame := 90 }) recording
    t.marks.map (fun m => (m.number, m.frame)) = [(1, 40)] := by decide +kernel
theorem test_range_end_clamped : let t := after (.openRange 7 { rangeReq with stop := some 11000 }) recording
    t.ranges.map (fun g => (g.number, g.start, g.stop)) = [(1, 10, some 40)] := by decide +kernel
theorem test_readback_starts : let t := after (.queueReadbackChain 7 readbackReq) recording
    ((t.readback.get 0).current.map fun k => (k.start, k.stop)) = some (10, 12)
      ∧ t.arbiter.grant = some ⟨.readback 0, true, 0, 10⟩ := by decide +kernel
theorem test_export_starts : let t := after (.fetchAudio 7 1 1000 600) recording
    (t.exporter.phase, t.exporter.cursor) = (.streaming, some 3) ∧ t.arbiter.grant = some ⟨.exporter, true, 0, 3⟩ := by
  decide +kernel
theorem test_stop_fetch : (after (.stopFetch 7) (exporting .streaming)).exporter.reason = some .stopped := by decide +kernel
theorem test_busy_message : let s := { ready with link :=
      { ready.link with inProgress := some ⟨⟨0x13, 1, []⟩, none⟩, buffer := List.replicate 4 ⟨0x13, 2, []⟩ } }
    (after (.messageReceived (messageBytes 0x13 9 []).tail) s).link.line = some (.reply ⟨0x93, 9, [0x03], true⟩) := by
  decide +kernel
theorem test_starting_refuses : replyTo (.storeInfo 7) { ready with link := { ready.link with device := .starting } } = some [0x0C] := by
  decide +kernel
def readingFrame : State := reading { Readback.reset with current := some current1, reader := .request 10 0 0 }

theorem test_unwritten_slot_faults :
    exec .readbackReaderTransferEnd (granted readingFrame (.readback 0) true) = .fault .unwrittenStore := rfl

/-! ### For each statement with hypotheses, a state and operands that meet them -/

theorem test_meets_StepRunsFrontCommand : ({ ready with pending := [.startByte] } : State).pending = Instr.startByte :: [] := rfl
theorem test_meets_EmptyQueuePassesAMillisecond : recording.pending = [] := rfl
theorem test_meets_CommandsKeepTheQueue : exec (.stopFetch 7) (exporting .streaming)
    = .next (after (.stopFetch 7) (exporting .streaming)) := eq_next _ (by decide +kernel)
theorem test_meets_OnlyTransferEndsCanStop : ∃ f, exec .readbackReaderTransferEnd
    (granted readingFrame (.readback 0) true) = .fault f := ⟨.unwrittenStore, rfl⟩

/-- The blocks of `recording` are partitioned, so the store invariant holds there and a step is taken. -/
theorem test_meets_StoreInvariantKept : recording.StoreInv ∧ step recording = .next (nextOr (step recording) recording) := by
  refine ⟨⟨by decide +kernel, ?_, by decide +kernel, by decide +kernel, by decide +kernel⟩, eq_next _ (by decide +kernel)⟩
  show ([1, 2, 3] ++ [0] : List Nat).Perm (List.range 4)
  decide +kernel

/-- A take in work, one in the queue. -/
theorem test_meets_DispatchInvariantKept :
    (let s := { working with pending := [.doneKey 2 true] }
     s.DispatchInv ∧ step s = .next (nextOr (step s) s))
    ∧ (let s := { queued1 with pending := [.playPedal 2 true] }
     s.DispatchInv ∧ step s = .next (nextOr (step s) s)) :=
  ⟨⟨working_dispatchInv, eq_next _ (by decide +kernel)⟩, queued1_dispatchInv, eq_next _ (by decide +kernel)⟩

theorem test_meets_CountersStayInRange : ready.CountersInv ∧ step ready = .next (nextOr (step ready) ready) := by
  refine ⟨⟨by decide +kernel, by decide +kernel, by decide +kernel, by decide +kernel, ?_, ?_⟩, eq_next _ (by decide +kernel)⟩
  · intro n; fin_cases n <;> exact ⟨by decide +kernel, by decide +kernel⟩
  · intro c; fin_cases c <;> exact ⟨by decide +kernel, by decide +kernel⟩

theorem test_meets_ConfigurationsChangeByRequestOnly :
    exec .startByte ready = .next (after .startByte ready) ∧ ¬ Resets .startByte ready
    ∧ (¬ ∃ tag r, Instr.startByte = .configureChannel tag r) ∧ (¬ ∃ tag r, Instr.startByte = .configureStation tag r)
    ∧ (¬ ∃ tag c k, Instr.startByte = .configureReadback tag c k) ∧ (¬ ∃ tag m, Instr.startByte = .configureStore tag m)
    ∧ (¬ ∃ tag m, Instr.startByte = .setNoticeMask tag m) ∧ ¬ ∃ tag, Instr.startByte = .resetLink tag 0 := by
  refine ⟨rfl, ?_, ?_, ?_, ?_, ?_, ?_, ?_⟩ <;> simp [Resets]

/-- Well-formed requests at the ends of their forms: the highest frame of CLOSE_RANGE and NOW, the scope and form codes on both
sides of their other row, an unknown KIND of 0 and of 255. -/
theorem test_meets_RequestsReadBack :
    ([.closeRange 1 65535 65535 (some 4294967294), .closeRange 1 0 0 none, .resetLink 1 0, .resetLink 1 2, .resetLink 1 255,
      .resetFull 1, .cancelReadbackAll 1 255 1, .cancelReadbackAll 1 0 255, .cancelReadbackCurrent 1 3, .fetchAudio 1 1 4294967295 0,
      .fetchAudioContinue 1 1 0, .fetchAudioContinue 1 255 4294967295, .requestUnknownKind 1 0 [], .requestUnknownKind 1 255 [1],
      .openSession 1 openReq, .configureChannel 1 channelReq, .configureStation 1 stationReq, .addMark 1 markReq,
      .openRange 1 rangeReq, .setRange 1 setRangeReq, .queueReadbackChain 1 readbackReq, .queueReadbackPreempt 1 readbackReq]
        : List Instr).all (fun i => i.wf && i.request.isSome && decide (i.request.bind answeringInstr = some i)) = true
    ∧ requestLength 0 = none ∧ requestLength 255 = none := by decide +kernel

theorem test_meets_FramedMessagesAreReceived :
    ([] : List Byte).length ≤ 1024 ∧ (List.replicate 1024 (0 : Byte)).length ≤ 1024 := by decide +kernel

/-- Wrong checks, an action above 1, a code and a kind outside their tables, and noise before a packet that grows byte by byte. -/
theorem test_meets_StationPacketsAreRead : ([0, 0] : List Byte) ≠ checkBytes [0x11, 1, 1] ∧ ([0, 0] : List Byte) ≠ checkBytes [0x12, 1]
    ∧ 1 < (2 : Byte).toNat ∧ (0x13 : Byte) ≠ 0x11 ∧ (0x13 : Byte) ≠ 0x12
    ∧ (0x14 : Byte) ∉ ([0x01, 0x02, 0x03, 0x10, 0x11, 0x12, 0x13] : List Byte) ∧ (∀ b ∈ ([0x11, 0] : List Byte), b ≠ 0xB5) := by
  decide +kernel

/-- R126: the port is in a packet from its 0xB5 until its last check byte. -/
theorem test_packet_in_progress :
    (List.range 8).map (fun k => receivingPacket (([0x11, 0xB5, 0x11, 0x01, 0x01, 0x12, 0x34] : List Byte).take k))
      = [false, false, true, true, true, true, true, false] := by decide +kernel

def starting : State := { ready with link := { ready.link with device := .starting, mask := 1 } }

theorem test_meets_StartupCompletes : starting.link.device = .starting ∧ starting.link.mask.getLsbD 0 = true
    ∧ ready.link.device = .ready := by decide +kernel

/-- A request in progress with 3 and with 4 requests buffered, and with 7 and with 8 BUSY replies waiting. -/
def crowded (buffered busy : Nat) : State :=
  { ready with link := { ready.link with
      inProgress := some ⟨⟨0x13, 1, []⟩, none⟩, buffer := List.replicate buffered ⟨0x13, 2, []⟩
      replies := List.replicate busy ⟨0x93, 3, [3], true⟩ } }

theorem test_meets_MessagesAreTakenOrAnsweredBusy :
    ((crowded 3 0).link.inProgress ≠ none ∧ (crowded 3 0).link.buffer.length < 4)
    ∧ (ready.link.inProgress = none ∧ ready.link.buffer = [])
    ∧ (4 ≤ (crowded 4 7).link.buffer.length ∧ ((crowded 4 7).link.replies.countP fun p => p.busy) < 8)
    ∧ (4 ≤ (crowded 4 8).link.buffer.length ∧ 8 ≤ ((crowded 4 8).link.replies.countP fun p => p.busy))
    ∧ ((crowded 4 8).modLink fun l => { l with mask := 0x0FFF }).hears .linkError := by
  unfold State.hears; decide +kernel

theorem test_meets_ReceiverCollectsAndDiscards :
    ((1 : Nat) < 2 ∨ 1026 < 1) ∧ ((1027 : Nat) < 2 ∨ 1026 < 1027) ∧ hearing.hears .linkError
    ∧ ready.link.receive = .hunting ∧ (ready.modLink fun l => { l with receive := .receiving }).link.receive = .receiving
    ∧ ([0, 0] : List Byte) ≠ checkBytes (u16 2 ++ [0x13, 1]) := by
  unfold State.hears; decide +kernel

theorem test_meets_UnknownKindIsRefused : Taken (.requestUnknownKind 1 0x80 []) ready ∧ Taken (.requestUnknownKind 1 0 []) ready
    ∧ requestLength 0x80 = none ∧ requestLength 0 = none := ⟨⟨rfl, rfl⟩, ⟨rfl, rfl⟩, rfl, rfl⟩

theorem test_meets_StartingRefusesRequests : (Instr.storeInfo 1).request = some ⟨0x13, 1, []⟩
    ∧ (starting.requestOr ⟨0x13, 1, []⟩).kind ≠ 1 ∧ starting.admits (.storeInfo 1) = true ∧ starting.link.device = .starting := by
  decide +kernel

theorem test_meets_ResetLinkRestoresTheLink : Taken (.resetLink 1 0) (exporting .streaming) ∧ (exporting .streaming).exporter.phase ≠ .idle
    ∧ Taken (.resetLink 1 0) ready ∧ ready.exporter.phase = .idle ∧ Taken (.resetLink 1 2) ready ∧ (2 : Nat) ≠ 0 ∧ (2 : Nat) ≠ 1 :=
  ⟨⟨rfl, rfl⟩, by decide, ⟨rfl, rfl⟩, rfl, ⟨rfl, rfl⟩, by decide, by decide⟩

theorem test_meets_ResetFullIsAnsweredFirst : Taken (.resetFull 1) ready := ⟨rfl, rfl⟩

def reply1 (busy : Bool) : Reply := ⟨0x93, 1, [0], busy⟩

theorem test_meets_ReplySentEndsTheRequest :
    (sending ready (.reply (reply1 true))).link.line = some (.reply (reply1 true)) ∧ (reply1 true).busy = true
    ∧ (sending ready (.reply (reply1 false))).link.fullReset = false ∧ (sending ready (.reply (reply1 false))).link.buffer = []
    ∧ (sending (crowded 1 0) (.reply (reply1 false))).link.buffer = ⟨0x13, 2, []⟩ :: []
    ∧ (sending (ready.modLink fun l => { l with fullReset := true }) (.reply (reply1 false))).link.fullReset = true := by
  decide +kernel

theorem test_meets_NoticeMaskIsReplaced : Taken (.setNoticeMask 1 65535) hearing ∧ Taken (.setNoticeMask 1 4095) hearing :=
  ⟨⟨rfl, rfl⟩, rfl, rfl⟩

theorem test_meets_SessionNumbersAreIssuedInTurn : recording.sessions.length ≤ 16 ∧ recording.lastSession ≤ 65535 := by decide

theorem test_meets_OpenSessionOpens : Taken (.openSession 1 openReq) ready ∧ openReq.channel = (0 : ChannelId).val
    ∧ (ready.channels.get 0).phase = .off ∧ ready.sessions.length < 16 ∧ ready.takesFree ≠ 0 :=
  ⟨⟨rfl, rfl⟩, rfl, rfl, by decide, by decide⟩

theorem test_meets_CloseSessionStopsTakingFrames : Taken (.closeSession 1 1) recording ∧ recording.session? 1 = some session1
    ∧ session1.phase = .recording ∧ session1.arrivedHead = some 40 := ⟨⟨rfl, rfl⟩, rfl, rfl, rfl⟩

theorem test_meets_CloseSessionFreesAnArmedSession :
    (Taken (.closeSession 1 1) armed ∧ armed.session? 1 = some armedSession ∧ armedSession.phase = .armed
      ∧ ∀ t ∈ armed.takes, t.session ≠ 1)
    ∧ (Taken (.closeSession 1 1) ready ∧ ready.session? 1 = none)
    ∧ (Taken (.closeSession 1 1) closing ∧ (closing.session? 1).map (·.phase) = some .closing) :=
  ⟨⟨⟨rfl, rfl⟩, rfl, rfl, by decide⟩, ⟨⟨rfl, rfl⟩, rfl⟩, ⟨rfl, rfl⟩, rfl⟩

/-- A change of condition that is heard: the part of 4 blocks, all free, with the mark at 4. -/
theorem test_meets_ConfigureStoreSetsTheLowMark : Taken (.configureStore 1 4096) hearing ∧ Taken (.configureStore 1 4097) hearing
    ∧ hearing.store.condition = .normal ∧ hearing.store.free.length = 4 ∧ hearing.hears .store := by
  refine ⟨⟨rfl, rfl⟩, ⟨rfl, rfl⟩, rfl, rfl, ?_⟩; unfold State.hears; decide +kernel

/-- Frames at the borders of the five tests: first stored frame 2, trim point 4, stored head 40, blocks of 4 to 20 and 30 to 40. -/
def gapped : Session := { session1 with firstStored := some 2, trimPoint := some 4 }
def gappedState : State :=
  { recording with sessions := [gapped], store := { recording.store with chains := [⟨1, [⟨0, 4, 17⟩, ⟨1, 30, 11⟩]⟩] } }

theorem test_meets_CategoriesFollowTheFiveTests :
    [1, 2, 3, 4, 20, 21, 29, 30, 40, 41].map (gappedState.category gapped)
      = [.unstored, .trimmed, .trimmed, .present, .present, .lost, .lost, .present, .present, .notYet] := by decide +kernel

theorem test_meets_FramesAreStoredInTheirSlots : (tone 7).length = 256
    ∧ (32768 * 1 + 512 * 63 - 1 < 1 * 32768 + 63 * 512 ∨ 1 * 32768 + 63 * 512 + 512 ≤ 32768 * 1 + 512 * 63 - 1)
    ∧ (65536 < 1 * 32768 + 63 * 512 ∨ 1 * 32768 + 63 * 512 + 512 ≤ 65536) := by decide +kernel

theorem test_meets_DetectorAnalysesFrames : (tone 32768).length = 256 := by decide +kernel

theorem test_meets_ConfigureChannelReplaces : Taken (.configureChannel 1 { channelReq with channel := 4 }) ready
    ∧ Taken (.configureChannel 1 { channelReq with channel := 3 }) ready ∧ (3 : Nat) = (3 : ChannelId).val :=
  ⟨⟨rfl, rfl⟩, ⟨rfl, rfl⟩, rfl⟩

theorem test_meets_ReportsChangeNothing :
    starting.admits (.identify 1) = true ∧ Taken (.storeInfo 1) recording ∧ Taken (.sessionInfo 1 0) recording
    ∧ Taken (.sessionInfo 1 1) recording ∧ recording.session? 1 = some session1 ∧ Taken (.channelInfo 1 3) recording
    ∧ recording.take? ⟨1, 1⟩ = some take1 ∧ Taken (.takeInfo 1 1 1) recording ∧ Taken (.listTakes 1 ⟨1, 0, 1, 0, 0⟩) recording
    ∧ recording.session? 1 ≠ none ∧ Taken (.dispatchInfo 1 0) recording ∧ Taken (.dispatchInfo 1 1) recording
    ∧ Taken (.listMarks 1 ⟨1, 0, 0, 9, 4⟩) recording ∧ Taken (.listRanges 1 ⟨1, 0, 0, 2, none⟩) recording
    ∧ Taken (.stationInfo 1 7) recording ∧ Taken (.readbackInfo 1 3) recording :=
  ⟨rfl, ⟨rfl, rfl⟩, ⟨rfl, rfl⟩, ⟨rfl, rfl⟩, rfl, ⟨rfl, rfl⟩, rfl, ⟨rfl, rfl⟩, ⟨rfl, rfl⟩, by decide, ⟨rfl, rfl⟩, ⟨rfl, rfl⟩, ⟨rfl, rfl⟩,
    ⟨rfl, rfl⟩, ⟨rfl, rfl⟩, rfl, rfl⟩

theorem test_meets_SetPlanReplacesTheFieldsGiven :
    (Taken (.setPlan 1 2 noPatch) recording ∧ recording.session? 2 = none)
    ∧ (Taken (.setPlan 1 1 { noPatch with pause := some 3 }) recording ∧ recording.session? 1 = some session1
      ∧ session1.phase = .recording)
    ∧ (Taken (.setPlan 1 1 noPatch) closing ∧ (closing.session? 1).map (·.phase) = some .closing) :=
  ⟨⟨⟨rfl, rfl⟩, rfl⟩, ⟨⟨rfl, rfl⟩, rfl, rfl⟩, ⟨rfl, rfl⟩, rfl⟩

def cutting (x : Session) (core : Nat) : State := { recording with sessions := [x], takes := [{ take1 with core := core }] }

/-- A cut is pending; 31 and 32 core frames stand at arrived head 40. -/
theorem test_meets_CutNowCutsOrDefers :
    (let s := cutting { session1 with forcedPending := true } 0
     Taken (.cutNow 1 1) s ∧ s.session? 1 = some { session1 with forcedPending := true } ∧ s.take? ⟨1, 1⟩ ≠ none)
    ∧ (let s := cutting session1 10
       Taken (.cutNow 1 1) s ∧ s.session? 1 = some session1 ∧ session1.phase = .recording ∧ session1.openTake = some 1
       ∧ s.take? ⟨1, 1⟩ = some { take1 with core := 10 } ∧ session1.forcedPending = false ∧ 40 + 1 - 10 < 32)
    ∧ (let s := cutting session1 9
       Taken (.cutNow 1 1) s ∧ session1.arrivedHead = some 40 ∧ 32 ≤ 40 + 1 - 9 ∧ session1.takeCount < 65535 ∧ s.takesFree ≠ 0) :=
  ⟨⟨⟨rfl, rfl⟩, rfl, by decide⟩, ⟨⟨rfl, rfl⟩, rfl, rfl, rfl, rfl, rfl, by decide⟩, ⟨rfl, rfl⟩, rfl, by decide, by decide, by decide⟩

def dispatched (d : DispatchState) : Take := { closedTake with dispatch := d }

/-- No record and no number left for the next take. -/
theorem test_meets_CutNowFindsNoRecord :
    (let s := { cutting session1 9 with takes := { take1 with core := 9 } :: List.replicate 127 { closedTake with number := 9 } }
     Taken (.cutNow 1 1) s ∧ s.session? 1 = some session1 ∧ s.take? ⟨1, 1⟩ = some { take1 with core := 9 } ∧ s.takesFree = 0)
    ∧ (let s := cutting { session1 with takeCount := 65535 } 9
     Taken (.cutNow 1 1) s ∧ (s.session? 1).map (·.takeCount) = some 65535) :=
  ⟨⟨⟨rfl, rfl⟩, rfl, rfl, by decide +kernel⟩, ⟨rfl, rfl⟩, rfl⟩

theorem test_meets_ReleaseTakeFreesTheRecord :
    Taken (.releaseTake 1 1 2) recording ∧ recording.take? ⟨1, 2⟩ = none
    ∧ Taken (.releaseTake 1 1 1) recording ∧ recording.take? ⟨1, 1⟩ = some take1 ∧ take1.capture = .opened
    ∧ Taken (.releaseTake 1 1 1) (withTakes [dispatched .assigned])
    ∧ (withTakes [dispatched .assigned]).take? ⟨1, 1⟩ = some (dispatched .assigned)
    ∧ Taken (.releaseTake 1 1 1) (withTakes [dispatched .typed]) ∧ (withTakes [dispatched .typed]).take? ⟨1, 1⟩ = some (dispatched .typed)
    ∧ (dispatched .typed).capture = .closed :=
  ⟨⟨rfl, rfl⟩, rfl, ⟨rfl, rfl⟩, rfl, rfl, ⟨rfl, rfl⟩, rfl, ⟨rfl, rfl⟩, rfl, rfl⟩

/-- A take of each dispatch state under each request; the invariant holds for the takes a recall takes away. -/
theorem test_meets_DispatchRequestsPlaceTheTake :
    Taken (.recallTake 1 1 2) recording ∧ recording.take? ⟨1, 2⟩ = none
    ∧ (withTakes [closedTake]).take? ⟨1, 1⟩ = some closedTake ∧ Taken (.queueTake 1 1 1) (withTakes [closedTake])
    ∧ closedTake.dispatch = .unqueued ∧ Taken (.queueTake 1 1 1) (withTakes [dispatched .typed])
    ∧ (withTakes [dispatched .typed]).take? ⟨1, 1⟩ = some (dispatched .typed) ∧ (dispatched .typed).dispatch ≠ .unqueued
    ∧ Taken (.clearHold 1 1 1) (withTakes [dispatched .held])
    ∧ (withTakes [dispatched .held]).take? ⟨1, 1⟩ = some (dispatched .held) ∧ (dispatched .held).dispatch = .held
    ∧ Taken (.setClass 1 1 1 2) (withTakes [closedTake]) ∧ min 2 2 = closedTake.takeClass.code
    ∧ Taken (.setClass 1 1 1 1) queued1 ∧ queued1.take? ⟨1, 1⟩ = some (dispatched .queued)
    ∧ min 2 1 ≠ (dispatched .queued).takeClass.code
    ∧ (∀ st, ((withTakes [closedTake]).stations.get st).wanting = false)
    ∧ Taken (.recallTake 1 1 1) (withTakes [closedTake])
    ∧ Taken (.recallTake 1 1 1) queued1 ∧ (dispatched .queued).station = none ∧ queued1.DispatchInv
    ∧ Taken (.recallTake 1 1 1) assigned2 ∧ assigned2.take? ⟨1, 1⟩ = some (held .assigned closedTake)
    ∧ (held .assigned closedTake).station = some 2 ∧ assigned2.DispatchInv :=
  ⟨⟨rfl, rfl⟩, rfl, rfl, ⟨rfl, rfl⟩, rfl, ⟨rfl, rfl⟩, rfl, by decide, ⟨rfl, rfl⟩, rfl, rfl, ⟨rfl, rfl⟩, by decide, ⟨rfl, rfl⟩,
    rfl, by decide, by decide, ⟨rfl, rfl⟩, ⟨rfl, rfl⟩, rfl, queued1_dispatchInv, ⟨rfl, rfl⟩, rfl, rfl, assigned2_dispatchInv⟩

/-- Station 2 present with room, with a full list, and station 3 absent. -/
theorem test_meets_AssignTakeGivesTheTake :
    Taken (.assignTake 1 1 1 8) stationFree ∧ Taken (.assignTake 1 1 1 2) stationFree
    ∧ stationFree.take? ⟨1, 1⟩ = some closedTake ∧ closedTake.dispatch = .unqueued
    ∧ (stationFree.stations.get 2).config.enable = true ∧ (stationFree.stations.get 2).link = .present
    ∧ (stationFree.stations.get 2).takes.length < (stationFree.stations.get 2).config.depth
    ∧ (stationFree.stations.get 3).link ≠ .present
    ∧ (stationFree.modLink fun l => { l with mask := 0x0FFF }).hears .take
    ∧ (let s := stationFree.modStation 2 fun st => { st with takes := [⟨1, 8⟩, ⟨1, 9⟩] }
       Taken (.assignTake 1 1 1 2) s ∧ (s.stations.get 2).config.depth ≤ (s.stations.get 2).takes.length) :=
  ⟨⟨rfl, rfl⟩, ⟨rfl, rfl⟩, rfl, rfl, rfl, rfl, by decide, by decide, ⟨by decide, by decide⟩, ⟨rfl, rfl⟩, by decide⟩

def marked (m : Mark) : State := { recording with marks := [m] }

theorem test_meets_HostMarksAreAddedAndDeleted :
    Taken (.addMark 1 { markReq with kind := 3, frame := 41 }) (marked mark1) ∧ (marked mark1).session? 1 = some session1
    ∧ session1.firstStored = some 0 ∧ (MarkKind.ofCode? 3).isSome ∧ session1.markIssued < 65535 ∧ (marked mark1).marks.length < 1984
    ∧ (∀ e ∈ (marked mark1).marks, e.identical { mark1 with number := 1, frame := 40, kind := .objection } = false)
    ∧ Taken (.deleteMark 1 1 2) (marked mark1) ∧ (marked mark1).mark? 1 2 = none
    ∧ Taken (.deleteMark 1 1 1) (marked mark1) ∧ (marked mark1).mark? 1 1 = some mark1 ∧ mark1.source ≠ .device
    ∧ Taken (.deleteMark 1 1 1) (marked { mark1 with source := .device })
    ∧ (marked { mark1 with source := .device }).mark? 1 1 = some { mark1 with source := .device }
    ∧ session1.phase = .recording ∧ ((marked mark1).channels.get 0).session = some 1 :=
  ⟨⟨rfl, rfl⟩, rfl, rfl, by decide, by decide, by decide, by decide, ⟨rfl, rfl⟩, rfl, ⟨rfl, rfl⟩, rfl, by decide, ⟨rfl, rfl⟩, rfl, rfl, rfl⟩

theorem test_meets_OpenRangeInserts : Taken (.openRange 1 { rangeReq with stop := none }) recording
    ∧ Taken (.openRange 1 rangeReq) recording ∧ recording.session? 1 = some session1 ∧ session1.firstStored = some 0
    ∧ session1.phase = .recording ∧ recording.ranges.length < 64 ∧ recording.openRanges 1 < 4 ∧ session1.rangeIssued < 65535 :=
  ⟨⟨rfl, rfl⟩, ⟨rfl, rfl⟩, rfl, rfl, rfl, by decide, by decide, by decide⟩

def ranged (g : Range) : State := { recording with ranges := [g] }
/-- Channel 0's off-record toggle names range `k`. -/
def toggled (s : State) (k : Nat) : State :=
  s.modChannel 0 fun ch => { ch with keypad := { ch.keypad with offRecord := some k } }

theorem test_meets_RangeRequestsChangeTheRange : (ranged range1).session? 1 = some session1 ∧ (ranged range1).range? 1 1 = some range1
    ∧ Taken (.closeRange 1 1 1 none) (ranged range1) ∧ Taken (.closeRange 1 1 1 (some 0)) (ranged range1)
    ∧ Taken (.closeRange 1 1 1 (some 41)) (ranged range1) ∧ range1.stop = none
    ∧ Taken (.closeRange 1 1 1 none) (ranged { range1 with stop := some 20 }) ∧ ({ range1 with stop := some 20 } : Range).stop ≠ none
    ∧ setRangeReq.session = 1 ∧ setRangeReq.range = 1 ∧ Taken (.setRange 1 setRangeReq) (ranged range1)
    ∧ Taken (.deleteRange 1 1 1) (ranged range1)
    ∧ ((ranged range1).channels.get session1.channel).session = some 1
    ∧ (let s := toggled (ranged range1) 1
       Taken (.deleteRange 1 1 1) s ∧ s.range? 1 1 = some range1 ∧ (s.channels.get 0).keypad.offRecord = some 1) :=
  ⟨rfl, rfl, ⟨rfl, rfl⟩, ⟨rfl, rfl⟩, ⟨rfl, rfl⟩, rfl, ⟨rfl, rfl⟩, by decide, rfl, rfl, ⟨rfl, rfl⟩, ⟨rfl, rfl⟩, rfl, ⟨rfl, rfl⟩, rfl, rfl⟩

/-- R97, R99: a toggle that names range 2 stays when range 1 closes or is deleted; one that names range 1 turns OFF. -/
theorem test_toggle_of_another_range :
    [after (.closeRange 7 1 1 none) (toggled (ranged range1) 2), after (.deleteRange 7 1 1) (toggled (ranged range1) 2),
      after (.closeRange 7 1 1 none) (toggled (ranged range1) 1), after (.deleteRange 7 1 1) (toggled (ranged range1) 1)].map
        (fun t => (t.channels.get 0).keypad.offRecord) = [some 2, some 2, none, none] := by decide +kernel

def queued8 : State := reading { Readback.reset with pending := List.replicate 8 entry1 }
def queued7 : State := reading { Readback.reset with pending := List.replicate 7 entry1, current := some current1 }

/-- A wrong channel and session; 8 entries pending; 7 pending beside a current one; an idle unit with a span that resolves and one
that does not; a pre-emption; a cancel with and without a current entry, whose head starts or is skipped; both clamps. -/
theorem test_meets_ReadbackRequestsAct :
    (Taken (.queueReadbackChain 1 { readbackReq with channel := 4 }) recording ∧ 3 < 4
      ∧ Taken (.queueReadbackChain 1 { readbackReq with session := 2 }) recording ∧ recording.session? 2 = none
      ∧ Taken (.queueReadbackChain 1 { readbackReq with channel := 1 }) recording ∧ session1.channel ≠ 1)
    ∧ (Taken (.queueReadbackChain 1 readbackReq) queued8 ∧ 8 ≤ (queued8.readback.get 0).pending.length ∧ session1.channel = 0)
    ∧ (Taken (.queueReadbackChain 1 readbackReq) queued7 ∧ (queued7.readback.get 0).pending.length < 8
      ∧ (queued7.readback.get 0).current ≠ none)
    ∧ (Taken (.queueReadbackChain 1 readbackReq) recording ∧ (recording.readback.get 0).pending = []
      ∧ (recording.readback.get 0).current = none ∧ (recording.resolveEntry 0 entry1).toOption = some (10, 12)
      ∧ (recording.resolveEntry 0 { entry1 with start := .frame 13 }).toOption = none)
    ∧ (Taken (.queueReadbackPreempt 1 readbackReq) queued7 ∧ Taken (.cancelReadbackCurrent 1 0) queued7
      ∧ (queued7.readback.get 0).current = some current1
      ∧ (((queued7.finishEntry 0 .aborted).resolveEntry 0 entry1).toOption = some (10, 12))
      ∧ ((queued7.finishEntry 0 .aborted).resolveEntry 0 { entry1 with session := 9 }).toOption = none)
    ∧ (Taken (.cancelReadbackCurrent 1 0) recording ∧ Taken (.cancelReadbackAll 1 0 1) recording
      ∧ (recording.readback.get 0).outstanding = 0 ∧ Taken (.cancelReadbackAll 1 0 2) queued7
      ∧ (queued7.readback.get 0).outstanding ≠ 0 ∧ Taken (.configureReadback 1 0 7) recording
      ∧ Taken (.configureReadback 1 0 8) recording ∧ Taken (.configureReadback 1 4 8) recording)
    ∧ (∀ e ∈ queued7.marks, e.session = 1 → e.frame ≠ 41) := by
  refine ⟨⟨⟨rfl, rfl⟩, by decide, ⟨rfl, rfl⟩, rfl, ⟨rfl, rfl⟩, by decide⟩, ⟨⟨rfl, rfl⟩, by decide, rfl⟩, ⟨⟨rfl, rfl⟩, by decide, by decide⟩,
    ⟨⟨rfl, rfl⟩, rfl, rfl, ?_, ?_⟩, ⟨⟨rfl, rfl⟩, ⟨rfl, rfl⟩, rfl, ?_, ?_⟩,
    ⟨⟨rfl, rfl⟩, ⟨rfl, rfl⟩, rfl, ⟨rfl, rfl⟩, by decide, ⟨rfl, rfl⟩, ⟨rfl, rfl⟩, rfl, rfl⟩, by decide⟩
    <;> decide +kernel

def resuming : State := { recording with exporter := { Exporter.reset with resume := some ⟨1, 256⟩ } }

/-- Frame 40 is the last one stored, 3 is trimmed in `gappedState`, and 41 is not stored yet. -/
theorem test_meets_FetchAudioStartsTheExport :
    Taken (.fetchAudio 1 2 0 1) recording ∧ recording.session? 2 = none
    ∧ Taken (.fetchAudio 1 1 10240 1) recording ∧ recording.session? 1 = some session1 ∧ recording.exporter.phase = .idle
    ∧ recording.category session1 (min 1382399999 10240 / 256) = .present
    ∧ Taken (.fetchAudio 1 1 0 1) (exporting .streaming) ∧ (exporting .streaming).exporter.phase ≠ .idle
    ∧ Taken (.fetchAudio 1 1 1023 1) gappedState ∧ gappedState.category gapped (min 1382399999 1023 / 256) = .trimmed
    ∧ Taken (.fetchAudioContinue 1 1 1) recording ∧ recording.exporter.resume = none
    ∧ Taken (.fetchAudioContinue 1 1 1) resuming ∧ resuming.exporter.resume = some ⟨1, 256⟩ := by
  refine ⟨⟨rfl, rfl⟩, rfl, ⟨rfl, rfl⟩, rfl, rfl, ?_, ⟨rfl, rfl⟩, ?_, ⟨rfl, rfl⟩, ?_, ⟨rfl, rfl⟩, rfl, ⟨rfl, rfl⟩, rfl⟩ <;> decide +kernel

theorem test_meets_StopFetchEndsTheExport : Taken (.stopFetch 1) (exporting .streaming)
    ∧ (exporting .streaming).exporter.phase = .streaming ∧ Taken (.stopFetch 1) recording ∧ recording.exporter.phase ≠ .streaming :=
  ⟨⟨rfl, rfl⟩, rfl, ⟨rfl, rfl⟩, by decide⟩

def notice1 : Notice := ⟨.store, .whole, 0, []⟩
def end1 : FetchEnd := ⟨1, 1, 0, 0, 0, 0, .stopped, none⟩
def data1 (n : Nat) : DataMessage := ⟨1, 0, List.replicate n 0, 0, 0⟩

/-- A DATA message that leaves one sample of the 600 to send, and one that leaves none. -/
theorem test_meets_SentMessagesFreeTheLine :
    (sending ready (.notice notice1)).link.line = some (.notice notice1)
    ∧ (sending ready (.fetchEnd end1 false)).link.line = some (.fetchEnd end1 false)
    ∧ (sending (exporting .streaming) (.data (data1 599) false)).link.line = some (.data (data1 599) false)
    ∧ (sending (exporting .streaming) (.data (data1 599) false)).exporter.phase = .streaming
    ∧ (exporting .streaming).exporter.sent + (data1 599).samples.length < (exporting .streaming).exporter.count
    ∧ (exporting .streaming).exporter.count ≤ (exporting .streaming).exporter.sent + (data1 600).samples.length := by decide +kernel

theorem test_meets_FramesArrive :
    (ready.channels.get 0).input = .live ∧ tone 1 ≠ [] ∧ ((ready.channels.get 0).assembler ++ tone 1).length = 256
    ∧ (ready.channels.get 0).phase = .off ∧ (recording.channels.get 0).phase = .recording
    ∧ (recording.channels.get 0).session = some 1 ∧ recording.session? 1 = some session1
    ∧ (armed.channels.get 0).phase = .armed ∧ (armed.channels.get 0).session = some 1 ∧ armed.session? 1 = some armedSession := by
  decide +kernel

/-- The pre-roll ring full, a silent and a sounding detector one frame before the onset. -/
def listening (run : Nat) : State :=
  armed.modChannel 0 fun ch => { ch with
    arrivedHead := some 40, ring := (List.range 8).map fun k => ⟨33 + k, tone 0⟩
    detector := { ch.detector with voicedRun := run } }

/-- No onset and an onset; a frame that opens the first take; no cut due, a forced cut due with a record and without. -/
theorem test_meets_ArrivedFramesAreSearched :
    ((listening 0).channels.get 0).input = .live ∧ ((listening 0).channels.get 0).session = some 1
    ∧ (listening 0).session? 1 = some armedSession ∧ armedSession.channel = 0 ∧ ((listening 0).channels.get 0).phase = .armed
    ∧ (((listening 0).channels.get 0).detector.analyse ChannelConfig.default (some (tone 9000))).phase = .quiet
    ∧ (((listening 1).channels.get 0).detector.analyse ChannelConfig.default (some (tone 9000))).phase = .speech
    ∧ (recording.channels.get 0).phase = .recording ∧ recording.session? 1 = some session1 ∧ session1.firstStored = some 0
    ∧ session1.openTake = some 1 ∧ recording.take? ⟨1, 1⟩ = some take1 ∧ session1.forcedPending = false
    ∧ 41 + 1 - take1.core < session1.plan.nominal ∧ session1.takeCount < 65535 ∧ recording.takesFree ≠ 0
    ∧ (let s := cutting { session1 with forcedPending := true } 0
       (s.session? 1).map (·.forcedPending) = some true ∧ 32 ≤ 41 + 1 - 0 ∧ s.takesFree ≠ 0
       ∧ { s with takes := s.takes ++ List.replicate 127 { closedTake with number := 9 } }.takesFree = 0)
    ∧ (let s := inPhase .recording { armedSession with phase := .recording }
       (s.channels.get 0).phase = .recording ∧ (s.session? 1).map (·.firstStored) = some none)
    ∧ ((hearing.channels.get 0).config.levelPeriod = 0 ∧ hearing.link.mask.getLsbD 5 = true
      ∧ (hearing.link.notices.countP fun e => e.kind ≠ .device) + 2 ≤ 255) := by decide +kernel

/-- R14: the onset's first stored frame is the oldest frame of the ring, here 34 of the frames 34 to 41. -/
theorem test_onset : let t := after (.frameCompleted 0 (tone 9000)) (listening 1)
    (t.channels.get 0).phase = .recording ∧ (t.session? 1).map (fun x => (x.firstStored, x.openTake)) = some (some 34, some 1) := by
  decide +kernel

def lostInput (s : State) : State := s.modChannel 0 fun ch => { ch with input := .lost, lostTick := some 0 }

theorem test_meets_InputLossAndReturn :
    (ready.channels.get 0).input = .live ∧ (ready.channels.get 0).phase = .off ∧ hearing.hears .input
    ∧ (recording.channels.get 0).phase = .recording ∧ (recording.channels.get 0).session = some session1.number
    ∧ recording.session? session1.number = some session1 ∧ (recording.channels.get 0).arrivedHead = some 40 ∧ 40 + 3 < 5399999
    ∧ ((lostInput recording).channels.get 0).input = .lost ∧ ((lostInput ready).channels.get 0).phase = .off := by
  unfold State.hears; decide +kernel

def frame10 : ReadbackFrame := ⟨10, some (tone 3)⟩
def playing (l : List ReadbackFrame) (finished : Bool) : State :=
  reading { Readback.reset with current := some current1, fifo := l, finished := finished }

theorem test_meets_OutputFollowsItsSource :
    (ready.readback.get 0).current = none ∧ ((playing [frame10] false).readback.get 0).current = some current1
    ∧ ((playing [frame10] false).readback.get 0).fifo = frame10 :: [] ∧ ((playing [] false).readback.get 0).fifo = []
    ∧ ((playing [] false).readback.get 0).finished = false ∧ ((playing [] false).readback.get 0).reader ≠ .waiting
    ∧ ((playing [] true).readback.get 0).finished = true := by decide +kernel

def keyed (s : State) (key : KeyState) (on : Bool) : State :=
  s.modChannel 0 fun ch => { ch with
    config := { ch.config with enable := .all on }, keypad := { ch.keypad with keys := .all key } }

/-- A disabled key; a key that agrees with its sample; 6 and 7 disagreeing samples so far; presses in each channel state. -/
theorem test_meets_KeypadKeysAct :
    ((keyed ready ⟨false, 0⟩ false).channels.get 0).config.enable.get 0 = false
    ∧ (ready.channels.get 0).config.enable.get 0 = true ∧ ((keyed ready ⟨true, 0⟩ true).channels.get 0).keypad.keys.get 0 = ⟨true, 0⟩
    ∧ ((keyed ready ⟨false, 6⟩ true).channels.get 0).keypad.keys.get 0 = ⟨false, 6⟩
    ∧ ((keyed ready ⟨false, 7⟩ true).channels.get 0).keypad.keys.get 0 = ⟨false, 7⟩
    ∧ (ready.channels.get 0).config.polarity.get 0 = .activeLow
    ∧ (armed.channels.get 0).phase = .armed ∧ (armed.channels.get 0).session = some 1 ∧ armed.session? 1 = some armedSession
    ∧ (recording.channels.get 0).phase = .recording ∧ recording.session? 1 = some session1
    ∧ (∀ e ∈ recording.marks, e.session = 1 → e.frame ≠ 41) ∧ session1.markIssued < 65535 ∧ recording.marks.length < 1984
    ∧ session1.channel = 0 ∧ (recording.channels.get 0).keypad.offRecord = none ∧ recording.ranges.length < 64
    ∧ recording.openRanges 1 < 4 ∧ session1.rangeIssued < 65535
    ∧ ((toggled (ranged range1) 1).channels.get 0).keypad.offRecord = some 1
    ∧ 4 ≤ { recording with ranges := List.replicate 4 range1 }.openRanges 1 ∧ hearing.hears .mark ∧ hearing.hears .table
    ∧ armedSession.channel = 0 ∧ (armed.channels.get 0).keypad.offRecord = none ∧ armed.openRanges 1 < 4 ∧ armed.ranges.length < 64
    ∧ armedSession.rangeIssued < 65535 ∧ armed.marks = [] ∧ ((toggled armed 1).channels.get 0).keypad.offRecord = some 1
    ∧ 4 ≤ { armed with ranges := List.replicate 4 range1 }.openRanges 1 := by
  unfold State.hears; decide +kernel

/-- R96: key 4 opens a range at the press frame and closes it there at its next press. -/
theorem test_off_record_key : let t := after (.keypadPressAccepted 0 3) recording
    t.ranges.map (fun g => (g.number, g.start, g.stop)) = [(1, 41, none)] ∧ (t.channels.get 0).keypad.offRecord = some 1
    ∧ (let u := after (.keypadPressAccepted 0 3) (after (.keypadReleaseAccepted 0 3) t)
       u.ranges.map (fun g => (g.start, g.stop)) = [(41, some 41)] ∧ (u.channels.get 0).keypad.offRecord = none) := by
  decide +kernel

def storing : State :=
  granted (recording.modChannel 0 fun ch => { ch with fifo := [.ordinary 41 (tone 9)] }) (.capture 0) true

theorem test_meets_CaptureTransferStoresTheFrame :
    storing.arbiter.grant = some ⟨.capture 0, true, 0, 0⟩ ∧ (storing.channels.get 0).session = some session1.number
    ∧ storing.session? session1.number = some session1 ∧ (storing.channels.get 0).headFrame = some (41, tone 9)
    ∧ 3 < storing.store.blocks ∧ ¬ (4 < storing.store.blocks ∧ 63 < 64) ∧ (tone 9).length = 256 := by decide +kernel

/-- A reader's transfer of a written slot, live and orphaned, for each kind of reader. -/
def delivering (live : Bool) (c : Client) (s : State) : State := granted { s with store := s.store.writeFrame 0 0 (tone 9) } c live
def stationReading : State :=
  atStation (held .inWork closedTake) { present2 with transport := .playing, reader := .request 5 0 0, fifo := [⟨2, none, none, none⟩, ⟨3, none, none, none⟩, ⟨4, none, none, none⟩] }
def exportReading : State := (exporting .streaming).modExporter fun e => { e with reader := .request 0 0 0 }

/-- A written frame is read back, by the lemma of Laws/Memory. -/
theorem written_frame (st : Store) : (st.writeFrame 0 0 (tone 9)).readFrame 0 0 = some (tone 9) := by
  have h : (samplesBytes (tone 9)).length = Config.frameBytes := by decide +kernel
  have k : bytesSamples (samplesBytes (tone 9)) = tone 9 := by decide +kernel
  unfold Store.readFrame Store.writeFrame
  rw [← h, readBytes_writeBytes, Option.map_some, k]

theorem test_meets_ReaderTransfersDeliver :
    (delivering true (.station 2) stationReading).arbiter.grant = some ⟨.station 2, true, 0, 0⟩
    ∧ (delivering true (.station 2) stationReading).store.readFrame 0 0 = some (tone 9)
    ∧ ((delivering true (.station 2) stationReading).stations.get 2).reader = .request 5 0 0
    ∧ ((delivering true (.station 2) stationReading).stations.get 2).fifo.length = 3
    ∧ ((delivering false (.readback 0) readingFrame).readback.get 0).reader = .request 10 0 0
    ∧ ((delivering false (.readback 0) readingFrame).readback.get 0).current = some current1
    ∧ (delivering false .exporter exportReading).exporter.reader = .request 0 0 0 :=
  ⟨rfl, written_frame _, rfl, rfl, rfl, rfl, rfl⟩

theorem test_meets_ArbiterGrantsByLevelAndRank :
    arbiting.chooseClient = some (.station 5) ∧ ready.chooseClient = none
    ∧ (readingFrame.readback.get 0).current ≠ none ∧ (readingFrame.readback.get 0).reader.requests = true
    ∧ (stationReading.stations.get 2).config.enable = true ∧ (stationReading.stations.get 2).transport ≠ .stopped
    ∧ (stationReading.stations.get 2).takes ≠ [] ∧ (stationReading.stations.get 2).reader.requests = true
    ∧ exportReading.exporter.phase = .streaming ∧ exportReading.exporter.reader.requests = true
    ∧ (granted ready .refresh true).arbiter.grant = some ⟨.refresh, true, 0, 0⟩
    ∧ arbiting.arbiter.grant = none ∧ arbiting.settleOnce.arbiter.grant = none
    ∧ arbiting.settleOnce.chooseClient = some (.station 5)
    ∧ (let s := recording.modChannel 0 fun ch => { ch with fifo := [.ordinary 41 (tone 9)] }
       s.arbiter.grant = none ∧ s.chooseClient = some (.capture 0) ∧ (s.channelSession? 0).isSome
       ∧ (s.channels.get 0).headFrame = some (41, tone 9) ∧ s.store.place 1 41 ≠ none
       ∧ { s.store with free := [], chains := [] }.place 1 41 = none) := by decide +kernel

theorem test_meets_ConfigureStationReplaces : Taken (.configureStation 1 { stationReq with station := 8 }) ready
    ∧ Taken (.configureStation 1 { stationReq with station := 7, enable := false }) ready ∧ (7 : Nat) = (7 : StationId).val
    ∧ (ready.stations.get 7).config.enable = true
    ∧ Taken (.configureStation 1 { stationReq with station := 2, enable := false }) assigned2
    ∧ (assigned2.stations.get 2).takes = [⟨1, 1⟩] ∧ assigned2.take? ⟨1, 1⟩ = some (held .assigned closedTake)
    ∧ ∀ o, o ≠ 2 → (assigned2.stations.get o).wanting = false :=
  ⟨⟨rfl, rfl⟩, ⟨rfl, rfl⟩, rfl, rfl, ⟨rfl, rfl⟩, rfl, rfl, by decide⟩

def graced (l : LinkState) (grace : Nat) : State :=
  (atStation (held .assigned closedTake) { present2 with link := l }).modStation 2 fun st =>
    { st with config := { st.config with grace := grace } }

theorem test_meets_StationLinksFollowTheirPackets :
    starting.link.device = .starting ∧ ready.link.device = .ready ∧ (ready.stations.get 2).link ≠ .present ∧ hearing.hears .station
    ∧ ((graced .present 60).stations.get 2).link = .present ∧ ((graced .present 60).stations.get 2).config.grace ≠ 0
    ∧ ((graced .present 0).stations.get 2).config.grace = 0 ∧ ((graced .lost 60).stations.get 2).link = .lost
    ∧ ⟨1, 1⟩ ∈ ((graced .lost 60).stations.get 2).takes ∧ (graced .lost 60).take? ⟨1, 1⟩ = some (held .assigned closedTake)
    ∧ receivingPacket [0xB5, 0x11] = true ∧ receivingPacket [0x11] = false ∧ receivedBad [0xB5, 0x13] = true
    ∧ receivedBad [0xB5, 0x12] = false := by
  unfold State.hears; decide +kernel

theorem test_meets_PedalsGovernTheTransport : working.link.device = .ready ∧ (working.stations.get 2).config.enable = true
    ∧ working.currentOf 2 = some (held .inWork closedTake, session1) ∧ ready.currentOf 2 = none := by decide +kernel

theorem test_meets_KeysActOnTheCurrentTake : (working.DispatchInv ∧ assigned2.DispatchInv)
    ∧ working.link.device = .ready ∧ (working.stations.get 2).config.enable = true ∧ hearing.hears .station
    ∧ working.currentOf 2 = some (held .inWork closedTake, session1) ∧ assigned2.currentOf 2 = some (held .assigned closedTake, session1)
    ∧ (atStation (held .inWork take1) present2).currentOf 2 = some (held .inWork take1, session1) ∧ ready.currentOf 2 = none
    ∧ (held .inWork closedTake).dispatch ≠ .assigned
    ∧ (working.stations.get 2).accepting = false ∧ (∀ o, o ≠ 2 → (working.stations.get o).wanting = false)
    ∧ closedTake.returns < 2 ∧ 2 ≤ ({ closedTake with returns := 2 } : Take).returns ∧ (working.stations.get 2).cursor = some 5
    ∧ (∀ e ∈ working.marks, e.session = 1 → e.frame ≠ 5) ∧ session1.markIssued < 65535 ∧ working.marks.length < 1984 := by
  refine ⟨⟨working_dispatchInv, assigned2_dispatchInv⟩, ?_⟩; unfold State.hears; decide +kernel

def playing2 (r : ReaderState) (t : Transport) (l : List PlayEntry) : State :=
  atStation (held .inWork closedTake) { present2 with transport := t, reader := r, fifo := l }
def entry5 : PlayEntry := ⟨5, some (tone 1), none, none⟩

/-- A forward scan at frame 5 with an empty FIFO. -/
def cycle5 (x y : Nat) : ScanCycle := ⟨5, x, y, 5 + x - 1, false, 5⟩
def stepping (x y : Nat) : State :=
  (playing2 .idle .scanFwd []).modStation 2 fun st => { st with
    cycle := some (cycle5 x y), config := { st.config with scanPlay := x, scanStride := y } }

theorem test_meets_StationFrameTimesPlay :
    (ready.stations.get 2).transport = .stopped ∧ ((playing2 .idle .playing [entry5]).stations.get 2).fifo = entry5 :: []
    ∧ entry5.move = none ∧ (playing2 .stopped .playing []).currentOf 2 = some (held .inWork closedTake, session1)
    ∧ (held .inWork closedTake).stop = some 20 ∧ ((playing2 .stopped .playing []).stations.get 2).reader = .stopped
    ∧ ((playing2 .waiting .holding []).stations.get 2).reader = .waiting
    ∧ ((playing2 (.request 5 0 0) .playing []).stations.get 2).transport = .playing
    ∧ { entry5 with move := some 9 }.move = some 9
    ∧ (let s := playing2 (.request 5 0 0) .scanFwd []
       s.currentOf 2 = some (held .inWork closedTake, session1) ∧ (s.stations.get 2).parked = false
       ∧ (s.stations.get 2).cursor = some 5 ∧ ((stepping 4 16).stations.get 2).cycle = some (cycle5 4 16)
       ∧ ((stepping 0 16).stations.get 2).cycle = some (cycle5 0 16) ∧ ((stepping 0 16).stations.get 2).config.scanPlay = 0
       ∧ 20 < 5 + 16 ∧ 5 + 15 ≤ 20
       ∧ ((s.modStation 2 fun st => { st with parked := true }).stations.get 2).parked = true) := by decide +kernel

/-- R138, X = 0: a cycle of 15 frames from frame 5 lands at frame 20, the end of the take; one of 16 parks there. -/
theorem test_strides :
    [15, 16].map (fun y => let st := (after (.stationFrameTime 2) (stepping 0 y)).stations.get 2
      (st.cursor, st.cursorPlayed, st.parked)) = [(some 20, false, false), (some 20, false, true)] := by decide +kernel

/-- R133, R138: a window of frames 20 to 23 has been fetched and the move to 36 made ahead when a cut ends the take at 30; once
frame 23 has been sent the scan parks at 30. -/
theorem test_scan_parks_at_a_cut :
    let s := (atStation (held .inWork { closedTake with stop := some 30 }) { present2 with
        transport := .scanFwd, cursor := some 22, cursorPlayed := true, reader := .idle, fetch := some 36
        cycle := some ⟨36, 4, 16, 39, false, 36⟩
        fifo := [⟨23, some (tone 1), some 36, some ⟨20, 4, 16, 23, false, 23⟩⟩] }).cutStation 2 30
    let st := (after (.stationFrameTime 2) s).stations.get 2
    (st.cursor, st.cursorPlayed, st.parked, st.transport) = (some 30, false, true, .scanFwd) := by decide +kernel

/-- R133, R138, X = 0: a cut at the cursor of a scan that has not moved yet leaves the cursor where it is; the frame time parks. -/
theorem test_stride_after_a_cut :
    let s := (atStation (held .inWork { closedTake with stop := some 5 }) { present2 with
        transport := .scanFwd, cursor := some 5, cursorPlayed := true, reader := .stopped, fetch := some 6
        cycle := some ⟨6, 0, 16, 5, false, 6⟩ }).cutStation 2 5
    [s.settle, after (.stationFrameTime 2) s].map (fun t => let st := t.stations.get 2
      (st.cursor, st.cursorPlayed, st.parked)) = [(some 5, true, false), (some 5, false, true)] := by decide +kernel

def onLine (p : Packet) (audio : Option (List Sample)) : State :=
  ready.modStation 2 fun st => { st with line := some p, audioWaiting := audio, stateDue := true }

theorem test_meets_StationLinesSendPackets :
    ready.link.device = .ready ∧ (ready.stations.get 2).line = none ∧ (ready.stations.get 2).audioWaiting = none
    ∧ ((onLine (.state [] true) (some [])).stations.get 2).line = some (.state [] true)
    ∧ ((onLine (.state [] true) (some [])).stations.get 2).audioWaiting = some []
    ∧ ((onLine (.audio []) none).stations.get 2).line = some (.audio [])
    ∧ ((onLine (.audio []) none).stations.get 2).audioWaiting = none ∧ ((onLine (.audio []) none).stations.get 2).stateDue = true
    ∧ starting.link.device = .starting
    ∧ (let s := working.modStation 2 fun st => { st with transport := .playing, line := some (.audio []), audioWaiting := some [] }
       s.link.device = .ready ∧ (s.stations.get 2).config.enable = true ∧ (s.stations.get 2).transport ≠ .stopped) := by decide +kernel

/-- R202: a STOPPED port drops the AUDIO packet that waits behind its STATE packet; a playing one sends it. -/
theorem test_audio_of_a_stopped_port :
    let s (p : Transport) := working.modStation 2 fun st =>
      { st with transport := p, line := some (.state [] false), audioWaiting := some (tone 1), stateDue := false }
    ((after (.statePacketSent 2) (s .stopped)).stations.get 2).line = none
    ∧ ((after (.statePacketSent 2) (s .playing)).stations.get 2).line = some (.audio (tone 1)) := by decide +kernel

end Sys2Proof.Tests
end

section
/-! SUPPORT. A notice that is heard is recorded, and stays told through the reply and the sending at the end of a request. -/

namespace Sys2Proof.Machine

/-! ### A heard notice is recorded (R182, R183) -/

/-- Merging keeps the kind and the subject of every entry. -/
@[simp] theorem mergeNotice_kind (k : NoticeKind) (sub : Subject) (contents : List Byte) (n : Notice) :
    (mergeNotice k sub contents n).kind = n.kind := by unfold mergeNotice; split <;> rfl

@[simp] theorem mergeNotice_subject (k : NoticeKind) (sub : Subject) (contents : List Byte) (n : Notice) :
    (mergeNotice k sub contents n).subject = n.subject := by unfold mergeNotice; split <;> rfl

/-- After a merge an entry of the kind and subject is in the set. -/
theorem Link.merge_recorded (l : Link) (k : NoticeKind) (sub : Subject) (contents : List Byte) :
    ∃ n ∈ (l.merge k sub contents).notices, n.kind = k ∧ n.subject = sub := by
  unfold Link.merge
  split
  · next hany =>
    obtain ⟨n, hn, hkind⟩ := List.any_eq_true.mp hany
    exact ⟨_, List.mem_map_of_mem hn, by simpa using hkind⟩
  · exact ⟨_, List.mem_append_right _ (List.mem_singleton_self _), rfl, rfl⟩

/-- With its kind in the mask and room in the set, a notice that is raised is merged into the set. -/
theorem Link.raise_heard (l : Link) {k : NoticeKind} (sub : Subject) (contents : List Byte)
    (hmask : l.mask.getLsbD k.code = true)
    (hroom : (l.notices.countP fun n => n.kind ≠ .device) < Config.noticeEntries) :
    l.raise k sub contents = l.merge k sub contents := by
  rw [Link.raise, if_pos hmask, if_pos]
  rw [decide_eq_true hroom, Bool.or_true]

/-- A notice that is raised where it is heard has been told. -/
theorem State.raise_told {s : State} {k : NoticeKind} (h : s.hears k) (sub : Subject) (contents : List Byte) :
    (s.raise k sub contents).told k sub := by
  obtain ⟨hmask, hroom⟩ := h
  rw [State.told, State.raise_link, Link.raise_heard _ _ _ hmask hroom]
  exact .inl (Link.merge_recorded ..)

/-! ### A notice that has been told stays told while the lines are served (R181) -/

/-- What has been told depends on the notices and the line alone. -/
theorem State.told_congr {s t : State} (hn : t.link.notices = s.link.notices) (hl : t.link.line = s.link.line)
    (k : NoticeKind) (sub : Subject) : t.told k sub ↔ s.told k sub := by
  rw [State.told, State.told, hn, hl]

/-- The transmitter takes a notice out of the set only to put it on the line. -/
theorem State.transmit_told {s : State} {k : NoticeKind} {sub : Subject} (h : s.told k sub) : s.transmit.told k sub := by
  cases hline : s.link.line with
  | some m => simpa [State.transmit, hline] using h
  | none =>
    obtain ⟨n, hn, hkind⟩ : ∃ n ∈ s.link.notices, n.kind = k ∧ n.subject = sub := by
      simpa [State.told, hline] using h
    cases hreplies : s.link.replies with
    | cons r rest => exact .inl ⟨n, by simpa [State.transmit, hline, hreplies] using hn, hkind⟩
    | nil =>
      cases hnotices : s.link.notices with
      | nil => simp [hnotices] at hn
      | cons m rest =>
        rw [hnotices] at hn
        rcases List.mem_cons.mp hn with rfl | hrest
        · exact .inr ⟨n, by simp [State.transmit, hline, hreplies, hnotices], hkind⟩
        · exact .inl ⟨n, by simpa [State.transmit, hline, hreplies, hnotices] using hrest, hkind⟩

theorem State.finish_told (before : State) {s : State} {k : NoticeKind} {sub : Subject} (h : s.told k sub) :
    (State.finish before s).told k sub := by
  have hlink : (State.finish before s).link = s.transmit.link := State.stationLines_link ..
  exact (State.told_congr (by rw [hlink]) (by rw [hlink]) k sub).mpr (State.transmit_told h)

/-- What the rule of a request has told is still told once the request has been answered. -/
theorem State.request_told {s t : State} {i : Instr} {r : Request} (h : Taken i s) (hr : i.request = some r)
    {f : State → State × Answer} (ht : s.request i f = .next t) {k : NoticeKind} {sub : Subject}
    (hf : (f (s.withRequest (s.requestOr r))).1.told k sub) : t.told k sub := by
  cases ht
  rw [State.performRequest_taken h hr]
  exact State.finish_told s hf

/-! ### The state a request's rule runs on -/

@[simp] theorem State.withRequest_store (s : State) (r : Request) : (s.withRequest r).store = s.store := by
  unfold State.withRequest; split <;> rfl

theorem State.withRequest_hears (s : State) (r : Request) (k : NoticeKind) : (s.withRequest r).hears k ↔ s.hears k := by
  unfold State.withRequest; split <;> rfl

/-- The store is no part of what sending moves. -/
theorem State.modStore_offLine (s : State) (f : Store → Store) : (s.modStore f).offLine = s.offLine.modStore f := rfl

end Sys2Proof.Machine
end

section
/-! SUPPORT. The check of the store condition (R36) and the rule of CONFIGURE_STORE (R37). -/

namespace Sys2Proof.Machine

/-! ### The check of the condition (R36) -/

/-- The store holds the condition its free list and low mark give. -/
def Store.checked (st : Store) : Store := { st with condition := storeCondition st.free.length st.lowMark }

theorem Store.checked_of_unchanged {st : Store} (h : storeCondition st.free.length st.lowMark = st.condition) :
    st.checked = st := by rw [Store.checked, h]

/-- The check sets the condition, and raises a STORE notice when that is a change. -/
theorem State.checkCondition_eq (s : State) :
    s.checkCondition =
      if storeCondition s.store.free.length s.store.lowMark = s.store.condition then s.modStore Store.checked
      else (s.modStore Store.checked).raise .store .whole (storeContents s.store.checked) := by
  by_cases h : storeCondition s.store.free.length s.store.lowMark = s.store.condition
  · simp only [State.checkCondition, State.modStore, Store.checked_of_unchanged h, if_pos h]
  · simp only [State.checkCondition, if_neg h]
    rfl

@[simp] theorem State.checkCondition_store (s : State) : s.checkCondition.store = s.store.checked := by
  rw [State.checkCondition_eq]; split <;> rfl

@[simp] theorem State.checkCondition_offLine (s : State) :
    s.checkCondition.offLine = s.offLine.modStore Store.checked := by
  rw [State.checkCondition_eq]; split <;> simp [State.modStore_offLine]

@[simp] theorem State.checkCondition_inProgress (s : State) :
    s.checkCondition.link.inProgress = s.link.inProgress := by
  rw [State.checkCondition_eq]; split <;> simp [State.raise_link]

/-- A change of the condition is told where STORE notices are heard. -/
theorem State.checkCondition_told {s : State}
    (hchange : storeCondition s.store.free.length s.store.lowMark ≠ s.store.condition) (h : s.hears .store) :
    s.checkCondition.told .store .whole := by
  rw [State.checkCondition_eq, if_neg hchange]
  exact State.raise_told (s := s.modStore Store.checked) h _ _

/-! ### CONFIGURE_STORE (R37) -/

/-- A new low mark, and the check of the condition that follows at once. -/
def State.setLowMark (s : State) (m : Nat) : State := (s.modStore fun st => { st with lowMark := m }).checkCondition

/-- What CONFIGURE_STORE does and answers: the clamped mark set; the mark, the free count and the condition reported. -/
def State.configureStore (mark : Nat) (s : State) : State × Answer :=
  (s.setLowMark (min 4096 mark),
    ⟨if 4096 < mark then .adjusted else .ok,
      u16 (min 4096 mark) ++ u16 s.store.free.length ++ u8 (storeCondition s.store.free.length (min 4096 mark)).code⟩)

theorem State.setLowMark_inProgress (s : State) (m : Nat) : (s.setLowMark m).link.inProgress = s.link.inProgress := by
  simp [State.setLowMark]

theorem State.setLowMark_offLine (s : State) (m : Nat) :
    (s.setLowMark m).offLine =
      s.offLine.modStore fun st => { st with lowMark := m, condition := storeCondition st.free.length m } := by
  rw [State.setLowMark, State.checkCondition_offLine]; rfl

/-- A change of the condition that the new mark brings is told where STORE notices are heard. -/
theorem State.setLowMark_told {s : State} {m : Nat} (hchange : storeCondition s.store.free.length m ≠ s.store.condition)
    (h : s.hears .store) : (s.setLowMark m).told .store .whole :=
  State.checkCondition_told (s := s.modStore fun st => { st with lowMark := m }) hchange h

theorem clamp_zero (hi x : Nat) : clamp 0 hi x = min hi x := by
  rw [clamp, if_neg (Nat.not_lt_zero x)]; split <;> omega

theorem adjusted_min (hi x : Nat) :
    adjusted (decide (min hi x ≠ x)) = if hi < x then .adjusted else .ok := by
  simp [adjusted]

theorem exec_configureStore (tag : Byte) (mark : Nat) (s : State) :
    exec (.configureStore tag mark) s = s.request (.configureStore tag mark) (State.configureStore mark) := by
  have harm : exec (.configureStore tag mark) s = execConfigureStore tag mark s := rfl
  simp only [harm, execConfigureStore, clamp_zero, adjusted_min, State.checkCondition_store]
  rfl

/-- Settles O29: `State.request_spec` on the rule of `exec_configureStore`, and its notice by `State.setLowMark_told`. -/
theorem configureStoreSetsTheLowMark : Obligations.ConfigureStoreSetsTheLowMark := by
  intro s tag mark htaken m condition
  have hr : (Instr.configureStore tag mark).request = some ⟨0x14, tag, u16 mark⟩ := rfl
  obtain ⟨t, ht, hanswered, hoff⟩ :=
    State.request_spec htaken hr (State.configureStore mark) (State.setLowMark_inProgress _ _)
  refine ⟨t, (exec_configureStore tag mark s).trans ht, ?_, ?_, fun hchange hhears => ?_⟩
  · rw [State.configureStore, State.withRequest_store] at hanswered
    exact hanswered
  · rw [hoff, State.configureStore, State.setLowMark_offLine, State.withRequest_offLine]
    rfl
  · refine State.request_told htaken hr ht (State.setLowMark_told ?_ ((State.withRequest_hears ..).mpr hhears))
    rwa [State.withRequest_store]

end Sys2Proof.Machine
end

section
/-! SUPPORT. The issue of session numbers (R23). -/

namespace Sys2Proof.Machine

/-- Counting past 65535 goes on at 1; a number above that is never reached from below. -/
theorem succNumber_iterate (n : Nat) {k : Nat} (hk : k ≤ 65535) :
    succNumber^[k] n = if 65535 < n ∨ n + k ≤ 65535 then n + k else n + k - 65535 := by
  induction k with
  | zero => simp
  | succ k ih =>
    rw [Function.iterate_succ_apply', ih (by omega), succNumber]
    split_ifs <;> omega

/-- The 17 numbers that are tried after a number are all different. -/
theorem nodup_tried (n : Nat) : ((List.range 17).map fun j => succNumber^[j + 1] n).Nodup := by
  refine List.Nodup.map_on (fun i hi j hj hij => ?_) List.nodup_range
  rw [List.mem_range] at hi hj
  rw [succNumber_iterate n (by omega), succNumber_iterate n (by omega)] at hij
  split_ifs at hij <;> omega

theorem succNumber_bounds {n : Nat} (h : n ≤ 65535) : 1 ≤ succNumber n ∧ succNumber n ≤ 65535 := by
  unfold succNumber; split <;> omega

theorem succNumber_iterate_le {n : Nat} (h : n ≤ 65535) (k : Nat) : succNumber^[k] n ≤ 65535 := by
  induction k with
  | zero => exact h
  | succ k ih => rw [Function.iterate_succ_apply']; exact (succNumber_bounds ih).2

/-- The search counts on over the numbers in use, and stops at one in use only when its tries are spent. -/
theorem nextSessionNumber_spec (used : Nat → Bool) (last fuel : Nat) :
    ∃ k ≤ fuel, nextSessionNumber used last fuel = succNumber^[k + 1] last
      ∧ (∀ j < k, used (succNumber^[j + 1] last) = true)
      ∧ (used (succNumber^[k + 1] last) = true → k = fuel) := by
  induction fuel generalizing last with
  | zero => exact ⟨0, le_rfl, rfl, by simp, fun _ => rfl⟩
  | succ fuel ih =>
    have hnext : nextSessionNumber used last (fuel + 1) =
      if used (succNumber last) then nextSessionNumber used (succNumber last) fuel else succNumber last := rfl
    by_cases hused : used (succNumber last) = true
    · obtain ⟨k, hk, hfound, hskipped, hspent⟩ := ih (succNumber last)
      refine ⟨k + 1, by omega, by rw [hnext, if_pos hused, hfound]; rfl, fun j hj => ?_, fun h => by rw [hspent h]⟩
      cases j with
      | zero => exact hused
      | succ j => exact hskipped j (by omega)
    · exact ⟨0, by omega, by rw [hnext, if_neg hused]; rfl, by simp, fun h => absurd h hused⟩

/-- A number some entry holds is among the numbers of the table. -/
theorem State.number_mem_of_session? {s : State} {n : Nat} (h : (s.session? n).isSome = true) :
    n ∈ s.sessions.map (·.number) := by
  obtain ⟨x, hx⟩ := Option.isSome_iff_exists.mp h
  refine List.mem_map.mpr ⟨x, List.mem_of_find?_eq_some hx, ?_⟩
  simpa using List.find?_some hx

/-- The 16 entries of the table cannot hold all of the 17 numbers tried. -/
theorem State.not_all_tried_in_use {s : State} (hroom : s.sessions.length ≤ 16) (n : Nat) :
    ¬ ∀ j ≤ 16, (s.session? (succNumber^[j + 1] n)).isSome = true := by
  intro hall
  have hsub : ((List.range 17).map fun j => succNumber^[j + 1] n) ⊆ s.sessions.map (·.number) := by
    intro m hm
    obtain ⟨j, hj, rfl⟩ := List.mem_map.mp hm
    exact State.number_mem_of_session? (hall j (by rw [List.mem_range] at hj; omega))
  have hlen := (List.subperm_of_subset (nodup_tried n) hsub).length_le
  simp only [List.length_map, List.length_range] at hlen
  omega

/-- The number issued is the first of the numbers after the last one that no entry holds. -/
theorem State.issueSession_spec {s : State} (hroom : s.sessions.length ≤ 16) :
    s.session? s.issueSession = none
      ∧ ∃ k ≤ 16, s.issueSession = succNumber^[k + 1] s.lastSession
        ∧ ∀ j < k, s.session? (succNumber^[j + 1] s.lastSession) ≠ none := by
  obtain ⟨k, hk, hissued, hskipped, hspent⟩ :=
    nextSessionNumber_spec (fun n => (s.session? n).isSome) s.lastSession 16
  have hfree : ¬ (s.session? (succNumber^[k + 1] s.lastSession)).isSome = true := by
    intro hused
    refine State.not_all_tried_in_use hroom s.lastSession fun j hj => ?_
    rcases Nat.lt_or_eq_of_le (hspent hused ▸ hj) with hlt | rfl
    · exact hskipped j hlt
    · exact hused
  exact ⟨by rw [State.issueSession, hissued]; simpa using hfree, k, hk, hissued,
    fun j hj => Option.isSome_iff_ne_none.mp (hskipped j hj)⟩

theorem State.openSession_lastSession (s : State) (c : ChannelId) (r : OpenSessionReq) :
    (s.openSession c r).1.lastSession = s.issueSession := rfl

theorem State.openSession_numbers (s : State) (c : ChannelId) (r : OpenSessionReq) :
    (s.openSession c r).1.sessions.map (·.number) = s.sessions.map (·.number) ++ [s.issueSession] := by
  simp [State.openSession, newSession]

/-- Settles O25: the search by `issueSession_spec`, where 16 entries cannot hold 17 different numbers. -/
theorem sessionNumbersAreIssuedInTurn : Obligations.SessionNumbersAreIssuedInTurn := by
  refine ⟨rfl, fun s hroom => ⟨State.issueSession_spec hroom, fun hlast => ?_, fun c r =>
    ⟨State.openSession_lastSession s c r, State.openSession_numbers s c r⟩⟩⟩
  obtain ⟨-, k, -, hissued, -⟩ := State.issueSession_spec hroom
  rw [hissued, Function.iterate_succ_apply']
  exact succNumber_bounds (succNumber_iterate_le hlast k)

end Sys2Proof.Machine
end

section
/-! SUPPORT. What the motion of a station port moves: the port itself and the arbiter, and of the port never the list. -/

namespace Sys2Proof.Machine

@[simp] theorem PerStation.set_set {α : Type} (p : PerStation α) (n : StationId) (a b : α) :
    (p.set n a).set n b = p.set n b := by
  fin_cases n <;> rfl

/-- From `s` to `t` at most port `n`, except its list, and the arbiter have moved. -/
def State.PortMove (n : StationId) (s t : State) : Prop :=
  ∃ a p, p.takes = (s.stations.get n).takes ∧ t = (s.modStation n fun _ => p).modArbiter fun _ => a

theorem State.PortMove.refl (n : StationId) (s : State) : s.PortMove n s :=
  ⟨s.arbiter, s.stations.get n, rfl, by simp [State.modStation, State.modArbiter]⟩

theorem State.PortMove.trans {n : StationId} {s t u : State} (hst : s.PortMove n t) (htu : t.PortMove n u) :
    s.PortMove n u := by
  obtain ⟨a, p, hp, rfl⟩ := hst
  obtain ⟨b, q, hq, rfl⟩ := htu
  exact ⟨b, q, by simpa [hp] using hq, by simp [State.modStation, State.modArbiter]⟩

theorem State.PortMove.of_modStation (s : State) (n : StationId) {f : Station → Station}
    (h : (f (s.stations.get n)).takes = (s.stations.get n).takes) : s.PortMove n (s.modStation n f) :=
  ⟨s.arbiter, f (s.stations.get n), h, rfl⟩

theorem State.PortMove.of_modArbiter (s : State) (n : StationId) (f : Arbiter → Arbiter) :
    s.PortMove n (s.modArbiter f) :=
  ⟨f s.arbiter, s.stations.get n, rfl, by simp [State.modStation, State.modArbiter]⟩

/-! ### The playout FIFO and the reader (R138 to R140) -/

@[simp] theorem Station.takeMove_takes (st : Station) (land : Nat) : (st.takeMove land).takes = st.takes := by
  unfold Station.takeMove; split <;> rfl

@[simp] theorem Station.beginForward_takes (st : Station) (ub g : Nat) : (st.beginForward ub g).takes = st.takes := rfl

@[simp] theorem Station.beginBackward_takes (st : Station) (playable : Nat → Bool) (start ub p : Nat) :
    (st.beginBackward playable start ub p).takes = st.takes := by
  unfold Station.beginBackward
  simp only
  split
  · rfl
  · exact st.takeMove_takes _

theorem State.emptyPlayout_portMove (s : State) (n : StationId) : s.PortMove n (s.emptyPlayout n) :=
  (State.PortMove.of_modArbiter s n _).trans (.of_modStation _ n rfl)

theorem State.beginMotion_portMove (s : State) (n : StationId) : s.PortMove n (s.beginMotion n) := by
  unfold State.beginMotion
  simp only
  split
  · split
    · exact .refl n s
    · exact .of_modStation s n rfl
    · exact .of_modStation s n rfl
    · exact .of_modStation s n (Station.beginForward_takes ..)
    · exact .of_modStation s n (Station.beginBackward_takes ..)
  · exact .refl n s

theorem State.restartPlayout_portMove (s : State) (n : StationId) : s.PortMove n (s.restartPlayout n) :=
  (s.emptyPlayout_portMove n).trans (State.beginMotion_portMove _ n)

/-! ### Transport and current take (R131, R132, R135, R136) -/

theorem State.backspace_portMove (s : State) (n : StationId) : s.PortMove n (s.backspace n) := by
  unfold State.backspace
  simp only
  split
  · exact .of_modStation s n rfl
  · exact .refl n s

theorem State.setTransport_portMove (s : State) (n : StationId) (t : Transport) : s.PortMove n (s.setTransport n t) := by
  unfold State.setTransport
  simp only
  split
  · exact .refl n s
  · refine .trans ?_ (State.restartPlayout_portMove _ n)
    split
    · exact (State.PortMove.of_modStation s n rfl).trans (State.backspace_portMove _ n)
    · exact .of_modStation s n rfl

theorem State.stopByPart_portMove (s : State) (n : StationId) : s.PortMove n (s.stopByPart n) :=
  (s.setTransport_portMove n .stopped).trans (.of_modStation _ n rfl)

theorem State.newCurrent_portMove (s : State) (n : StationId) : s.PortMove n (s.newCurrent n) :=
  (s.stopByPart_portMove n).trans ((State.PortMove.of_modStation _ n rfl).trans (State.restartPlayout_portMove _ n))

/-- A take that joins a list is put at its tail, and apart from that port and the arbiter nothing moves (R115). -/
theorem State.joinList_eq (s : State) (n : StationId) (r : TakeRef) :
    ∃ a p, p.takes = (s.stations.get n).takes ++ [r]
      ∧ s.joinList n r = (s.modStation n fun _ => p).modArbiter fun _ => a := by
  have happended : ∃ u, (s.modStation n fun st => { st with takes := st.takes ++ [r], stateDue := true }).PortMove n u
      ∧ s.joinList n r = u := by
    refine ⟨_, ?_, rfl⟩
    unfold State.joinList
    simp only
    split
    · exact State.newCurrent_portMove _ n
    · exact .refl n _
  obtain ⟨u, ⟨a, p, hp, rfl⟩, hjoin⟩ := happended
  exact ⟨a, p, by simpa using hp, by rw [hjoin]; simp [State.modStation, State.modArbiter]⟩

end Sys2Proof.Machine
end

section
/-! SUPPORT. Looking a take up, and what its TAKE notice holds. -/

namespace Sys2Proof.Machine

theorem State.take?_congr {s t : State} (h : t.takes = s.takes) (r : TakeRef) : t.take? r = s.take? r := by
  rw [State.take?, State.take?, h]

/-- A record that is found carries the name it was looked up by. -/
theorem State.ref_of_take? {s : State} {r : TakeRef} {k : Take} (h : s.take? r = some k) : k.ref = r := by
  have hname : k.session = r.session ∧ k.number = r.number := by simpa using List.find?_some h
  rw [Take.ref, hname.1, hname.2]

/-- A change that keeps the names changes the record that is found. -/
theorem State.take?_modTake {s : State} {r : TakeRef} {k : Take} (h : s.take? r = some k) {f : Take → Take}
    (hf : ∀ t, (f t).ref = t.ref) : (s.modTake r f).take? r = some (f k) := by
  have hname : ∀ t, (f t).session = t.session ∧ (f t).number = t.number := fun t => by simpa [Take.ref] using hf t
  have hk : k.session = r.session ∧ k.number = r.number := by simpa using List.find?_some h
  have hkept : (fun t : Take => decide (t.session = r.session ∧ t.number = r.number)) ∘
      (fun t => if t.session = r.session ∧ t.number = r.number then f t else t)
      = fun t => decide (t.session = r.session ∧ t.number = r.number) := by
    funext t
    by_cases ht : t.session = r.session ∧ t.number = r.number
    · simp only [Function.comp, if_pos ht, hname]
    · simp only [Function.comp, if_neg ht]
  rw [State.take?] at h ⊢
  rw [State.modTake_takes, List.find?_map, hkept, h, Option.map_some, if_pos hk]

/-- A take in the table is reported by a TAKE notice with its record. -/
theorem State.raiseTake_of_take? {s : State} {r : TakeRef} {k : Take} (h : s.take? r = some k) (e : TakeEvent) :
    s.raiseTake r e = s.raise .take (.take r.session r.number) (takeContents k e) := by
  rw [State.raiseTake, h]

@[simp] theorem State.raiseTake_offLine (s : State) (r : TakeRef) (e : TakeEvent) :
    (s.raiseTake r e).offLine = s.offLine := by
  unfold State.raiseTake; split <;> simp

@[simp] theorem State.raiseTake_inProgress (s : State) (r : TakeRef) (e : TakeEvent) :
    (s.raiseTake r e).link.inProgress = s.link.inProgress := by
  unfold State.raiseTake; split <;> simp [State.raise_link]

@[simp] theorem State.raiseTake_stations (s : State) (r : TakeRef) (e : TakeEvent) :
    (s.raiseTake r e).stations = s.stations := by
  unfold State.raiseTake; split <;> rfl

/-- The event of a TAKE notice stands behind the session, the number and the channel (R70). -/
theorem takeContents_event (t : Take) (e : TakeEvent) : (takeContents t e)[5]? = some (BitVec.ofNat 8 e.code) := by
  simp [takeContents, u16, u8, le]

/-- After a merge an entry of the kind and subject holds the contents raised. -/
theorem Link.merge_contents (l : Link) (k : NoticeKind) (sub : Subject) (contents : List Byte) :
    ∃ n ∈ (l.merge k sub contents).notices, n.kind = k ∧ n.subject = sub ∧ n.contents = contents := by
  unfold Link.merge
  split
  · next hany =>
    obtain ⟨n, hn, hnamed⟩ := List.any_eq_true.mp hany
    have hmerged : n.kind = k ∧ n.subject = sub := by simpa using hnamed
    exact ⟨_, List.mem_map_of_mem hn, by simpa using hmerged.1, by simpa using hmerged.2,
      by rw [mergeNotice, if_pos hmerged]⟩
  · exact ⟨_, List.mem_append_right _ (List.mem_singleton_self _), rfl, rfl, rfl⟩

/-- A notice that is raised where it is heard waits in the set with the contents raised. -/
theorem State.raise_contents {s : State} {k : NoticeKind} (h : s.hears k) (sub : Subject) (contents : List Byte) :
    ∃ n ∈ (s.raise k sub contents).link.notices, n.kind = k ∧ n.subject = sub ∧ n.contents = contents := by
  obtain ⟨hmask, hroom⟩ := h
  rw [State.raise_link, Link.raise_heard _ _ _ hmask hroom]
  exact Link.merge_contents ..

end Sys2Proof.Machine
end

section
/-! SUPPORT. What a request's rule runs on, what becomes of the notices it leaves, and the request that changes nothing. -/

namespace Sys2Proof.Machine

@[simp] theorem State.withRequest_takes (s : State) (r : Request) : (s.withRequest r).takes = s.takes := by
  unfold State.withRequest; split <;> rfl

@[simp] theorem State.withRequest_stations (s : State) (r : Request) : (s.withRequest r).stations = s.stations := by
  unfold State.withRequest; split <;> rfl

theorem State.withRequest_take? (s : State) (r : Request) (q : TakeRef) : (s.withRequest r).take? q = s.take? q :=
  State.take?_congr (s.withRequest_takes r) q

/-- While a reply waits the transmitter takes no notice (R181). -/
theorem State.transmit_notices {s : State} (h : s.link.replies ≠ []) : s.transmit.link.notices = s.link.notices := by
  unfold State.transmit
  split
  · rfl
  · split
    · rfl
    · next hnone => exact absurd hnone h

/-- The notices the rule of a request leaves still wait once the request has been answered: its reply goes before them. -/
theorem State.request_notices {s t : State} {i : Instr} {r : Request} (h : Taken i s) (hr : i.request = some r)
    {f : State → State × Answer} (ht : s.request i f = .next t) :
    t.link.notices = (f (s.withRequest (s.requestOr r))).1.link.notices := by
  cases ht
  rw [State.performRequest_taken h hr, State.finish, State.stationLines_link, State.transmit_notices]
  · rfl
  · simp [State.recordReply]

/-- A request whose rule changes nothing is answered, and nothing but the lines moves. -/
theorem State.request_performs {s : State} {i : Instr} {r : Request} (h : Taken i s) (hr : i.request = some r)
    {f : State → State × Answer} (hexec : exec i s = s.request i f) {a : Answer}
    (hf : f (s.withRequest (s.requestOr r)) = (s.withRequest (s.requestOr r), a)) : Performs i s a s := by
  obtain ⟨t, ht, hanswered, hoff⟩ := State.request_spec h hr f (by rw [hf])
  rw [hf] at hanswered hoff
  exact ⟨t, hexec.trans ht, hanswered, hoff.trans (s.withRequest_offLine _)⟩

/-- Each port off its line is the port of the state off its lines. -/
theorem State.offLine_station (s : State) (n : StationId) : s.offLine.stations.get n = (s.stations.get n).offLine := by
  fin_cases n <;> rfl

/-- States that agree off their lines agree in each port off its line. -/
theorem State.station_offLine_congr {s t : State} (h : t.offLine = s.offLine) (n : StationId) :
    (t.stations.get n).offLine = (s.stations.get n).offLine := by
  rw [← State.offLine_station, h, State.offLine_station]

theorem State.station_takes_congr {s t : State} (h : t.offLine = s.offLine) (n : StationId) :
    (t.stations.get n).takes = (s.stations.get n).takes :=
  (congrArg Station.takes (State.station_offLine_congr h n) :)

end Sys2Proof.Machine
end

section
/-! SUPPORT. The assignment of a take (R115) and the rule of ASSIGN_TAKE (R122). -/

namespace Sys2Proof.Machine

/-! ### The assignment (R115) -/

/-- The record changes that make a take ASSIGNED to a station. -/
def Take.assignedTo (n : StationId) (t : Take) : Take :=
  { t with dispatch := .assigned, station := some n, lastStation := some n }

/-- An assignment takes the name out of the queue, changes the record, appends to the list and reports; besides, it moves that
port and the arbiter alone. -/
theorem State.assign_eq (s : State) (r : TakeRef) (n : StationId) :
    ∃ a p, p.takes = (s.stations.get n).takes ++ [r]
      ∧ s.assign r n = ((((s.dequeue r).modTake r (Take.assignedTo n)).modStation n fun _ => p).modArbiter
          fun _ => a).raiseTake r .dispatch := by
  obtain ⟨a, p, hp, hjoin⟩ := ((s.dequeue r).modTake r (Take.assignedTo n)).joinList_eq n r
  exact ⟨a, p, hp, congrArg (State.raiseTake · r .dispatch) hjoin⟩

theorem State.assign_inProgress (s : State) (r : TakeRef) (n : StationId) :
    (s.assign r n).link.inProgress = s.link.inProgress := by
  obtain ⟨a, p, -, hassign⟩ := s.assign_eq r n
  rw [hassign, State.raiseTake_inProgress]
  rfl

theorem State.assign_list (s : State) (r : TakeRef) (n : StationId) :
    ((s.assign r n).stations.get n).takes = (s.stations.get n).takes ++ [r] := by
  obtain ⟨a, p, hp, hassign⟩ := s.assign_eq r n
  simp [hassign, hp]

/-- Where TAKE notices are heard, the assignment leaves one with event DISPATCH. -/
theorem State.assign_notice {s : State} {r : TakeRef} {k : Take} (n : StationId) (hk : s.take? r = some k)
    (h : s.hears .take) :
    ∃ e ∈ (s.assign r n).link.notices,
      e.kind = .take ∧ e.subject = .take r.session r.number ∧ e.contents[5]? = some 4 := by
  obtain ⟨a, p, -, hassign⟩ := s.assign_eq r n
  have htake : ((((s.dequeue r).modTake r (Take.assignedTo n)).modStation n fun _ => p).modArbiter fun _ => a).take? r
      = some (Take.assignedTo n k) := State.take?_modTake (s := s.dequeue r) hk fun _ => rfl
  rw [hassign, State.raiseTake_of_take? htake]
  obtain ⟨e, he, hkind, hsubject, hcontents⟩ :=
    State.raise_contents (s := (((s.dequeue r).modTake r (Take.assignedTo n)).modStation n fun _ => p).modArbiter
      fun _ => a) h (.take r.session r.number) (takeContents (Take.assignedTo n k) .dispatch)
  exact ⟨e, he, hkind, hsubject, by rw [hcontents, takeContents_event]; rfl⟩

/-! ### The checks (R122) -/

/-- What ASSIGN_TAKE does and answers. -/
def State.assignTake (session take station : Nat) (s : State) : State × Answer :=
  s.onTake session take fun t =>
    match stationOf station with
    | none => (s, refuse .noSuch)
    | some n => s.assignTo t n

theorem exec_assignTake (tag : Byte) (session take station : Nat) (s : State) :
    exec (.assignTake tag session take station) s =
      s.request (.assignTake tag session take station) (State.assignTake session take station) := rfl

theorem stationOf_val (n : StationId) : stationOf n.val = some n := dif_pos n.isLt

theorem stationOf_eq_none {n : Nat} (h : 7 < n) : stationOf n = none := dif_neg (by omega)

/-- A take or a station that there is not. -/
theorem State.assignTake_noSuch {s : State} {session take station : Nat}
    (h : s.take? ⟨session, take⟩ = none ∨ 7 < station) :
    s.assignTake session take station = (s, refuse .noSuch) := by
  unfold State.assignTake State.onTake
  cases htake : s.take? ⟨session, take⟩ with
  | none => rfl
  | some k =>
    have hstation : 7 < station := h.resolve_left (by simp [htake])
    simp only [stationOf_eq_none hstation]

theorem State.assignTake_of_take? {s : State} {session take : Nat} {k : Take} (h : s.take? ⟨session, take⟩ = some k)
    (n : StationId) : s.assignTake session take n.val = s.assignTo k n := by
  simp only [State.assignTake, State.onTake, h, stationOf_val]

/-- A take in a list, or a port that is disabled or not PRESENT. -/
theorem State.assignTo_wrongState {s : State} {k : Take} {n : StationId}
    (h : (k.dispatch = .assigned ∨ k.dispatch = .inWork)
      ∨ ((s.stations.get n).config.enable = false ∨ (s.stations.get n).link ≠ .present)) :
    s.assignTo k n = (s, refuse .wrongState) := by
  unfold State.assignTo
  by_cases hheld : k.dispatch = .assigned ∨ k.dispatch = .inWork
  · exact if_pos hheld
  · exact (if_neg hheld).trans (if_pos (h.resolve_left hheld))

theorem State.assignTo_full {s : State} {k : Take} {n : StationId}
    (hheld : ¬ (k.dispatch = .assigned ∨ k.dispatch = .inWork))
    (hclosed : ¬ ((s.stations.get n).config.enable = false ∨ (s.stations.get n).link ≠ .present))
    (hfull : (s.stations.get n).config.depth ≤ (s.stations.get n).takes.length) :
    s.assignTo k n = (s, refuse .full) := by
  unfold State.assignTo
  exact (if_neg hheld).trans ((if_neg hclosed).trans (if_pos hfull))

/-- With room in the list of an enabled and PRESENT port, a take in no list is assigned; the reply gives its place at the tail. -/
theorem State.assignTo_ok {s : State} {k : Take} {n : StationId}
    (hheld : ¬ (k.dispatch = .assigned ∨ k.dispatch = .inWork))
    (hclosed : ¬ ((s.stations.get n).config.enable = false ∨ (s.stations.get n).link ≠ .present))
    (hroom : (s.stations.get n).takes.length < (s.stations.get n).config.depth) :
    s.assignTo k n = (s.assign k.ref n, ⟨.ok, u8 n.val
      ++ opt8 (positionIn ((s.stations.get n).takes ++ [k.ref]) k.ref) ++ u8 ((s.stations.get n).takes.length + 1)⟩) := by
  have hbody : (s.assign k.ref n).assignBody n k.ref = u8 n.val
      ++ opt8 (positionIn ((s.stations.get n).takes ++ [k.ref]) k.ref) ++ u8 ((s.stations.get n).takes.length + 1) := by
    simp only [State.assignBody, State.assign_list, List.length_append, List.length_singleton]
  rw [← hbody]
  unfold State.assignTo
  exact (if_neg hheld).trans ((if_neg hclosed).trans (if_neg (Nat.not_le.mpr hroom)))

/-- A request whose rule assigns a take leaves, off the lines, the queue, the record and the list changed, and besides the
port and the arbiter nothing. -/
theorem State.assign_withRequest_offLine (s : State) (q : Request) (r : TakeRef) (n : StationId) :
    ∃ a p, p.takes = (s.stations.get n).takes ++ [r]
      ∧ ((s.withRequest q).assign r n).offLine =
        ((((s.dequeue r).modTake r (Take.assignedTo n)).modStation n fun _ => p).modArbiter fun _ => a).offLine := by
  obtain ⟨a, p, hp, hassign⟩ := (s.withRequest q).assign_eq r n
  refine ⟨a, p, by rw [hp, State.withRequest_stations], ?_⟩
  rw [hassign, State.raiseTake_offLine]
  unfold State.withRequest
  split <;> rfl

/-- Settles O39: each refusal by `State.request_performs` on the check that gives it; the assignment by `State.request_spec` and
`State.assign_withRequest_offLine`, and its notice by `State.assign_notice`. -/
theorem assignTakeGivesTheTake : Obligations.AssignTakeGivesTheTake := by
  intro s tag n m station htaken i
  have hr : i.request = some ⟨0x2B, tag, u16 n ++ u16 m ++ u8 station⟩ := rfl
  have hexec : exec i s = s.request i (State.assignTake n m station) := exec_assignTake ..
  refine ⟨fun h => State.request_performs htaken hr hexec (State.assignTake_noSuch (by rwa [State.withRequest_take?])), ?_⟩
  rintro k st hk rfl port held closed
  have hrule (q : Request) : (s.withRequest q).assignTake n m st.val = (s.withRequest q).assignTo k st :=
    State.assignTake_of_take? (by rwa [State.withRequest_take?]) st
  refine ⟨fun h => ?_, fun hheld hclosed hfull => ?_, fun hheld hclosed hroom => ?_⟩
  · exact State.request_performs htaken hr hexec
      ((hrule _).trans (State.assignTo_wrongState (by rwa [State.withRequest_stations])))
  · exact State.request_performs htaken hr hexec ((hrule _).trans
      (State.assignTo_full hheld (by rwa [State.withRequest_stations]) (by rwa [State.withRequest_stations])))
  · have hassigned (q : Request) := (hrule q).trans
      (State.assignTo_ok hheld (by rwa [State.withRequest_stations]) (by rwa [State.withRequest_stations]))
    simp only [State.ref_of_take? hk, State.withRequest_stations] at hassigned
    obtain ⟨t, ht, hanswered, hoff⟩ := State.request_spec htaken hr (State.assignTake n m st.val)
      (by rw [hassigned]; exact State.assign_inProgress ..)
    have hnotices := State.request_notices htaken hr ht
    rw [hassigned] at hanswered hoff hnotices
    obtain ⟨a, p, hp, hmoved⟩ := s.assign_withRequest_offLine _ ⟨n, m⟩ st
    have hleft := hoff.trans hmoved
    refine ⟨t, hexec.trans ht, hanswered, ?_, (congrArg State.queue hleft :), ?_, fun hhears => ?_, fun o ho => ?_,
      (congrArg State.rotation hleft :), (congrArg State.channels hleft :), (congrArg State.sessions hleft :),
      (congrArg State.store hleft :), (congrArg State.marks hleft :), (congrArg State.ranges hleft :),
      (congrArg State.readback hleft :)⟩
    · exact (State.take?_congr (congrArg State.takes hleft) _).trans
        (State.take?_modTake (s := s.dequeue ⟨n, m⟩) hk fun _ => rfl)
    · rw [State.station_takes_congr hleft]
      simpa using hp
    · rw [hnotices]
      exact State.assign_notice st (by rwa [State.withRequest_take?]) ((State.withRequest_hears ..).mpr hhears)
    · rw [State.station_offLine_congr hleft]
      exact congrArg Station.offLine (PerStation.get_set_ne _ _ ho)

end Sys2Proof.Machine
end

section
/-! SUPPORT. What the operations of the part are made of: a `Move` is one update of one part of the state, with what it leaves of
that part; an operation is a sequence of moves (`Reach`), and what a set of moves keeps is proved once for all operations. -/

namespace Sys2Proof.Machine

/-! ### What single updates leave of a record -/

/-- A port without its motion, its playout and its line: what those never move. -/
def Station.still (st : Station) : Station :=
  { st with
    transport := .stopped, parked := false, stoppedByPart := false, cursor := none, cursorPlayed := false
    backspaceDue := false, fifo := [], fetch := none, reader := .stopped, cycle := none, resting := false
    frameTimer := none, status := .none, statusMark := none, skipFlag := false, stateTimer := none, stateDue := false
    line := none, audioWaiting := none }

/-- A port without its list as well. -/
def Station.sansList (st : Station) : Station := { st.still with takes := [] }

/-- A channel without what a session's start and end and the working off of its FIFO move. -/
def Channel.still (ch : Channel) : Channel :=
  { ch with phase := .off, session := none, startMode := none, ring := [], fifo := [] }

/-- A channel without its keypad. -/
def Channel.sansKeypad (ch : Channel) : Channel := { ch with keypad := Keypad.reset }

/-- A channel without its off-record toggle. -/
def Channel.sansToggle (ch : Channel) : Channel := { ch with keypad := { ch.keypad with offRecord := none } }

/-- A channel without its output. -/
def Channel.sansOutput (ch : Channel) : Channel := { ch with echo := none, output := .quiet, outputFrame := none }

/-- A session without its trim point and gap run. -/
def Session.sansTrim (x : Session) : Session := { x with trimPoint := none, gapRun := none }

/-- A session without its mark and range numbers. -/
def Session.sansNumbers (x : Session) : Session := { x with markIssued := 0, rangeIssued := 0 }

/-- A take without what dispatch changes of it. -/
def Take.sansDispatch (t : Take) : Take := { t with dispatch := .unqueued, station := none, lastStation := none }

/-- A take without what dispatch and a return change of it. -/
def Take.sansReturn (t : Take) : Take := { t.sansDispatch with excluded := none, returns := 0 }

/-- A take without what recording changes of it. -/
def Take.sansBody (t : Take) : Take :=
  { t with stop := none, capture := .opened, cutKind := none, lostFrames := 0, readback := false }

/-- A grant but for whether its reader still wants it. -/
def Grant.sansLive (g : Grant) : Grant := { g with live := true }

/-- What the playing of entries leaves of a read-back unit: its threshold, its next serial and its underruns. -/
def Readback.still (u : Readback) : Readback :=
  { Readback.reset with threshold := u.threshold, nextSerial := u.nextSerial, underruns := u.underruns }

/-! ### Moves -/

/-- The sorts of single updates. -/
inductive Kind where
  | notice | sending | link | mask
  | orphan | grant | refresh
  | port | list | signal | stationConfig
  | queue | takeDispatch | takeReturn | takeClass | takeBody | takeTable
  | session | sessionTrim | sessionMarks | takeCount | sessionGone | sessionOpen
  | marks | ranges
  | toggle | keypad | channelRun | output | capture | channelConfig
  | unit | unitCount | threshold
  | exporter
  | trim | storeFree | place | frame | lowMark | chainOpen
deriving DecidableEq

/-- A bound that a count within it does not leave. -/
def Within (bound old new : Nat) : Prop := old ≤ bound → new ≤ bound

theorem Within.refl (b n : Nat) : Within b n n := id

/-- One update of one part of the state, with what it leaves of that part. -/
inductive Move : Kind → State → State → Prop
  | notice {s} (k sub contents) : Move .notice s (s.raise k sub contents)
  | sending {s} (r n o) : Move .sending s (s.modLink fun l => { l with replies := r, notices := n, line := o })
  | link {s} (f : Link → Link) (hmask : (f s.link).mask = s.link.mask) (hrate : (f s.link).rate = s.link.rate)
      (herror : Within 65535 s.link.errorCount (f s.link).errorCount)
      (hdropped : Within 65535 s.link.dropped (f s.link).dropped)
      (hbuffer : Within Config.receiveBuffer s.link.buffer.length (f s.link).buffer.length) : Move .link s (s.modLink f)
  | mask {s} (f : Link → Link) (hrate : (f s.link).rate = s.link.rate)
      (herror : Within 65535 s.link.errorCount (f s.link).errorCount)
      (hdropped : Within 65535 s.link.dropped (f s.link).dropped)
      (hbuffer : Within Config.receiveBuffer s.link.buffer.length (f s.link).buffer.length) : Move .mask s (s.modLink f)
  | orphan {s} (f : Arbiter → Arbiter)
      (h : { f s.arbiter with grant := (f s.arbiter).grant.map Grant.sansLive }
        = { s.arbiter with grant := s.arbiter.grant.map Grant.sansLive }) : Move .orphan s (s.modArbiter f)
  | grant {s} (f : Arbiter → Arbiter) (htimer : (f s.arbiter).refreshTimer = s.arbiter.refreshTimer)
      (hdue : (f s.arbiter).refreshDue = s.arbiter.refreshDue) : Move .grant s (s.modArbiter f)
  | refresh {s} (f : Arbiter → Arbiter) (hdue : Within 15 s.arbiter.refreshDue (f s.arbiter).refreshDue) :
      Move .refresh s (s.modArbiter f)
  | port {s} (n) (f : Station → Station) (h : (f (s.stations.get n)).still = (s.stations.get n).still) :
      Move .port s (s.modStation n f)
  | list {s} (n) (f : Station → Station) (h : (f (s.stations.get n)).sansList = (s.stations.get n).sansList) :
      Move .list s (s.modStation n f)
  | signal {s} (n) (f : Station → Station) (hconfig : (f (s.stations.get n)).config = (s.stations.get n).config)
      (htakes : (f (s.stations.get n)).takes = (s.stations.get n).takes)
      (hbad : Within 65535 (s.stations.get n).badPackets (f (s.stations.get n)).badPackets)
      (hunder : Within 65535 (s.stations.get n).underruns (f (s.stations.get n)).underruns) :
      Move .signal s (s.modStation n f)
  | stationConfig {s} (n cfg) : Move .stationConfig s (s.modStation n fun st => { st with config := cfg })
  | queue {s} (l) : Move .queue s (s.setQueue l)
  | rotation {s} (n) : Move .queue s { s with rotation := n }
  | takeDispatch {s} (r) (f : Take → Take) (h : ∀ t, (f t).sansDispatch = t.sansDispatch) :
      Move .takeDispatch s (s.modTake r f)
  | takeReturn {s} (r) (f : Take → Take) (h : ∀ t, (f t).sansReturn = t.sansReturn) : Move .takeReturn s (s.modTake r f)
  | takeClass {s} (r k) : Move .takeClass s (s.modTake r fun t => { t with takeClass := k })
  | takeBody {s} (f : Take → Take) (h : ∀ t, (f t).sansBody = t.sansBody) : Move .takeBody s (s.setTakes (s.takes.map f))
  | takeTable {s} (l) : Move .takeTable s (s.setTakes l)
  | session {s} (n) (f : Session → Session)
      (h : ∀ x, (f x).number = x.number ∧ (f x).channel = x.channel ∧ (f x).takeCount = x.takeCount) :
      Move .session s (s.modSession n f)
  | sessionTrim {s} (n) (f : Session → Session) (h : ∀ x, (f x).sansTrim = x.sansTrim) :
      Move .sessionTrim s (s.modSession n f)
  | sessionMarks {s} (n) (f : Session → Session) (h : ∀ x, (f x).sansNumbers = x.sansNumbers) :
      Move .sessionMarks s (s.modSession n f)
  | takeCount {s} (n) (f : Session → Session)
      (h : ∀ x, (f x).number = x.number ∧ (f x).channel = x.channel ∧ x.takeCount ≤ (f x).takeCount) :
      Move .takeCount s (s.modSession n f)
  | sessionGone {s} (n) : Move .sessionGone s (s.setSessions (s.sessions.filter fun y => y.number ≠ n))
  | sessionOpen {s} (x n) : Move .sessionOpen s { s with sessions := s.sessions ++ [x], lastSession := n }
  | marks {s} (l) : Move .marks s (s.setMarks l)
  | ranges {s} (l) : Move .ranges s (s.setRanges l)
  | toggle {s} (c) (f : Channel → Channel) (h : (f (s.channels.get c)).sansToggle = (s.channels.get c).sansToggle) :
      Move .toggle s (s.modChannel c f)
  | keypad {s} (c) (f : Channel → Channel) (h : (f (s.channels.get c)).sansKeypad = (s.channels.get c).sansKeypad) :
      Move .keypad s (s.modChannel c f)
  | channelRun {s} (c) (f : Channel → Channel) (h : (f (s.channels.get c)).still = (s.channels.get c).still) :
      Move .channelRun s (s.modChannel c f)
  | output {s} (c) (f : Channel → Channel) (h : (f (s.channels.get c)).sansOutput = (s.channels.get c).sansOutput) :
      Move .output s (s.modChannel c f)
  | capture {s} (c) (f : Channel → Channel) (h : (f (s.channels.get c)).config = (s.channels.get c).config) :
      Move .capture s (s.modChannel c f)
  | channelConfig {s} (c) (f : Channel → Channel) : Move .channelConfig s (s.modChannel c f)
  | unit {s} (c) (f : Readback → Readback) (h : (f (s.readback.get c)).still = (s.readback.get c).still) :
      Move .unit s (s.modReadback c f)
  | unitCount {s} (c) (f : Readback → Readback) (hthreshold : (f (s.readback.get c)).threshold = (s.readback.get c).threshold)
      (hserial : Within 255 (s.readback.get c).nextSerial (f (s.readback.get c)).nextSerial)
      (hunder : Within 65535 (s.readback.get c).underruns (f (s.readback.get c)).underruns) :
      Move .unitCount s (s.modReadback c f)
  | threshold {s} (c k) : Move .threshold s (s.modReadback c fun u => { u with threshold := k })
  | exporter {s} (f) : Move .exporter s (s.modExporter f)
  | trim {s} (n point inFlight) : Move .trim s (s.modStore fun st => st.trim n point inFlight)
  | condition {s} (k) : Move .trim s (s.modStore fun st => { st with condition := k })
  | storeFree {s} (n) : Move .storeFree s (s.modStore fun st => st.freeChain n)
  | place {s} (n f st b slot) (hn : n ∈ s.sessions.map (·.number)) (h : s.store.place n f = some (st, b, slot)) :
      Move .place s (s.modStore fun _ => st)
  | frame {s} (b slot samples) : Move .frame s (s.modStore fun st => st.writeFrame b slot samples)
  | chainOpen {s} (n) : Move .chainOpen s (s.modStore fun st => st.openChain n)
  | lowMark {s} (m) : Move .lowMark s (s.modStore fun st => { st with lowMark := m })

/-- From `s` to `t` by moves of the kinds in `K`. -/
def Reach (K : List Kind) : State → State → Prop := Relation.ReflTransGen fun s t => ∃ k ∈ K, Move k s t

theorem Reach.refl {K : List Kind} {s : State} : Reach K s s := Relation.ReflTransGen.refl

theorem Reach.of_eq {K : List Kind} {s t : State} (h : t = s) : Reach K s t := h ▸ .refl

theorem Reach.trans {K : List Kind} {s t u : State} (h : Reach K s t) (h' : Reach K t u) : Reach K s u :=
  Relation.ReflTransGen.trans h h'

theorem Reach.one {K : List Kind} {k : Kind} {s t : State} (h : Move k s t) (hk : k ∈ K) : Reach K s t :=
  Relation.ReflTransGen.single ⟨k, hk, h⟩

theorem Reach.mono {K L : List Kind} {s t : State} (h : Reach K s t) (hKL : ∀ k ∈ K, k ∈ L) : Reach L s t :=
  Relation.ReflTransGen.mono (fun _ _ ⟨k, hk, hm⟩ => ⟨k, hKL k hk, hm⟩) _ _ h

/-- A step made under a condition, and the step made otherwise. -/
theorem Reach.thenIf {K : List Kind} {p : Prop} [Decidable p] {s t u : State} (h : Reach K s t) (hu : p → Reach K t u) :
    Reach K s (if p then u else t) := by
  split
  · next hp => exact h.trans (hu hp)
  · exact h

theorem Reach.ite {K : List Kind} {p : Prop} [Decidable p] {s t u : State} (ht : p → Reach K s t) (hu : ¬ p → Reach K s u) :
    Reach K s (if p then t else u) := by
  split
  · next hp => exact ht hp
  · next hp => exact hu hp

theorem Reach.unless {K : List Kind} {p : Prop} [Decidable p] {s t u : State} (h : Reach K s t) (hu : ¬ p → Reach K t u) :
    Reach K s (if p then t else u) := by
  split
  · exact h
  · next hp => exact h.trans (hu hp)

theorem Reach.onlyIf {K : List Kind} {p : Prop} [Decidable p] {s t : State} (ht : p → Reach K s t) :
    Reach K s (if p then t else s) := .ite ht fun _ => .refl

/-- Steps over a list, each of which is reached, reach its end. -/
theorem Reach.foldl {K : List Kind} {α : Type} {f : State → α → State} (h : ∀ s a, Reach K s (f s a)) (l : List α)
    (s : State) : Reach K s (l.foldl f s) := by
  induction l generalizing s with
  | nil => exact .refl
  | cons a l ih => exact (h s a).trans (ih _)

/-- What every move of the kinds keeps, the whole sequence keeps. -/
theorem Reach.preserves {K : List Kind} {s t : State} (h : Reach K s t) {P : State → Prop}
    (hP : ∀ k ∈ K, ∀ s t, Move k s t → P s → P t) (hs : P s) : P t := by
  induction h with
  | refl => exact hs
  | tail _ hm ih => obtain ⟨k, hk, hm⟩ := hm; exact hP k hk _ _ hm ih

/-- A view that every move of the kinds leaves, the whole sequence leaves. -/
theorem Reach.keeps {K : List Kind} {s t : State} (h : Reach K s t) {α : Type} (view : State → α)
    (hview : ∀ k ∈ K, ∀ s t, Move k s t → view t = view s) : view t = view s :=
  h.preserves (P := fun u => view u = view s) (fun k hk _ _ hm hu => (hview k hk _ _ hm).trans hu) rfl

/-! ### The parts that kinds of moves touch -/

/-- The components of the state. -/
inductive Part where
  | channels | sessions | store | takes | marks | ranges | queue | stations | readback | arbiter | link | exporter
deriving DecidableEq

/-- The component a kind of move touches. -/
def Kind.part : Kind → Part
  | .notice | .sending | .link | .mask => .link
  | .orphan | .grant | .refresh => .arbiter
  | .port | .list | .signal | .stationConfig => .stations
  | .queue => .queue
  | .takeDispatch | .takeReturn | .takeClass | .takeBody | .takeTable => .takes
  | .session | .sessionTrim | .sessionMarks | .takeCount | .sessionGone | .sessionOpen => .sessions
  | .marks => .marks
  | .ranges => .ranges
  | .toggle | .keypad | .channelRun | .output | .capture | .channelConfig => .channels
  | .unit | .unitCount | .threshold => .readback
  | .exporter => .exporter
  | .trim | .storeFree | .place | .frame | .lowMark | .chainOpen => .store

/-- A move touches one component alone. -/
theorem Move.frame_part {k : Kind} {s t : State} (h : Move k s t) :
    (k.part ≠ .channels → t.channels = s.channels) ∧ (k.part ≠ .sessions → t.sessions = s.sessions)
    ∧ (k.part ≠ .store → t.store = s.store) ∧ (k.part ≠ .takes → t.takes = s.takes) ∧ (k.part ≠ .marks → t.marks = s.marks)
    ∧ (k.part ≠ .ranges → t.ranges = s.ranges) ∧ (k.part ≠ .queue → t.queue = s.queue ∧ t.rotation = s.rotation)
    ∧ (k.part ≠ .stations → t.stations = s.stations) ∧ (k.part ≠ .readback → t.readback = s.readback)
    ∧ (k.part ≠ .arbiter → t.arbiter = s.arbiter) ∧ (k.part ≠ .link → t.link = s.link)
    ∧ (k.part ≠ .exporter → t.exporter = s.exporter) ∧ t.pending = s.pending ∧ (k ≠ .sessionOpen → t.lastSession = s.lastSession) := by
  cases h <;> simp [Kind.part]

section
variable {K : List Kind} {s t : State} (h : Reach K s t)
include h

theorem Reach.pending : t.pending = s.pending := h.keeps _ fun _ _ _ _ hm => by
  obtain ⟨-, -, -, -, -, -, -, -, -, -, -, -, hpending, -⟩ := hm.frame_part; exact hpending

theorem Reach.lastSession (hK : Kind.sessionOpen ∉ K) : t.lastSession = s.lastSession := h.keeps _ fun k hk _ _ hm => by
  obtain ⟨-, -, -, -, -, -, -, -, -, -, -, -, -, hlast⟩ := hm.frame_part
  exact hlast fun he => hK (he ▸ hk)

theorem Reach.channels (hK : ∀ k ∈ K, k.part ≠ .channels) : t.channels = s.channels :=
  h.keeps _ fun k hk _ _ hm => hm.frame_part.1 (hK k hk)

theorem Reach.sessions (hK : ∀ k ∈ K, k.part ≠ .sessions) : t.sessions = s.sessions :=
  h.keeps _ fun k hk _ _ hm => by
    obtain ⟨-, hkeep, -⟩ := hm.frame_part; exact hkeep (hK k hk)

theorem Reach.store (hK : ∀ k ∈ K, k.part ≠ .store) : t.store = s.store := h.keeps _ fun k hk _ _ hm => by
  obtain ⟨-, -, hkeep, -⟩ := hm.frame_part; exact hkeep (hK k hk)

theorem Reach.takes (hK : ∀ k ∈ K, k.part ≠ .takes) : t.takes = s.takes := h.keeps _ fun k hk _ _ hm => by
  obtain ⟨-, -, -, hkeep, -⟩ := hm.frame_part; exact hkeep (hK k hk)

theorem Reach.marks (hK : ∀ k ∈ K, k.part ≠ .marks) : t.marks = s.marks := h.keeps _ fun k hk _ _ hm => by
  obtain ⟨-, -, -, -, hkeep, -⟩ := hm.frame_part; exact hkeep (hK k hk)

theorem Reach.ranges (hK : ∀ k ∈ K, k.part ≠ .ranges) : t.ranges = s.ranges := h.keeps _ fun k hk _ _ hm => by
  obtain ⟨-, -, -, -, -, hkeep, -⟩ := hm.frame_part; exact hkeep (hK k hk)

theorem Reach.queue (hK : ∀ k ∈ K, k.part ≠ .queue) : t.queue = s.queue := h.keeps _ fun k hk _ _ hm => by
  obtain ⟨-, -, -, -, -, -, hkeep, -⟩ := hm.frame_part; exact (hkeep (hK k hk)).1

theorem Reach.rotation (hK : ∀ k ∈ K, k.part ≠ .queue) : t.rotation = s.rotation :=
  h.keeps _ fun k hk _ _ hm => by
    obtain ⟨-, -, -, -, -, -, hkeep, -⟩ := hm.frame_part; exact (hkeep (hK k hk)).2

theorem Reach.stations (hK : ∀ k ∈ K, k.part ≠ .stations) : t.stations = s.stations :=
  h.keeps _ fun k hk _ _ hm => by
    obtain ⟨-, -, -, -, -, -, -, hkeep, -⟩ := hm.frame_part; exact hkeep (hK k hk)

theorem Reach.readback (hK : ∀ k ∈ K, k.part ≠ .readback) : t.readback = s.readback :=
  h.keeps _ fun k hk _ _ hm => by
    obtain ⟨-, -, -, -, -, -, -, -, hkeep, -⟩ := hm.frame_part; exact hkeep (hK k hk)

theorem Reach.arbiter (hK : ∀ k ∈ K, k.part ≠ .arbiter) : t.arbiter = s.arbiter :=
  h.keeps _ fun k hk _ _ hm => by
    obtain ⟨-, -, -, -, -, -, -, -, -, hkeep, -⟩ := hm.frame_part; exact hkeep (hK k hk)

theorem Reach.link (hK : ∀ k ∈ K, k.part ≠ .link) : t.link = s.link := h.keeps _ fun k hk _ _ hm => by
  obtain ⟨-, -, -, -, -, -, -, -, -, -, hkeep, -⟩ := hm.frame_part; exact hkeep (hK k hk)

theorem Reach.exporter (hK : ∀ k ∈ K, k.part ≠ .exporter) : t.exporter = s.exporter :=
  h.keeps _ fun k hk _ _ hm => by
    obtain ⟨-, -, -, -, -, -, -, -, -, -, -, hkeep, -⟩ := hm.frame_part; exact hkeep (hK k hk)

end

end Sys2Proof.Machine
end

section
/-! SUPPORT. The moves of each operation: the station port, dispatch, the store, marks, ranges, the trim point and the takes. -/

namespace Sys2Proof.Machine

/-! ### Notices -/

theorem State.raise_reach {K : List Kind} (s : State) (k : NoticeKind) (sub : Subject) (contents : List Byte)
    (hK : Kind.notice ∈ K) : Reach K s (s.raise k sub contents) := .one (.notice ..) hK

theorem State.raiseStation_reach {K : List Kind} (s : State) (n : StationId) (e : StationEvent) (a b : Option Nat)
    (hK : Kind.notice ∈ K) : Reach K s (s.raiseStation n e a b) := s.raise_reach _ _ _ hK

theorem State.raiseTake_reach {K : List Kind} (s : State) (r : TakeRef) (e : TakeEvent)
    (hK : Kind.notice ∈ K) : Reach K s (s.raiseTake r e) := by
  unfold State.raiseTake; split
  · exact s.raise_reach _ _ _ hK
  · exact .refl

theorem State.raiseSession_reach {K : List Kind} (s : State) (n : Nat) (e : SessionEvent)
    (hK : Kind.notice ∈ K) : Reach K s (s.raiseSession n e) := by
  unfold State.raiseSession; split
  · exact s.raise_reach _ _ _ hK
  · exact .refl

theorem State.raiseReadback_reach {K : List Kind} (s : State) (c : ChannelId) (e : ReadbackEvent) (i : ReadbackInfo)
    (hK : Kind.notice ∈ K) : Reach K s (s.raiseReadback c e i) := s.raise_reach _ _ _ hK

/-! ### The station port -/

theorem State.killGrant_reach {K : List Kind} (s : State) (client : Client) (hK : Kind.orphan ∈ K) :
    Reach K s (s.killGrant client) := by
  refine .one (.orphan _ ?_) hK
  cases s.arbiter.grant with
  | none => rfl
  | some g =>
    simp only [Option.map_some]
    split <;> rfl

/-- The kinds of moves that a port's motion and playout are made of. -/
def motionKinds : List Kind := [.orphan, .port]

theorem State.emptyPlayout_reach (s : State) (n : StationId) : Reach motionKinds s (s.emptyPlayout n) :=
  (s.killGrant_reach (hK := by decide) _).trans (.one (.port n _ (by rfl)) (by decide))

theorem Station.takeMove_still (st : Station) (land : Nat) : (st.takeMove land).still = st.still := by
  unfold Station.takeMove; split <;> rfl

theorem Station.beginBackward_still (st : Station) (playable : Nat → Bool) (start ub p : Nat) :
    (st.beginBackward playable start ub p).still = st.still := by
  unfold Station.beginBackward
  simp only
  split
  · rfl
  · exact st.takeMove_still _

theorem State.beginMotion_reach (s : State) (n : StationId) : Reach motionKinds s (s.beginMotion n) := by
  unfold State.beginMotion
  simp only
  split
  · split
    · exact .refl
    · exact .one (.port n _ rfl) (by decide)
    · exact .one (.port n _ rfl) (by decide)
    · exact .one (.port n _ rfl) (by decide)
    · exact .one (.port n _ (Station.beginBackward_still ..)) (by decide)
  · exact .refl

theorem State.restartPlayout_reach (s : State) (n : StationId) : Reach motionKinds s (s.restartPlayout n) :=
  (s.emptyPlayout_reach n).trans (State.beginMotion_reach _ n)

theorem State.backspace_reach (s : State) (n : StationId) : Reach motionKinds s (s.backspace n) := by
  unfold State.backspace
  simp only
  split
  · exact .one (.port n _ rfl) (by decide)
  · exact .refl

theorem State.setTransport_reach (s : State) (n : StationId) (t : Transport) : Reach motionKinds s (s.setTransport n t) := by
  unfold State.setTransport
  simp only
  split
  · exact .refl
  · exact .trans (.thenIf (.one (.port n _ (by rfl)) (by decide)) fun _ => State.backspace_reach _ n) (State.restartPlayout_reach _ n)

theorem State.stopByPart_reach (s : State) (n : StationId) : Reach motionKinds s (s.stopByPart n) :=
  (s.setTransport_reach n .stopped).trans (.one (.port n _ (by rfl)) (by decide))

theorem State.setStatus_reach (s : State) (n : StationId) (e : StationStatus) (m : Option Nat) :
    Reach motionKinds s (s.setStatus n e m) := .one (.port n _ rfl) (by decide)

theorem State.newCurrent_reach (s : State) (n : StationId) : Reach motionKinds s (s.newCurrent n) :=
  (s.stopByPart_reach n).trans ((Reach.one (.port n _ (by rfl)) (by decide)).trans (State.restartPlayout_reach _ n))

theorem Station.clip_still (st : Station) (e : Nat) : (st.clip e).still = st.still := by
  unfold Station.clip; split <;> rfl

theorem State.clipPlayout_reach (s : State) (n : StationId) (e : Nat) : Reach motionKinds s (s.clipPlayout n e) := by
  unfold State.clipPlayout
  refine .trans ?_ (.one (.port n _ (Station.clip_still ..)) (by decide))
  split
  · exact s.killGrant_reach (hK := by decide) _
  · exact .refl

theorem State.cutStation_reach (s : State) (n : StationId) (e : Nat) : Reach motionKinds s (s.cutStation n e) := by
  unfold State.cutStation
  split
  · split
    · simp only
      exact .thenIf (.trans (.one (.port n _ (by rfl)) (by decide)) (State.emptyPlayout_reach _ n)) fun _ =>
        (State.stopByPart_reach _ n).trans (State.setStatus_reach ..)
    · exact s.clipPlayout_reach n e
  · exact .refl

theorem Station.push_still (st : Station) (f : Nat) (l : Option (List Sample)) : (st.push f l).still = st.still := rfl

theorem Station.nextCycle_still (st : Station) (playable : Nat → Bool) (start ub : Nat) (k : ScanCycle) :
    (st.nextCycle playable start ub k).1.still = st.still := by
  unfold Station.nextCycle
  split
  · split
    · simp only; split <;> rfl
    · exact st.takeMove_still _
  · split
    · simp only; split <;> rfl
    · exact st.beginBackward_still ..
  all_goals rfl

theorem State.handleFrame_still (s : State) (st : Station) (x : Session) (f : Nat) :
    (s.handleFrame st x f).1.still = st.still := by
  unfold State.handleFrame
  simp only
  split
  · rfl
  · split
    · rfl
    · split
      · split <;> rfl
      all_goals rfl

theorem State.readerStep_still (s : State) (st : Station) (t : Take) (x : Session) :
    (s.readerStep st t x).1.still = st.still := by
  have hframe (f : Nat) : (if Config.playFifo ≤ st.fifo.length then (st, false) else s.handleFrame st x f).1.still
      = st.still := by
    split
    · rfl
    · exact s.handleFrame_still ..
  have hwork (f : Nat) : (match st.transport with
      | .stopped => (st, false)
      | .playing | .holding =>
        if (t.stop.any fun e => decide (e < f)) then ({ st with reader := .stopped }, false)
        else if Config.playFifo ≤ st.fifo.length then (st, false)
        else s.handleFrame st x f
      | .scanFwd | .scanBack =>
        match st.cycle with
        | none => ({ st with reader := .stopped }, false)
        | some k =>
          if k.windowEnd < f then st.nextCycle (s.playable st x) t.leadIn (upperBound x t) k
          else if Config.playFifo ≤ st.fifo.length then (st, false)
          else s.handleFrame st x f).1.still = st.still := by
    split
    · rfl
    any_goals (split <;> first | rfl | exact hframe f)
    all_goals
      split
      · rfl
      · split
        · exact st.nextCycle_still ..
        · exact hframe f
  unfold State.readerStep
  split
  · exact hwork _
  · exact hwork _
  · rfl

theorem State.readerSteps_still (s : State) (t : Take) (x : Session) (k : Nat) (st : Station) :
    (s.readerSteps t x k st).still = st.still := by
  induction k generalizing st with
  | zero => rfl
  | succ k ih =>
    unfold State.readerSteps
    simp only
    split
    · rw [ih, s.readerStep_still]
    · exact s.readerStep_still ..

theorem State.runStation_reach (s : State) (n : StationId) : Reach motionKinds s (s.runStation n) := by
  unfold State.runStation
  simp only
  split
  · split
    · exact .one (.port n _ (s.readerSteps_still ..)) (by decide)
    · exact .refl
  · exact .refl

theorem State.runStations_reach (s : State) : Reach motionKinds s s.runStations :=
  Reach.foldl (fun s n => s.runStation_reach n) _ _

theorem Station.startPacket_still (st : Station) (body : List Byte) : (st.startPacket body).still = st.still := by
  unfold Station.startPacket
  repeat' split
  all_goals rfl

theorem State.stationLines_reach (before s : State) : Reach motionKinds s (State.stationLines before s) := by
  unfold State.stationLines
  split
  · exact .refl
  · exact Reach.foldl (fun r n => .one (.port n _ (Station.startPacket_still ..)) (by decide)) _ _

/-! ### Dispatch -/

/-- The kinds of moves that dispatch is made of. -/
def dispatchKinds : List Kind := [.notice, .orphan, .port, .list, .queue, .takeDispatch]

theorem State.leaveList_reach (s : State) (n : StationId) (r : TakeRef) : Reach [.orphan, .port, .list] s (s.leaveList n r) := by
  unfold State.leaveList
  simp only
  exact .thenIf (.one (.list n _ (by rfl)) (by decide)) fun _ => ((State.newCurrent_reach _ n).mono (by decide))

theorem State.joinList_reach (s : State) (n : StationId) (r : TakeRef) : Reach [.orphan, .port, .list] s (s.joinList n r) := by
  unfold State.joinList
  simp only
  exact .thenIf (.one (.list n _ (by rfl)) (by decide)) fun _ => ((State.newCurrent_reach _ n).mono (by decide))

theorem State.atClassTail_reach {K : List Kind} (s : State) (r : TakeRef) (hK : Kind.queue ∈ K) :
    Reach K s (s.atClassTail r) := .one (.queue _) hK

theorem State.atClassHead_reach {K : List Kind} (s : State) (r : TakeRef) (hK : Kind.queue ∈ K) :
    Reach K s (s.atClassHead r) := .one (.queue _) hK

theorem State.dequeue_reach {K : List Kind} (s : State) (r : TakeRef) (hK : Kind.queue ∈ K) :
    Reach K s (s.dequeue r) := .one (.queue _) hK

theorem State.enqueue_reach {K : List Kind} (s : State) (r : TakeRef) (hK : Kind.takeDispatch ∈ K) :
    Reach K s (s.modTake r Take.enqueue) := .one (.takeDispatch r _ fun _ => rfl) hK

theorem State.queueTail_reach (s : State) (r : TakeRef) : Reach dispatchKinds s (s.queueTail r) :=
  ((s.enqueue_reach (hK := by decide) r).trans (State.atClassTail_reach (hK := by decide) _ r)).trans (State.raiseTake_reach (hK := by decide) ..)

theorem State.queueHead_reach (s : State) (r : TakeRef) : Reach dispatchKinds s (s.queueHead r) :=
  ((s.enqueue_reach (hK := by decide) r).trans (State.atClassHead_reach (hK := by decide) _ r)).trans (State.raiseTake_reach (hK := by decide) ..)

theorem State.assign_reach (s : State) (r : TakeRef) (n : StationId) : Reach dispatchKinds s (s.assign r n) :=
  by
  refine .trans (.trans (.trans (s.dequeue_reach (hK := by decide) r) (.one (.takeDispatch r _ ?_) (by decide))) ((State.joinList_reach _ n r).mono (by decide)))
    (State.raiseTake_reach (hK := by decide) ..)
  exact fun _ => rfl

theorem State.matching_reach (s : State) (k : Nat) : Reach dispatchKinds s (s.matching k) := by
  induction k generalizing s with
  | zero => exact .refl
  | succ k ih =>
    unfold State.matching
    split
    · exact ((s.assign_reach _ _).trans (.one (.rotation _) (by decide))).trans (ih _)
    · exact .refl

theorem State.matchingPass_reach (s : State) : Reach dispatchKinds s s.matchingPass := s.matching_reach 32

theorem State.passIfWanting_reach (s : State) (n : StationId) : Reach dispatchKinds s (s.passIfWanting n) := by
  unfold State.passIfWanting; split
  · exact s.matchingPass_reach
  · exact .refl

theorem State.handOver_reach (s : State) (r : TakeRef) : Reach dispatchKinds s (s.handOver r) :=
  (s.queueTail_reach r).trans (State.matchingPass_reach _)

theorem State.reclaim_reach (s : State) (n : StationId) : Reach dispatchKinds s (s.reclaim n) := by
  unfold State.reclaim
  simp only
  refine .trans ?_ (State.matchingPass_reach _)
  have hrefs (l l' l'' : List TakeRef) : Reach dispatchKinds s (l''.foldl (fun s r => s.raiseTake r .dispatch)
      (l'.foldl (fun s r => s.atClassHead r) (l.foldl (fun s r => s.modTake r Take.enqueue)
        (s.modStation n fun st => { st with takes := [] })))) := by
    exact .trans (.trans (.trans (.one (.list n _ (by rfl)) (by decide)) (Reach.foldl (fun s r => s.enqueue_reach (hK := by decide) r) _ _))
      (Reach.foldl (fun s r => s.atClassHead_reach (hK := by decide) r) _ _)) (Reach.foldl (fun s r => s.raiseTake_reach (hK := by decide) r _) _ _)
  exact .unless (hrefs ..) fun _ => (((State.newCurrent_reach _ n).trans (State.setStatus_reach ..)).mono (by decide))

end Sys2Proof.Machine
end

section
/-! SUPPORT. The moves of each operation, continued: the store, marks, ranges, the trim point, the takes and the read-back. -/

namespace Sys2Proof.Machine

/-! ### The store, marks and ranges -/

theorem State.checkCondition_reach (s : State) : Reach [.notice, .trim] s s.checkCondition := by
  unfold State.checkCondition
  simp only
  exact .unless .refl fun _ => .trans (.one (.condition _) (by decide)) (State.raise_reach (hK := by decide) ..)

theorem State.trimStore_reach (s : State) (n : Nat) : Reach [.notice, .trim] s (s.trimStore n) := by
  unfold State.trimStore
  split
  · split
    · exact .trans (.one (.trim ..) (by decide)) (State.checkCondition_reach _)
    · exact .refl
  · exact .refl

/-- The kinds of moves that adding a mark is made of. -/
def markKinds : List Kind := [.notice, .sessionMarks, .marks]

/-- A mark placed is merged with a mark there is, dropped, or inserted under the session's next number (R76, R77). -/
theorem State.placeMark_cases (s : State) (m : Mark) :
    (∃ k, s.placeMark m = (s, .merged k)) ∨ (∃ l, s.placeMark m = (s, .dropped l))
      ∨ ∃ k, s.placeMark m = ((s.modSession m.session fun x => { x with markIssued := k }).setMarks
          (insertBy Mark.before { m with number := k } s.marks), .inserted k) := by
  have hnew (issued : Nat) (p : State × MarkOutcome)
      (hp : p = if 65535 ≤ issued then (s, .dropped .numbers)
        else if m.source.room ≤ s.marks.length then (s, .dropped m.source.limit)
        else ((s.modSession m.session fun x => { x with markIssued := issued + 1 }).setMarks
          (insertBy Mark.before { m with number := issued + 1 } s.marks), .inserted (issued + 1))) :
      (∃ l, p = (s, .dropped l)) ∨ ∃ k, p = ((s.modSession m.session fun x => { x with markIssued := k }).setMarks
          (insertBy Mark.before { m with number := k } s.marks), .inserted k) := by
    rw [hp]
    split
    · exact .inl ⟨_, rfl⟩
    · split
      · exact .inl ⟨_, rfl⟩
      · exact .inr ⟨_, rfl⟩
  unfold State.placeMark
  split
  · exact .inl ⟨_, rfl⟩
  · exact .inr (hnew _ _ rfl)

theorem State.placeMark_reach (s : State) (m : Mark) : Reach markKinds s (s.placeMark m).1 := by
  rcases s.placeMark_cases m with ⟨k, h⟩ | ⟨l, h⟩ | ⟨k, h⟩ <;> rw [h]
  · exact .refl
  · exact .refl
  · exact .trans (.one (.sessionMarks _ _ (by exact fun _ => rfl)) (by decide)) (.one (.marks _) (by decide))

theorem State.addMark_reach (s : State) (m : Mark) : Reach markKinds s (s.addMark m).1 := by
  unfold State.addMark
  simp only
  split
  · exact (s.placeMark_reach m).trans (State.raise_reach (hK := by decide) ..)
  · exact s.placeMark_reach m
  · exact s.placeMark_reach m

theorem State.addReportedMark_reach (s : State) (c : ChannelId) (m : Mark) :
    Reach markKinds s (s.addReportedMark c m).1 := by
  unfold State.addReportedMark
  simp only
  split
  · exact (s.addMark_reach m).trans (State.raise_reach (hK := by decide) ..)
  · exact (s.addMark_reach m).trans (State.raise_reach (hK := by decide) ..)
  · exact s.addMark_reach m

theorem State.trimMarks_reach (s : State) (n p : Nat) : Reach [.sessionTrim, .marks] s (s.trimMarks n p) :=
  .trans (.one (.sessionTrim _ _ (by exact fun _ => rfl)) (by decide)) (.one (.marks _) (by decide))

theorem State.moveMarks_reach {K : List Kind} (s : State) (n e : Nat) (hK : Kind.marks ∈ K) :
    Reach K s (s.moveMarks n e) := .one (.marks _) hK

theorem State.freeMarks_reach {K : List Kind} (s : State) (n : Nat) (hK : Kind.marks ∈ K) :
    Reach K s (s.freeMarks n) := .one (.marks _) hK

theorem State.insertRange_reach (s : State) (x : Session) (g : Range) :
    Reach [.sessionMarks, .ranges] s (s.insertRange x g).1 := by
  unfold State.insertRange
  exact .trans (.one (.sessionMarks _ _ (by exact fun _ => rfl)) (by decide)) (.one (.ranges _) (by decide))

theorem State.keepToggle_reach {K : List Kind} (s : State) (n : Nat) (keep : Nat → Bool) (hK : Kind.toggle ∈ K) :
    Reach K s (s.keepToggle n keep) := by
  unfold State.keepToggle
  split
  · split
    · exact .one (.toggle _ _ rfl) hK
    · exact .refl
  · exact .refl

theorem State.closeRangeAt_reach (s : State) (n k e : Nat) : Reach [.ranges, .toggle] s (s.closeRangeAt n k e) :=
  .trans (.one (.ranges _) (by decide)) (State.keepToggle_reach (hK := by decide) ..)

theorem State.removeRange_reach (s : State) (n k : Nat) : Reach [.ranges, .toggle] s (s.removeRange n k) :=
  .trans (.one (.ranges _) (by decide)) (State.keepToggle_reach (hK := by decide) ..)

theorem State.trimRanges_reach {K : List Kind} (s : State) (n p : Nat) (hK : Kind.ranges ∈ K) :
    Reach K s (s.trimRanges n p) := .one (.ranges _) hK

theorem State.fitRanges_reach (s : State) (n e : Nat) : Reach [.ranges, .toggle] s (s.fitRanges n e) :=
  .trans (.one (.ranges _) (by decide)) (State.keepToggle_reach (hK := by decide) ..)

theorem State.closeOpenRanges_reach (s : State) (n : Nat) (e : Option Nat) :
    Reach [.ranges, .toggle] s (s.closeOpenRanges n e) := .trans (.one (.ranges _) (by decide)) (State.keepToggle_reach (hK := by decide) ..)

theorem State.freeRanges_reach {K : List Kind} (s : State) (n : Nat) (hK : Kind.ranges ∈ K) :
    Reach K s (s.freeRanges n) := .one (.ranges _) hK

/-! ### The trim point (R41) -/

/-- The kinds of moves that recomputing a trim point is made of. -/
def trimKinds : List Kind := [.notice, .sessionTrim, .marks, .ranges, .trim]

theorem State.recomputeTrim_reach (s : State) (n : Nat) : Reach trimKinds s (s.recomputeTrim n) := by
  unfold State.recomputeTrim
  split
  · next x _ =>
    have hset : Reach trimKinds s (s.modSession n fun y => { y with trimPoint := s.trimPointOf x }) :=
      .one (.sessionTrim _ _ (by exact fun _ => rfl)) (by decide)
    simp only
    split
    · exact ((s.trimStore_reach n).mono (by decide))
    · split
      · exact hset.trans ((((State.trimMarks_reach ..).mono (by decide)).trans (State.trimRanges_reach (hK := by decide) ..)).trans
          ((State.trimStore_reach ..).mono (by decide)))
      · exact hset
  · exact .refl

/-! ### The takes -/

theorem State.modTake_reach {K : List Kind} (s : State) (r : TakeRef) {f : Take → Take} (h : ∀ t, (f t).sansBody = t.sansBody)
    (hK : Kind.takeBody ∈ K) : Reach K s (s.modTake r f) :=
  .one (.takeBody _ fun t => by split; exacts [h t, rfl]) hK

/-- The kinds of moves that opening, cutting and ending a take is made of. -/
def takeKinds : List Kind :=
  [.notice, .orphan, .port, .list, .queue, .takeDispatch, .takeBody, .takeTable, .session, .takeCount, .sessionTrim, .marks,
    .ranges, .trim]

theorem State.openTake_reach (s : State) (n leadIn core : Nat) :
    Reach [.notice, .takeTable, .takeCount, .sessionTrim, .marks, .ranges, .trim] s (s.openTake n leadIn core) := by
  unfold State.openTake
  split
  · simp only
    exact .trans (.trans (.trans (.one (.takeTable _) (by decide)) (.one (.takeCount _ _ (by exact fun x => ⟨rfl, rfl, Nat.le_succ _⟩)) (by decide)))
      (State.raiseTake_reach (hK := by decide) ..)) ((State.recomputeTrim_reach ..).mono (by decide))
  · exact .refl

theorem State.openFirstTake_reach (s : State) (n first : Nat) : Reach takeKinds s (s.openFirstTake n first) := by
  unfold State.openFirstTake
  simp only
  refine .trans ((s.openTake_reach n first first).mono (by decide)) ?_
  split
  · exact .thenIf .refl fun _ => ((State.handOver_reach ..).mono (by decide))
  · exact .refl

theorem State.closeTake_reach (s : State) (r : TakeRef) (e : Nat) (k : CutKind) :
    Reach [.notice, .takeBody] s (s.closeTake r e k) :=
  (s.modTake_reach (hK := by decide) r (by exact fun _ => rfl)).trans (State.raiseTake_reach (hK := by decide) ..)

/-- What a cut that closes a take at `e` does to the station whose current take it is, when there is one (R133). -/
def State.cutPlaying (s : State) (r : TakeRef) (e : Nat) : State :=
  match s.stationPlaying r with
  | some st => s.cutStation st e
  | none => s

theorem State.cutPlaying_reach (s : State) (r : TakeRef) (e : Nat) : Reach motionKinds s (s.cutPlaying r e) := by
  unfold State.cutPlaying
  split
  · exact s.cutStation_reach ..
  · exact .refl

/-- The take a cut ends, closed, with the cut state of its session returned to no (R57). -/
def State.cutClosed (s : State) (x : Session) (n m c : Nat) (k : CutKind) : State :=
  (((s.modTake ⟨n, m⟩ fun t => { t with lostFrames := t.lostFrames - if k = .soft then s.lostFrom x c else 0 }).closeTake
    ⟨n, m⟩ (c - 1) k).modSession n Session.clearCut).cutPlaying ⟨n, m⟩ (c - 1)

/-- The next take, opened at a cut (R58). -/
def State.cutOpened (s : State) (x : Session) (t : Take) (n m c : Nat) (k : CutKind) : State :=
  (s.cutClosed x n m c k).openTake n (leadInAt c (overlapOf x.planInForce k) t.leadIn (x.firstStored.getD 0)) c

/-- A cut closes the open take, opens the next, and hands over as the session's dispatch mode gives (R57, R58, R68). -/
theorem State.makeCut_eq {s : State} {n m : Nat} {x : Session} {t : Take} (c : Nat) (k : CutKind) (hx : s.session? n = some x)
    (hm : x.openTake = some m) (ht : s.take? ⟨n, m⟩ = some t) :
    s.makeCut n c k =
      if x.dispatchMode = .live then
        (if x.dispatchMode = .onClose ∧ t.dispatch = .unqueued then (s.cutOpened x t n m c k).handOver ⟨n, m⟩
          else s.cutOpened x t n m c k).handOver ⟨n, x.takeCount + 1⟩
      else if x.dispatchMode = .onClose ∧ t.dispatch = .unqueued then (s.cutOpened x t n m c k).handOver ⟨n, m⟩
      else s.cutOpened x t n m c k := by
  simp only [State.makeCut, hx, hm, ht]
  rfl

theorem State.cutClosed_reach (s : State) (x : Session) (n m c : Nat) (k : CutKind) :
    Reach [.notice, .orphan, .port, .takeBody, .session] s (s.cutClosed x n m c k) := by
  have hplaying (u : State) : Reach [.notice, .orphan, .port, .takeBody, .session] u (u.cutPlaying ⟨n, m⟩ (c - 1)) :=
    ((u.cutPlaying_reach ..).mono (by decide))
  have hcut (u : State) : Reach [.notice, .orphan, .port, .takeBody, .session] u (u.modSession n Session.clearCut) :=
    .one (.session _ _ fun _ => ⟨rfl, rfl, rfl⟩) (by decide)
  have hclose (u : State) : Reach [.notice, .orphan, .port, .takeBody, .session] u (u.closeTake ⟨n, m⟩ (c - 1) k) :=
    ((u.closeTake_reach ..).mono (by decide))
  unfold State.cutClosed
  exact .trans (.trans (.trans (s.modTake_reach (hK := by decide) _ (by exact fun _ => rfl)) (hclose _)) (hcut _)) (hplaying _)

theorem State.cutOpened_reach (s : State) (x : Session) (t : Take) (n m c : Nat) (k : CutKind) :
    Reach takeKinds s (s.cutOpened x t n m c k) :=
  ((s.cutClosed_reach x n m c k).mono (by decide)).trans ((State.openTake_reach _ n _ c).mono (by decide))

theorem State.makeCut_reach (s : State) (n c : Nat) (k : CutKind) : Reach takeKinds s (s.makeCut n c k) := by
  cases hx : s.session? n with
  | none => simp only [State.makeCut, hx]; exact .refl
  | some x =>
    cases hm : x.openTake with
    | none => simp only [State.makeCut, hx, hm]; exact .refl
    | some m =>
      cases ht : s.take? ⟨n, m⟩ with
      | none => simp only [State.makeCut, hx, hm, ht]; exact .refl
      | some t =>
        rw [State.makeCut_eq c k hx hm ht]
        have hhand (u : State) (r : TakeRef) : Reach takeKinds u (u.handOver r) := ((u.handOver_reach r).mono (by decide))
        exact .thenIf (.thenIf (s.cutOpened_reach x t n m c k) fun _ => hhand ..) fun _ => hhand ..

theorem State.extendTake_reach (s : State) (x : Session) (m : Nat) : Reach [.notice, .session] s (s.extendTake x m) :=
  .unless .refl fun _ => .trans (.one (.session _ _ (by exact fun _ => ⟨rfl, rfl, rfl⟩)) (by decide)) (State.raise_reach (hK := by decide) ..)

theorem State.cutSearch_reach (s : State) (n f quiet : Nat) : Reach takeKinds s (s.cutSearch n f quiet) := by
  unfold State.cutSearch
  split
  · split
    · split
      · refine .unless .refl fun _ => ?_
        split
        · exact .unless .refl fun _ => by
            split
            · exact ((s.extendTake_reach ..).mono (by decide))
            · exact s.makeCut_reach ..
        · exact .refl
      · exact .refl
    · exact .refl
  · exact .refl

theorem State.withdraw_reach (s : State) (t : Take) : Reach [.orphan, .port, .list, .queue] s (s.withdraw t) := by
  unfold State.withdraw
  split
  · exact s.dequeue_reach (hK := by decide) _
  · exact .thenIf ((s.leaveList_reach ..).mono (by decide)) fun _ => ((State.setStatus_reach ..).mono (by decide))
  · exact .thenIf ((s.leaveList_reach ..).mono (by decide)) fun _ => ((State.setStatus_reach ..).mono (by decide))
  · exact .refl

theorem State.passAfter_reach (s : State) (t : Take) : Reach dispatchKinds s (s.passAfter t) := by
  unfold State.passAfter
  split
  · exact s.passIfWanting_reach _
  · exact s.passIfWanting_reach _
  · exact .refl

theorem State.discardTake_reach (s : State) (r : TakeRef) : Reach takeKinds s (s.discardTake r) := by
  unfold State.discardTake
  split
  · simp only
    exact .trans (.trans (.trans (.trans (.trans (s.raiseTake_reach (hK := by decide) ..) ((State.withdraw_reach ..).mono (by decide))) (.one (.takeTable _) (by decide)))
      (.one (.session _ _ (by exact fun _ => ⟨rfl, rfl, rfl⟩)) (by decide))) ((State.recomputeTrim_reach ..).mono (by decide))) ((State.passAfter_reach ..).mono (by decide))
  · exact .refl

theorem State.closeFinalTake_reach (s : State) (n : Nat) : Reach takeKinds s (s.closeFinalTake n) := by
  have hclear {u : State} {f : Session → Session}
      (hf : ∀ x, (f x).number = x.number ∧ (f x).channel = x.channel ∧ (f x).takeCount = x.takeCount) :
      Reach takeKinds u (u.modSession n f) := .one (.session _ _ hf) (by decide)
  unfold State.closeFinalTake
  split
  · split
    · simp only
      split
      · exact .ite (fun _ => (s.discardTake_reach _).trans (hclear fun _ => ⟨rfl, rfl, rfl⟩)) fun _ =>
          .thenIf (.trans ((s.closeTake_reach ..).mono (by decide)) (hclear fun _ => ⟨rfl, rfl, rfl⟩)) fun _ => ((State.handOver_reach ..).mono (by decide))
      · exact (s.discardTake_reach _).trans (hclear fun _ => ⟨rfl, rfl, rfl⟩)
      · exact hclear (by exact fun _ => ⟨rfl, rfl, rfl⟩)
    · exact hclear (by exact fun _ => ⟨rfl, rfl, rfl⟩)
  · exact .refl

theorem State.countLost_reach {K : List Kind} (s : State) (n f : Nat) (hK : Kind.takeBody ∈ K) :
    Reach K s (s.countLost n f) := .one (.takeBody _ fun t => by split <;> rfl) hK

/-! ### Read-back -/

/-- The kinds of moves that starting and ending read-back entries is made of. -/
def readbackKinds : List Kind :=
  [.notice, .orphan, .unit, .takeBody, .sessionTrim, .sessionMarks, .marks, .ranges, .trim]

theorem State.addReadbackMark_reach (s : State) (c : ChannelId) (kind : MarkKind) (e : ReadbackEntry) (a b : Nat) :
    Reach markKinds s (s.addReadbackMark c kind e a b).1 := by
  unfold State.addReadbackMark
  split
  · exact s.addMark_reach _
  · exact .refl

theorem State.flagOpenTake_reach {K : List Kind} (s : State) (c : ChannelId) (hK : Kind.takeBody ∈ K) :
    Reach K s (s.flagOpenTake c) := by
  unfold State.flagOpenTake
  split
  · split
    · exact s.modTake_reach _ (fun _ => rfl) hK
    · exact .refl
  · exact .refl

theorem State.playEntry_reach (s : State) (c : ChannelId) (e : ReadbackEntry) (a b : Nat) :
    Reach readbackKinds s (s.playEntry c e a b) := by
  unfold State.playEntry
  simp only
  exact .trans (.trans (.trans (.trans (.trans (.one (.unit _ _ (by rfl)) (by decide)) ((State.recomputeTrim_reach ..).mono (by decide)))
    ((State.addReadbackMark_reach ..).mono (by decide))) (.one (.unit _ _ (by rfl)) (by decide))) (State.flagOpenTake_reach (hK := by decide) ..))
    (State.raiseReadback_reach (hK := by decide) ..)

theorem State.startEntry_reach (s : State) (c : ChannelId) (e : ReadbackEntry) :
    Reach readbackKinds s (s.startEntry c e).1 := by
  unfold State.startEntry
  split
  · exact s.playEntry_reach ..
  · exact s.raiseReadback_reach (hK := by decide) ..

theorem State.startPending_reach (s : State) (c : ChannelId) (k : Nat) : Reach readbackKinds s (s.startPending c k).1 := by
  induction k generalizing s with
  | zero => exact .refl
  | succ k ih =>
    unfold State.startPending
    split
    · exact .refl
    · next e rest _ =>
      have hstart : Reach readbackKinds s ((s.modReadback c fun u => { u with pending := rest }).startEntry c e).1 :=
        .trans (.one (.unit _ _ (by rfl)) (by decide)) (State.startEntry_reach ..)
      simp only
      split
      · exact hstart
      · exact hstart.trans (ih _)

theorem State.startNext_reach (s : State) (c : ChannelId) : Reach readbackKinds s (s.startNext c).1 :=
  s.startPending_reach c _

theorem State.finishEntry_reach (s : State) (c : ChannelId) (e : ReadbackEvent) :
    Reach readbackKinds s (s.finishEntry c e) := by
  unfold State.finishEntry
  split
  · exact .refl
  · simp only
    exact .trans (.trans (.trans (.trans (State.killGrant_reach (hK := by decide) ..) (.one (.unit _ _ (by rfl)) (by decide)))
      ((State.recomputeTrim_reach ..).mono (by decide))) ((State.addReadbackMark_reach ..).mono (by decide))) (State.raiseReadback_reach (hK := by decide) ..)

theorem State.drainTest_reach {K : List Kind} (s : State) (c : ChannelId) (before : Nat)
    (hK : Kind.notice ∈ K) : Reach K s (s.drainTest c before) :=
  .thenIf .refl fun _ => s.raiseReadback_reach c _ _ hK

theorem State.startAfter_reach (s : State) (c : ChannelId) (before : Nat) : Reach readbackKinds s (s.startAfter c before) :=
  (s.startNext_reach c).trans (State.drainTest_reach (hK := by decide) ..)

theorem State.endEntry_reach (s : State) (c : ChannelId) (e : ReadbackEvent) : Reach readbackKinds s (s.endEntry c e) :=
  (s.finishEntry_reach c e).trans (State.startAfter_reach ..)

theorem State.discardPending_reach (s : State) (c : ChannelId) : Reach [.notice, .unit] s (s.discardPending c) :=
  .unless (.one (.unit _ _ (by rfl)) (by decide)) fun _ => State.raiseReadback_reach (hK := by decide) ..

theorem Readback.advance_still (u : Readback) (f stop : Nat) : (u.advance f stop).still = u.still := by
  unfold Readback.advance; split <;> rfl

theorem State.readbackStep_reach (s : State) (c : ChannelId) : Reach readbackKinds s (s.readbackStep c).1 := by
  have hset {g : Readback → Readback} (hg : (g (s.readback.get c)).still = (s.readback.get c).still) :
      Reach readbackKinds s (s.modReadback c g) := .one (.unit _ _ hg) (by decide)
  have hhandled {g : Readback → Readback} (hg : (g (s.readback.get c)).still = (s.readback.get c).still) (n : Nat) :
      Reach readbackKinds s ((s.modReadback c g).recomputeTrim n) := (hset hg).trans ((State.recomputeTrim_reach ..).mono (by decide))
  unfold State.readbackStep
  simp only
  repeat' split
  all_goals first
    | exact .refl
    | exact s.endEntry_reach ..
    | exact hset (g := fun u => { u with reader := _, finished := _ }) rfl
    | (refine hhandled ?_ _; exact Readback.advance_still ..)

theorem State.readbackSteps_reach (s : State) (c : ChannelId) (k : Nat) : Reach readbackKinds s (s.readbackSteps c k) := by
  induction k generalizing s with
  | zero => exact .refl
  | succ k ih =>
    unfold State.readbackSteps
    simp only
    split
    · exact (s.readbackStep_reach c).trans (ih _)
    · exact s.readbackStep_reach c

theorem State.runReadbacks_reach (s : State) : Reach readbackKinds s s.runReadbacks :=
  Reach.foldl (fun s c => s.readbackSteps_reach c _) _ _

end Sys2Proof.Machine
end

section
/-! SUPPORT. The moves of each operation, continued: the exporter, the session table, the capture channels, the link and the
arbiter. -/

namespace Sys2Proof.Machine

/-! ### The exporter -/

/-- The kinds of moves that the exporter is made of. -/
def exportKinds : List Kind := [.notice, .orphan, .sessionTrim, .marks, .ranges, .trim, .exporter]

theorem State.endExport_reach (s : State) (why : EndReason) : Reach exportKinds s (s.endExport why) := by
  unfold State.endExport
  simp only
  exact .onlyIf fun _ => .trans (.trans (s.killGrant_reach (hK := by decide) _) (.one (.exporter _) (by decide))) ((State.recomputeTrim_reach ..).mono (by decide))

theorem State.exportStep_reach (s : State) : Reach exportKinds s s.exportStep.1 := by
  have hset (g : Exporter → Exporter) : Reach exportKinds s (s.modExporter g) := .one (.exporter g) (by decide)
  have hhandled (g : Exporter → Exporter) (n : Nat) : Reach exportKinds s ((s.modExporter g).recomputeTrim n) :=
    (hset g).trans ((State.recomputeTrim_reach ..).mono (by decide))
  unfold State.exportStep
  simp only
  repeat' split
  all_goals first
    | exact .refl
    | exact s.endExport_reach _
    | exact hhandled ..
    | exact hset fun e => { e with reader := _ }

theorem State.exportSteps_reach (s : State) (k : Nat) : Reach exportKinds s (s.exportSteps k) := by
  induction k generalizing s with
  | zero => exact .refl
  | succ k ih =>
    unfold State.exportSteps
    simp only
    split
    · exact s.exportStep_reach.trans (ih _)
    · exact s.exportStep_reach

theorem State.runExport_reach (s : State) : Reach exportKinds s s.runExport := s.exportSteps_reach _

/-! ### The session table -/

theorem State.startRecording_reach (s : State) (c : ChannelId) (n first : Nat) :
    Reach (.channelRun :: takeKinds) s (s.startRecording c n first) := by
  unfold State.startRecording
  exact .trans (.trans (.trans (.one (.channelRun _ _ (by rfl)) (by decide)) (.one (.session _ _ (by exact fun _ => ⟨rfl, rfl, rfl⟩)) (by decide)))
    (State.raiseSession_reach (hK := by decide) ..)) ((State.openFirstTake_reach ..).mono (by decide))

/-- The kinds of moves that the freeing of a session is made of. -/
def freeKinds : List Kind := .storeFree :: .sessionGone :: .exporter :: readbackKinds

theorem State.freeSession_reach (s : State) (n : Nat) : Reach freeKinds s (s.freeSession n) := by
  unfold State.freeSession
  split
  · exact .refl
  · next x _ =>
    simp only
    have hcheck (u : State) : Reach freeKinds u u.checkCondition := (u.checkCondition_reach.mono (by decide))
    have hfinish (u : State) (c : ChannelId) : Reach freeKinds u (u.finishEntry c .endedShort) :=
      ((u.finishEntry_reach ..).mono (by decide))
    have hexport (u : State) : Reach freeKinds u (u.endExport .short) := ((u.endExport_reach _).mono (by decide))
    have hafter (u : State) (c : ChannelId) (b : Nat) : Reach freeKinds u (u.startAfter c b) := ((u.startAfter_reach ..).mono (by decide))
    exact .trans (.thenIf (.trans (.trans (.thenIf (.thenIf (.trans (.trans (.trans (.one (.storeFree n) (by decide)) (hcheck _))
      (State.freeMarks_reach (hK := by decide) ..)) (State.freeRanges_reach (hK := by decide) ..)) fun _ => hfinish ..) fun _ => hexport _)
      (.one (.exporter _) (by decide))) (.one (.sessionGone n) (by decide))) fun _ => hafter ..) (State.raise_reach (hK := by decide) ..)

theorem State.freeIfDone_reach (s : State) (n : Nat) : Reach freeKinds s (s.freeIfDone n) := by
  unfold State.freeIfDone
  split
  · exact .onlyIf fun _ => s.freeSession_reach n
  · exact .refl

theorem State.closeArmed_reach (s : State) (c : ChannelId) (n : Nat) (why : CloseReason) (last : Option Nat) :
    Reach (.capture :: .session :: freeKinds) s (s.closeArmed c n why last) :=
  .trans (.trans (.one (.capture _ _ (by rfl)) (by decide)) (.one (.session _ _ (by exact fun _ => ⟨rfl, rfl, rfl⟩)) (by decide)))
    ((State.freeIfDone_reach ..).mono (by decide))

theorem State.stopTaking_reach (s : State) (c : ChannelId) (n : Nat) (why : CloseReason) :
    Reach [.notice, .session, .marks, .ranges, .toggle, .capture] s (s.stopTaking c n why) := by
  have hmark (u : State) (e : Nat) : Reach [.notice, .session, .marks, .ranges, .toggle, .capture] u (u.moveMarks n e) :=
    u.moveMarks_reach (hK := by decide) ..
  have hstop (u : State) : Reach [.notice, .session, .marks, .ranges, .toggle, .capture] u
      (match s.arrivedOf n with | some e => (u.moveMarks n e).fitRanges n e | none => u) := by
    split
    · exact (hmark ..).trans ((State.fitRanges_reach ..).mono (by decide))
    · exact .refl
  exact .trans (.trans (.trans (.one (.capture _ _ (by rfl)) (by decide)) (.one (.session _ _ (by exact fun _ => ⟨rfl, rfl, rfl⟩)) (by decide)))
    (hstop _)) (State.raiseSession_reach (hK := by decide) ..)

/-- The kinds of moves that gap runs are made of. -/
def gapKinds : List Kind := [.notice, .sessionTrim, .sessionMarks, .marks]

theorem State.endGap_reach (s : State) (n : Nat) : Reach gapKinds s (s.endGap n) := by
  unfold State.endGap
  split
  · split
    · exact .trans (.one (.sessionTrim _ _ (by exact fun _ => rfl)) (by decide)) (State.raise_reach (hK := by decide) ..)
    · exact .refl
  · exact .refl

theorem State.beginGap_reach (s : State) (n f : Nat) (cause : LostCause) : Reach gapKinds s (s.beginGap n f cause) := by
  have hset (u : State) (g : GapRun) (l : List Byte) :
      Reach gapKinds u ((u.modSession n fun y => { y with gapRun := some g }).raise .gap (.session n) l) :=
    .trans (.one (.sessionTrim _ _ (by exact fun _ => rfl)) (by decide)) (State.raise_reach (hK := by decide) ..)
  unfold State.beginGap
  split
  · simp only
    split
    · exact hset ..
    · exact ((s.addMark_reach _).mono (by decide)).trans (hset ..)
  · exact .refl

theorem State.growGap_reach (s : State) (n : Nat) (g : GapRun) : Reach gapKinds s (s.growGap n g) := by
  have hset : Reach gapKinds s (s.modSession n fun y => { y with gapRun := some { g with length := g.length + 1 } }) :=
    .one (.sessionTrim _ _ (by exact fun _ => rfl)) (by decide)
  unfold State.growGap
  simp only
  split
  · exact hset.trans (.one (.marks _) (by decide))
  · exact hset

theorem State.gapLost_reach (s : State) (n f : Nat) (cause : LostCause) : Reach gapKinds s (s.gapLost n f cause) := by
  unfold State.gapLost
  split
  · split
    · exact .ite (fun _ => s.growGap_reach ..) fun _ => (s.endGap_reach n).trans (State.beginGap_reach ..)
    · exact s.beginGap_reach ..
  · exact .refl

/-- The kinds of moves that settling a frame is made of. -/
def settledKinds : List Kind := .session :: .takeBody :: .trim :: gapKinds

theorem State.settleStored_reach (s : State) (n f : Nat) : Reach settledKinds s (s.settleStored n f) := by
  unfold State.settleStored
  exact .trans (.trans (.one (.session _ _ (by exact fun _ => ⟨rfl, rfl, rfl⟩)) (by decide)) ((State.endGap_reach ..).mono (by decide)))
    ((State.trimStore_reach ..).mono (by decide))

theorem State.settleLost_reach (s : State) (n f : Nat) (cause : LostCause) :
    Reach settledKinds s (s.settleLost n f cause) := by
  unfold State.settleLost
  exact .trans (.trans (.trans (.one (.session _ _ (by exact fun _ => by cases cause <;> exact ⟨rfl, rfl, rfl⟩)) (by decide))
    ((State.gapLost_reach ..).mono (by decide))) (State.countLost_reach (hK := by decide) ..)) ((State.trimStore_reach ..).mono (by decide))

/-- The kinds of moves that what follows at once from a command is made of. -/
def settleKinds : List Kind :=
  [.notice, .sending, .orphan, .grant, .port, .list, .queue, .takeDispatch, .takeBody, .takeTable, .session, .sessionTrim,
    .sessionMarks, .takeCount, .sessionGone, .marks, .ranges, .toggle, .channelRun, .unit, .exporter, .trim, .storeFree,
    .place]

/-- The kinds of moves that settling is made of before the port is granted. -/
def drainKinds : List Kind := settleKinds.erase .grant

theorem State.completeSession_reach (s : State) (c : ChannelId) (n : Nat) : Reach drainKinds s (s.completeSession c n) := by
  have hend (u : State) : Reach drainKinds u (u.endGap n) := ((u.endGap_reach n).mono (by decide))
  have hfinal (u : State) : Reach drainKinds u (u.closeFinalTake n) := ((u.closeFinalTake_reach n).mono (by decide))
  have hopen (u : State) (e : Option Nat) : Reach drainKinds u (u.closeOpenRanges n e) := ((u.closeOpenRanges_reach ..).mono (by decide))
  have hclosed (u : State) : Reach drainKinds u (u.modSession n fun x => { x with phase := .closed }) :=
    .one (.session _ _ fun _ => ⟨rfl, rfl, rfl⟩) (by decide)
  have hoff (u : State) : Reach drainKinds u (u.modChannel c Channel.off) := .one (.channelRun _ _ rfl) (by decide)
  unfold State.completeSession
  exact .trans (.trans (.trans (.trans (.trans (.trans (hend _) (hfinal _)) (hopen ..)) (hclosed _))
    (State.raiseSession_reach (hK := by decide) ..)) (hoff _)) ((State.freeIfDone_reach ..).mono (by decide))

end Sys2Proof.Machine
end

section
/-! SUPPORT. The moves of each operation, continued: the arbiter and the link, the capture channels and their events. -/

namespace Sys2Proof.Machine

/-! ### The link -/

theorem State.transmit_reach (s : State) : Reach [.sending, .exporter] s s.transmit := by
  have hline (r : List Reply) (n : List Notice) (o : Option Outbound) :
      Reach [.sending, .exporter] s (s.modLink fun l => { l with replies := r, notices := n, line := o }) :=
    .one (.sending r n o) (by decide)
  unfold State.transmit
  split
  · exact .refl
  · split
    · exact hline _ s.link.notices _
    · split
      · exact hline s.link.replies _ _
      · split
        · exact .refl
        · exact hline s.link.replies s.link.notices _
        · split
          · exact (hline s.link.replies s.link.notices _).trans (.one (.exporter _) (by decide))
          · exact .refl

theorem State.finish_reach (before s : State) : Reach [.sending, .orphan, .port, .exporter] s (State.finish before s) :=
  (s.transmit_reach.mono (by decide)).trans ((State.stationLines_reach ..).mono (by decide))

theorem State.discardMessage_reach (s : State) (cause : LinkCause) : Reach [.notice, .link] s (s.discardMessage cause) := by
  refine .trans (.one (.link _ (by rfl) (by rfl) ?_ (Within.refl _ _) (Within.refl _ _)) (by decide)) (State.raise_reach (hK := by decide) ..)
  exact fun _ => Nat.min_le_left ..

theorem State.recordReply_reach (s : State) (r : Reply) : Reach [.link] s (s.recordReply r) :=
  .one (.link _ rfl rfl (Within.refl _ _) (Within.refl _ _) (Within.refl _ _)) (by decide)

theorem State.takeRequest_reach (s : State) : Reach [.link] s s.takeRequest := by
  unfold State.takeRequest
  split
  · next r rest _ hbuffer =>
    have htaken : Reach [.link] s (s.modLink fun l => { l with buffer := rest, inProgress := some ⟨r, none⟩ }) :=
      .one (.link _ rfl rfl (Within.refl _ _) (Within.refl _ _) fun h => by
        rw [hbuffer] at h
        exact Nat.le_trans (Nat.le_succ _) h) (by decide)
    simp only
    split
    · exact htaken.trans (State.recordReply_reach ..)
    · exact htaken
  · exact .refl

theorem State.receiveRequest_reach (s : State) (r : Request) : Reach [.notice, .link] s (s.receiveRequest r) := by
  unfold State.receiveRequest
  split
  · next hroom =>
    have hjoin : Reach [.notice, .link] s (s.modLink fun l => { l with buffer := l.buffer ++ [r] }) :=
      .one (.link _ rfl rfl (Within.refl _ _) (Within.refl _ _) fun _ => by
        simpa using hroom) (by decide)
    exact hjoin.trans ((State.takeRequest_reach _).mono (by decide))
  · exact .ite (fun _ => .one (.link _ rfl rfl (Within.refl _ _) (Within.refl _ _) (Within.refl _ _)) (by decide)) fun _ =>
      s.discardMessage_reach _

/-- A request command's moves are its rule's, and those of its taking and its reply. -/
theorem State.performRequest_reach {K : List Kind} {i : Instr} {f : State → State × Answer} (s : State)
    (hf : ∀ u, Reach K u (f u).1) (hlink : Kind.link ∈ K) : Reach K s (s.performRequest i f) := by
  have hwith (r : Request) : Reach K s (s.withRequest r) := by
    unfold State.withRequest
    split
    · exact .refl
    · exact .one (.link _ rfl rfl (Within.refl _ _) (Within.refl _ _) (Within.refl _ _)) hlink
  have hreply (u : State) (r : Reply) : Reach K u (u.recordReply r) :=
    (u.recordReply_reach r).mono fun k hk => by rw [List.mem_singleton.mp hk]; exact hlink
  unfold State.performRequest
  split
  · split
    · simp only
      exact .ite (fun _ => (hwith _).trans (hreply ..)) fun _ => (hwith _).trans ((hf _).trans (hreply ..))
    · exact .refl
  · exact .refl

/-! ### The arbiter -/

theorem State.setGrant_reach {K : List Kind} (s : State) (k : Client) (b slot : Nat) (hK : Kind.grant ∈ K) :
    Reach K s (s.setGrant k b slot) := .one (.grant _ rfl rfl) hK

theorem State.popCapture_reach {K : List Kind} (s : State) (c : ChannelId) (hK : Kind.channelRun ∈ K) :
    Reach K s (s.popCapture c) := .one (.channelRun _ _ rfl) hK

theorem State.channelSession?_mem {s : State} {c : ChannelId} {x : Session} (h : s.channelSession? c = some x) :
    x ∈ s.sessions := by
  unfold State.channelSession? at h
  split at h
  · exact List.mem_of_find?_eq_some h
  · exact absurd h (by simp)

/-- The kinds of moves that a grant is made of. -/
def grantKinds : List Kind := .grant :: .channelRun :: .place :: settledKinds

theorem State.grantCapture_reach (s : State) (c : ChannelId) : Reach grantKinds s (s.grantCapture c) := by
  have hgo {x : Session} (hx : s.channelSession? c = some x) (f : Nat) : Reach grantKinds s
      (match s.store.place x.number f with
      | some (st, b, slot) => ((s.modStore fun _ => st).setGrant (.capture c) b slot).checkCondition
      | none => (s.popCapture c).settleLost x.number f .storeFull) := by
    split
    · next hplace =>
      exact .trans (.trans (.one (.place _ f _ _ _ (List.mem_map_of_mem (State.channelSession?_mem hx)) hplace) (by decide))
        (State.setGrant_reach (hK := by decide) ..)) ((State.checkCondition_reach _).mono (by decide))
    · exact .trans (s.popCapture_reach (hK := by decide) c) ((State.settleLost_reach ..).mono (by decide))
  unfold State.grantCapture
  split
  · next x hx =>
    split
    · exact hgo hx _
    · exact hgo hx _
    · exact .refl
    · exact .refl
  · exact .refl

theorem State.grantTo_reach (s : State) (k : Client) : Reach grantKinds s (s.grantTo k) := by
  unfold State.grantTo
  split
  · exact s.setGrant_reach (hK := by decide) ..
  · exact s.grantCapture_reach _
  · split
    · exact s.setGrant_reach (hK := by decide) ..
    all_goals exact .refl
  · split
    · exact .trans (.one (.grant _ (by rfl) (by rfl)) (by decide)) (State.setGrant_reach (hK := by decide) ..)
    all_goals exact .refl
  · split
    · exact s.setGrant_reach (hK := by decide) ..
    all_goals exact .refl

theorem State.drainLost_reach (s : State) (c : ChannelId) (k : Nat) :
    Reach (.channelRun :: settledKinds) s (s.drainLost c k) := by
  induction k generalizing s with
  | zero => exact .refl
  | succ k ih =>
    unfold State.drainLost
    split
    · exact ((s.popCapture_reach (hK := by decide) c).trans ((State.settleLost_reach ..).mono (by decide))).trans (ih _)
    · exact .refl

theorem State.settleChannel_reach (s : State) (c : ChannelId) : Reach drainKinds s (s.settleChannel c) := by
  have hdrain (k : Nat) : Reach drainKinds s (s.drainLost c k) := ((s.drainLost_reach c k).mono (by decide))
  unfold State.settleChannel
  simp only
  split
  · exact .thenIf (hdrain _) fun _ => State.completeSession_reach ..
  · exact hdrain _

theorem State.settleChannels_reach (s : State) : Reach drainKinds s s.settleChannels :=
  Reach.foldl (fun s c => s.settleChannel_reach c) _ _

theorem State.settleOnce_reach (s : State) : Reach drainKinds s s.settleOnce := by
  have hreadbacks (u : State) : Reach drainKinds u u.runReadbacks := (u.runReadbacks_reach.mono (by decide))
  have hstations (u : State) : Reach drainKinds u u.runStations := (u.runStations_reach.mono (by decide))
  have hexport (u : State) : Reach drainKinds u u.runExport := (u.runExport_reach.mono (by decide))
  have hsend (u : State) : Reach drainKinds u u.transmit := (u.transmit_reach.mono (by decide))
  exact ((((s.settleChannels_reach.trans (hreadbacks _)).trans (hstations _)).trans (hexport _)).trans (hsend _)).trans
    (hexport _)

theorem State.decideGrant_reach (s : State) : Reach grantKinds s s.decideGrant := by
  unfold State.decideGrant
  split
  · exact .refl
  · split
    · exact s.grantTo_reach _
    · exact .refl

/-- A round settles; when the port is then FREE and a client requests, a decision and the next round follow. -/
theorem State.settleRounds_succ (s : State) (k : Nat) :
    s.settleRounds (k + 1) = if s.settleOnce.arbiter.grant = none ∧ s.settleOnce.chooseClient ≠ none then
      s.settleOnce.decideGrant.settleRounds k else s.settleOnce := by
  change (match s.settleOnce.arbiter.grant, s.settleOnce.chooseClient with
    | none, some _ => s.settleOnce.decideGrant.settleRounds k
    | _, _ => s.settleOnce) = _
  generalize s.settleOnce = u
  cases u.arbiter.grant <;> cases u.chooseClient <;> simp

theorem State.settleRounds_reach (s : State) (k : Nat) : Reach settleKinds s (s.settleRounds k) := by
  induction k generalizing s with
  | zero => exact .refl
  | succ k ih =>
    rw [State.settleRounds_succ]
    have honce : Reach settleKinds s s.settleOnce := s.settleOnce_reach.mono (by decide)
    exact .ite (fun _ => (honce.trans ((State.decideGrant_reach _).mono (by decide))).trans (ih _)) fun _ => honce

theorem State.settle_reach (s : State) : Reach settleKinds s s.settle := s.settleRounds_reach _

theorem State.settleAll_reach (before s : State) : Reach settleKinds s (State.settleAll before s) :=
  s.settle_reach.trans ((State.finish_reach ..).mono (by decide))

/-! ### Capture -/

/-- The kinds of moves that a command may be made of, but for those of the requests that set a configuration. -/
def commandKinds : List Kind :=
  settleKinds ++ [.link, .refresh, .signal, .takeReturn, .takeClass, .keypad, .output, .capture, .unitCount, .frame]

theorem State.countLevel_reach (s : State) (c : ChannelId) (n f : Nat) (b : Bool) :
    Reach [.notice, .capture] s (s.countLevel c n f b) := by
  unfold State.countLevel
  simp only
  exact .ite (fun _ => .refl) fun _ => .ite (fun _ => .trans (.one (.capture _ _ (by rfl)) (by decide)) (State.raise_reach (hK := by decide) ..)) fun _ =>
    .one (.capture _ _ rfl) (by decide)

theorem State.numberFrame_reach (s : State) (c : ChannelId) (n f : Nat) (samples : Option (List Sample)) :
    Reach (.capture :: .session :: trimKinds) s (s.numberFrame c n f samples) :=
  .trans (.trans (.one (.capture _ _ (by rfl)) (by decide)) (.one (.session _ _ (by exact fun _ => ⟨rfl, rfl, rfl⟩)) (by decide)))
    ((State.recomputeTrim_reach ..).mono (by decide))

/-- The kinds of moves that a frame in ARMED or RECORDING is made of: nothing is sent. -/
def frameKinds : List Kind := .capture :: settleKinds.erase .sending

theorem State.armedFrame_reach (s : State) (c : ChannelId) (n f : Nat) (samples : Option (List Sample)) (onset : Bool) :
    Reach frameKinds s (s.armedFrame c n f samples onset) := by
  unfold State.armedFrame
  simp only
  exact .ite (fun _ => ((s.closeArmed_reach ..).mono (by decide))) fun _ => .ite (fun _ => .trans (.one (.channelRun _ _ (by rfl)) (by decide))
    ((State.startRecording_reach ..).mono (by decide))) fun _ => .one (.channelRun _ _ rfl) (by decide)

theorem State.recordingFrame_reach (s : State) (c : ChannelId) (x : Session) (f : Nat) (samples : Option (List Sample)) :
    Reach frameKinds s (s.recordingFrame c x f samples) := by
  have hfirst (g : Session → Session) (hg : ∀ y, (g y).number = y.number ∧ (g y).channel = y.channel ∧ (g y).takeCount = y.takeCount) :
      Reach frameKinds s ((s.modSession x.number g).openFirstTake x.number f) :=
    .trans (.one (.session _ _ hg) (by decide)) ((State.openFirstTake_reach ..).mono (by decide))
  have hstop (u : State) : Reach frameKinds u (u.stopTaking c x.number .limit) := ((u.stopTaking_reach ..).mono (by decide))
  unfold State.recordingFrame
  simp only
  refine .thenIf (.trans ?_ (.one (.channelRun _ _ (by rfl)) (by decide))) fun _ => hstop _
  split
  · exact ((s.cutSearch_reach ..).mono (by decide))
  · exact hfirst _ fun _ => ⟨rfl, rfl, rfl⟩

theorem State.frameArrives_reach (s : State) (c : ChannelId) (samples : Option (List Sample)) :
    Reach commandKinds s (s.frameArrives c samples) := by
  have harrive (n f : Nat) : Reach commandKinds s ((s.numberFrame c n f samples).countLevel c n f samples.isSome) :=
    ((s.numberFrame_reach ..).mono (by decide)).trans ((State.countLevel_reach ..).mono (by decide))
  unfold State.frameArrives
  simp only
  split
  · exact (harrive ..).trans ((State.armedFrame_reach ..).mono (by decide))
  · exact (harrive ..).trans ((State.recordingFrame_reach ..).mono (by decide))
  · exact .refl

theorem State.countLostFrames_reach (s : State) (c : ChannelId) (k : Nat) : Reach commandKinds s (s.countLostFrames c k) := by
  induction k generalizing s with
  | zero => exact .refl
  | succ k ih =>
    unfold State.countLostFrames
    exact .onlyIf fun _ => (s.frameArrives_reach c none).trans (ih _)

/-! ### The keypads -/

/-- The kinds of moves that a key's action in RECORDING is made of. -/
def keyKinds : List Kind := [.notice, .sessionMarks, .marks, .ranges, .toggle, .keypad]

theorem State.speakerKey_reach (s : State) (c : ChannelId) (n f : Nat) : Reach keyKinds s (s.speakerKey c n f) :=
  .trans (.one (.keypad _ _ (by rfl)) (by decide)) ((State.addReportedMark_reach ..).mono (by decide))

theorem State.offRecordKey_reach (s : State) (c : ChannelId) (x : Session) (f : Nat) :
    Reach keyKinds s (s.offRecordKey c x f) := by
  unfold State.offRecordKey
  simp only
  split
  · exact ((s.closeRangeAt_reach ..).mono (by decide)).trans (State.raise_reach (hK := by decide) ..)
  · split
    · exact s.raise_reach (hK := by decide) ..
    · exact .trans (.trans ((s.insertRange_reach ..).mono (by decide)) (.one (.keypad _ _ (by rfl)) (by decide))) (State.raise_reach (hK := by decide) ..)

theorem State.keyAction_reach (s : State) (c : ChannelId) (k : KeyId) (f : Nat) : Reach keyKinds s (s.keyAction c k f) := by
  unfold State.keyAction
  split
  · split
    · exact ((s.addReportedMark_reach ..).mono (by decide))
    · exact s.speakerKey_reach ..
    · exact ((s.addReportedMark_reach ..).mono (by decide))
    · exact s.offRecordKey_reach ..
  · exact .refl

theorem State.pressAction_reach (s : State) (c : ChannelId) (k : KeyId) :
    Reach (.channelRun :: .keypad :: .sessionMarks :: .toggle :: takeKinds) s (s.pressAction c k) := by
  unfold State.pressAction
  simp only
  split
  · exact ((s.startRecording_reach ..).mono (by decide)).trans ((State.keyAction_reach ..).mono (by decide))
  · exact ((s.keyAction_reach ..).mono (by decide))
  · exact .refl

theorem State.acceptKey_reach {K : List Kind} (s : State) (c : ChannelId) (k : KeyId) (b : Bool)
    (hK : Kind.keypad ∈ K) : Reach K s (s.acceptKey c k b) := .one (.keypad _ _ rfl) hK

theorem State.acceptPress_reach (s : State) (c : ChannelId) (k : KeyId) :
    Reach (.channelRun :: .keypad :: .sessionMarks :: .toggle :: takeKinds) s (s.acceptPress c k) :=
  (s.acceptKey_reach (hK := by decide) c k true).trans (State.pressAction_reach ..)

theorem State.sampleKey_reach (s : State) (c : ChannelId) (k : KeyId) (high : Bool) :
    Reach (.channelRun :: .keypad :: .sessionMarks :: .toggle :: takeKinds) s (s.sampleKey c k high) := by
  unfold State.sampleKey
  simp only
  exact .ite (fun _ => s.acceptKey_reach (hK := by decide) ..) fun _ => .ite (fun _ => .one (.keypad _ _ rfl) (by decide)) fun _ =>
    .ite (fun _ => s.acceptPress_reach ..) fun _ => s.acceptKey_reach (hK := by decide) ..

end Sys2Proof.Machine
end

section
/-! SUPPORT. What moves keep: a view of each channel, port and unit; the steady part of the state; the counters. -/

namespace Sys2Proof.Machine

/-! ### Views of one channel, port or unit -/

theorem State.modChannel_view {α : Type} (view : Channel → α) {s : State} {c : ChannelId} {f : Channel → Channel}
    (h : view (f (s.channels.get c)) = view (s.channels.get c)) (d : ChannelId) :
    view ((s.modChannel c f).channels.get d) = view (s.channels.get d) := by
  by_cases hd : d = c
  · subst hd; rw [State.modChannel_get_self, h]
  · rw [State.modChannel_get_ne s f hd]

theorem State.modStation_view {α : Type} (view : Station → α) {s : State} {n : StationId} {f : Station → Station}
    (h : view (f (s.stations.get n)) = view (s.stations.get n)) (m : StationId) :
    view ((s.modStation n f).stations.get m) = view (s.stations.get m) := by
  by_cases hm : m = n
  · subst hm; rw [State.modStation_get_self, h]
  · rw [State.modStation_get_ne s f hm]

theorem State.modReadback_view {α : Type} (view : Readback → α) {s : State} {c : ChannelId} {f : Readback → Readback}
    (h : view (f (s.readback.get c)) = view (s.readback.get c)) (d : ChannelId) :
    view ((s.modReadback c f).readback.get d) = view (s.readback.get d) := by
  by_cases hd : d = c
  · subst hd; rw [State.modReadback_get_self, h]
  · rw [State.modReadback_get_ne s f hd]

/-! ### The steady part -/

/-- What the steady part holds of a channel. -/
def Channel.steadyPart (ch : Channel) : ChannelConfig × InputCondition × Detector × List Sample :=
  (ch.config, ch.input, ch.detector, ch.assembler)

/-- What the steady part holds of a port. -/
def Station.steadyPart (st : Station) : StationConfig × LinkState × Option Byte × List Pedal :=
  (st.config, st.link, st.model, st.pedals)

/-- What the steady part holds of a read-back unit. -/
def Readback.steadyPart (u : Readback) : Nat × Nat := (u.threshold, u.nextSerial)

theorem State.modChannel_steady {s : State} {c : ChannelId} {f : Channel → Channel}
    (h : (f (s.channels.get c)).steadyPart = (s.channels.get c).steadyPart) : (s.modChannel c f).steady = s.steady := by
  have hview := State.modChannel_view Channel.steadyPart h
  simp only [Channel.steadyPart, Prod.mk.injEq] at hview
  simp only [State.steady, fun d => (hview d).1, fun d => (hview d).2.1, fun d => (hview d).2.2.1, fun d => (hview d).2.2.2]
  rfl

theorem State.modStation_steady {s : State} {n : StationId} {f : Station → Station}
    (h : (f (s.stations.get n)).steadyPart = (s.stations.get n).steadyPart) : (s.modStation n f).steady = s.steady := by
  have hview := State.modStation_view Station.steadyPart h
  simp only [Station.steadyPart, Prod.mk.injEq] at hview
  simp only [State.steady, fun m => (hview m).1, fun m => (hview m).2.1, fun m => (hview m).2.2.1, fun m => (hview m).2.2.2]
  rfl

theorem State.modReadback_steady {s : State} {c : ChannelId} {f : Readback → Readback}
    (h : (f (s.readback.get c)).steadyPart = (s.readback.get c).steadyPart) : (s.modReadback c f).steady = s.steady := by
  have hview := State.modReadback_view Readback.steadyPart h
  simp only [Readback.steadyPart, Prod.mk.injEq] at hview
  simp only [State.steady, fun d => (hview d).1, fun d => (hview d).2]
  rfl

/-- Ports alike but for their motion, line and list have the same steady part. -/
theorem Station.steadyPart_congr {a b : Station} (h : a.sansList = b.sansList) : a.steadyPart = b.steadyPart :=
  (congrArg Station.steadyPart h :)

theorem Readback.steadyPart_congr {a b : Readback} (h : a.still = b.still) : a.steadyPart = b.steadyPart :=
  (congrArg Readback.steadyPart h :)

theorem Channel.steadyPart_of_still {a b : Channel} (h : a.still = b.still) : a.steadyPart = b.steadyPart :=
  (congrArg Channel.steadyPart h :)

theorem Channel.steadyPart_of_sansToggle {a b : Channel} (h : a.sansToggle = b.sansToggle) : a.steadyPart = b.steadyPart :=
  (congrArg Channel.steadyPart h :)

theorem Station.sansList_of_still {a b : Station} (h : a.still = b.still) : a.sansList = b.sansList :=
  (congrArg Station.sansList h :)

theorem State.raise_steady (s : State) (k : NoticeKind) (sub : Subject) (contents : List Byte) :
    (s.raise k sub contents).steady = s.steady := by
  simp only [State.steady, State.raise_link]
  rw [Link.raise_eq]
  rfl

/-- A place chosen is the next slot of the chain's last block, or slot 0 of the block at the head of the free list (R34). -/
theorem Store.place_cases {st st' : Store} {n f b slot : Nat} (h : st.place n f = some (st', b, slot)) :
    (∃ cur, (st.chain n).getLast? = some cur ∧ st' = st.growCurrent n ∧ b = cur.block ∧ slot = cur.held)
      ∨ ∃ rest, st.free = b :: rest ∧ st' = { st with free := rest }.appendBlock n ⟨b, f, 1⟩ ∧ slot = 0 := by
  unfold Store.place at h
  cases hfree : st.free with
  | nil =>
    simp only [hfree] at h
    split at h
    · next cur hcur =>
      split at h
      · cases h; exact .inl ⟨cur, hcur, rfl, rfl, rfl⟩
      · exact nomatch h
    · exact nomatch h
  | cons a rest =>
    simp only [hfree] at h
    split at h
    · next cur hcur =>
      split at h
      · cases h; exact .inl ⟨cur, hcur, rfl, rfl, rfl⟩
      · cases h; exact .inr ⟨rest, rfl, rfl, rfl⟩
    · cases h; exact .inr ⟨rest, rfl, rfl, rfl⟩

/-- A place chosen takes no block from the store and leaves its low mark, its memory and its condition. -/
theorem Store.place_bounds {st st' : Store} {n f b slot : Nat} (h : st.place n f = some (st', b, slot)) :
    st'.blocks = st.blocks ∧ st'.lowMark = st.lowMark ∧ st'.mem = st.mem ∧ st'.condition = st.condition := by
  rcases Store.place_cases h with ⟨cur, -, rfl, -⟩ | ⟨rest, -, rfl, -⟩ <;> exact ⟨rfl, rfl, rfl, rfl⟩

theorem Move.steady {k : Kind} {s t : State} (h : Move k s t) (hk : k ∈ settleKinds) : t.steady = s.steady := by
  cases h with
  | notice k sub contents => exact s.raise_steady k sub contents
  | orphan f h =>
    have htimer := congrArg Arbiter.refreshTimer h
    have hdue := congrArg Arbiter.refreshDue h
    simp only at htimer hdue
    simp only [State.steady, State.modArbiter_arbiter, htimer, hdue]
    rfl
  | grant f htimer hdue =>
    simp only [State.steady, State.modArbiter_arbiter, htimer, hdue]
    rfl
  | port n f h => exact State.modStation_steady (Station.steadyPart_congr (Station.sansList_of_still h))
  | list n f h => exact State.modStation_steady (Station.steadyPart_congr h)
  | toggle c f h => exact State.modChannel_steady (Channel.steadyPart_of_sansToggle h)
  | channelRun c f h => exact State.modChannel_steady (Channel.steadyPart_of_still h)
  | unit c f h => exact State.modReadback_steady (Readback.steadyPart_congr h)
  | place n f st b slot _ h =>
    obtain ⟨hblocks, hlow, -, -⟩ := Store.place_bounds h
    simp only [State.steady, State.modStore_store, hblocks, hlow]
    rfl
  | sending | queue | rotation | takeDispatch | takeBody | takeTable | session | sessionTrim | sessionMarks | takeCount
    | sessionGone | marks | ranges | exporter | trim | condition | storeFree => rfl
  | link | mask | refresh | signal | stationConfig | takeReturn | takeClass | keypad | output | capture | channelConfig
    | unitCount | threshold | frame | lowMark | sessionOpen | chainOpen => exact absurd hk (by decide)

/-- Settles O9: what follows at once is made of moves that leave the steady part. -/
theorem settlingKeepsTheSteadyPart : Obligations.SettlingKeepsTheSteadyPart := fun s =>
  s.settle_reach.keeps State.steady fun _ hk _ _ hm => hm.steady hk

end Sys2Proof.Machine
end

section
/-! SUPPORT. The moves of each command. -/

namespace Sys2Proof.Machine

/-! ### Outcomes -/

/-- The next state of an outcome, when there is one, has `P`. -/
def Ends (P : State → Prop) (o : Host.Outcome State Fault Refusal) : Prop := ∀ t, o = .next t → P t

theorem Ends.next {P : State → Prop} {t : State} (h : P t) : Ends P (.next t) := fun _ hu => by cases hu; exact h

theorem Ends.fault {P : State → Prop} {f : Fault} : Ends P (.fault f) := fun _ hu => nomatch hu

theorem Ends.mono {P Q : State → Prop} {o : Host.Outcome State Fault Refusal} (h : Ends P o) (hPQ : ∀ t, P t → Q t) :
    Ends Q o := fun t ht => hPQ t (h t ht)

theorem Ends.ite {P : State → Prop} {p : Prop} [Decidable p] {a b : Host.Outcome State Fault Refusal}
    (ha : p → Ends P a) (hb : ¬ p → Ends P b) : Ends P (if p then a else b) := by
  split
  · next hp => exact ha hp
  · next hp => exact hb hp

theorem State.request_ends {K : List Kind} {s : State} {i : Instr} {f : State → State × Answer}
    (hf : ∀ u, Reach K u (f u).1) (hK : ∀ k ∈ [Kind.link, .sending, .orphan, .port, .exporter], k ∈ K) :
    Ends (Reach K s) (s.request i f) :=
  .next ((s.performRequest_reach hf (hK _ (by decide))).trans ((State.finish_reach ..).mono fun _ hk => hK _ (.tail _ hk)))

theorem State.requestMoving_ends {K : List Kind} {s : State} {i : Instr} {f : State → State × Answer}
    (hf : ∀ u, Reach K u (f u).1) (hlink : Kind.link ∈ K) (hK : ∀ k ∈ settleKinds, k ∈ K) :
    Ends (Reach K s) (s.requestMoving i f) :=
  .next ((s.performRequest_reach hf hlink).trans ((State.settleAll_reach ..).mono hK))

theorem State.finish_ends {s u : State} (h : Reach commandKinds s u) : Ends (Reach commandKinds s) (.next (State.finish s u)) :=
  .next (h.trans ((State.finish_reach ..).mono (by decide)))

theorem State.settleAll_ends {s u : State} (h : Reach commandKinds s u) :
    Ends (Reach commandKinds s) (.next (State.settleAll s u)) :=
  .next (h.trans ((State.settleAll_reach ..).mono (by decide)))

/-- A command moves by kinds of `K` alone, or by such moves and then as follows at once. -/
def Calm (K : List Kind) (s t : State) : Prop := Reach K s t ∨ ∃ u, Reach K s u ∧ t = State.settleAll s u

/-- The kinds of moves of the commands that change no queue, no list, no take's dispatch, and neither open nor free anything. -/
def quietKinds : List Kind :=
  [.notice, .sending, .orphan, .grant, .port, .takeBody, .session, .sessionTrim, .sessionMarks, .marks, .ranges, .toggle,
    .channelRun, .unit, .exporter, .trim, .link, .refresh, .signal, .keypad, .output, .capture, .unitCount, .frame]

theorem State.finish_calm {s u : State} (h : Reach quietKinds s u) : Ends (Calm quietKinds s) (.next (State.finish s u)) :=
  .next (.inl (h.trans ((State.finish_reach ..).mono (by decide))))

theorem State.settleAll_calm {s u : State} (h : Reach quietKinds s u) :
    Ends (Calm quietKinds s) (.next (State.settleAll s u)) := .next (.inr ⟨u, h, rfl⟩)

theorem Ends.still {K : List Kind} {s : State} : Ends (Calm K s) (.next s) := .next (.inl .refl)

theorem Ends.same {K : List Kind} {s : State} : Ends (Reach K s) (.next s) := .next .refl

/-! ### The link -/

/-- A change of the link that keeps mask and rate and lets no count leave its range. -/
theorem State.modLink_reach {K : List Kind} {s : State} {f : Link → Link} (hmask : (f s.link).mask = s.link.mask)
    (hrate : (f s.link).rate = s.link.rate) (herror : (f s.link).errorCount = s.link.errorCount)
    (hdropped : (f s.link).dropped = s.link.dropped) (hbuffer : (f s.link).buffer = s.link.buffer) (hK : Kind.link ∈ K) :
    Reach K s (s.modLink f) :=
  .one (.link _ hmask hrate (by rw [herror]; exact id) (by rw [hdropped]; exact id)
    (by rw [hbuffer]; exact id)) hK

theorem execStartupComplete_ends (s : State) : Ends (Calm quietKinds s) (execStartupComplete s) := by
  unfold execStartupComplete
  split
  · refine State.finish_calm (.trans (.trans (State.modLink_reach (by rfl) (by rfl) (by rfl) (by rfl) (by rfl) (by decide))
      (State.raise_reach (hK := by decide) ..)) (Reach.foldl (fun u n => .one (.port n _ (by rfl)) (by decide)) _ _))
  · exact .still

theorem State.receiveMessage_reach (s : State) (bytes : List Byte) : Reach [.notice, .link] s (s.receiveMessage bytes) := by
  unfold State.receiveMessage
  split
  · simp only
    exact .ite (fun _ => .ite (fun _ => .trans (State.modLink_reach (by rfl) (by rfl) (by rfl) (by rfl) (by rfl) (by decide))
      (State.receiveRequest_reach ..)) fun _ => s.discardMessage_reach _) fun _ => .refl
  · exact .refl

theorem execMessageReceived_ends (bytes : List Byte) (s : State) :
    Ends (Calm quietKinds s) (execMessageReceived bytes s) :=
  .ite (fun _ => State.finish_calm ((s.receiveMessage_reach _).mono (by decide))) fun _ => .still

theorem State.discardMessage_ends (s : State) (cause : LinkCause) :
    Ends (Calm quietKinds s) (.next (State.finish s (s.discardMessage cause))) :=
  State.finish_calm ((s.discardMessage_reach _).mono (by decide))

theorem execMessageBadLength_ends (len : Nat) (s : State) : Ends (Calm quietKinds s) (execMessageBadLength len s) :=
  .ite (fun _ => s.discardMessage_ends _) fun _ => .still

theorem execMessageTimeout_ends (s : State) : Ends (Calm quietKinds s) (execMessageTimeout s) := by
  unfold execMessageTimeout
  split
  · exact s.discardMessage_ends _
  · exact .still

theorem execInvalidByte_ends (s : State) : Ends (Calm quietKinds s) (execInvalidByte s) := by
  unfold execInvalidByte
  split
  · exact s.discardMessage_ends _
  · exact .still

theorem execStartByte_ends (s : State) : Ends (Calm quietKinds s) (execStartByte s) := by
  unfold execStartByte
  split
  · exact .next (.inl (State.modLink_reach rfl rfl rfl rfl rfl (by decide)))
  · exact .still

theorem execRequestUnknownKind_ends (tag : Byte) (kind : Nat) (body : List Byte) (s : State) :
    Ends (Calm quietKinds s) (execRequestUnknownKind tag kind body s) := by
  have hwith (r : Request) : Reach quietKinds s (s.withRequest r) := by
    unfold State.withRequest
    split
    · exact .refl
    · exact State.modLink_reach rfl rfl rfl rfl rfl (by decide)
  exact .ite (fun _ => State.finish_calm ((hwith _).trans ((State.recordReply_reach ..).mono (by decide)))) fun _ => .still

theorem State.freeLine_reach {K : List Kind} (s : State) (hK : Kind.link ∈ K) : Reach K s s.freeLine :=
  State.modLink_reach rfl rfl rfl rfl rfl hK

theorem execReplySent_ends {s : State} (h : s.link.fullReset = false) : Ends (Calm quietKinds s) (execReplySent s) := by
  unfold execReplySent
  split
  · next r _ =>
    refine State.settleAll_calm (.ite (fun _ => s.freeLine_reach (by decide)) fun _ => (s.freeLine_reach (by decide)).trans ?_)
    unfold State.replyDone
    rw [if_neg (by rw [show s.freeLine.link.fullReset = s.link.fullReset from rfl, h]; exact Bool.false_ne_true)]
    exact .trans (State.modLink_reach (by rfl) (by rfl) (by rfl) (by rfl) (by rfl) (by decide))
      ((State.takeRequest_reach _).mono (by decide))
  all_goals exact .still

theorem execNoticeSent_ends (s : State) : Ends (Calm quietKinds s) (execNoticeSent s) := by
  unfold execNoticeSent
  split
  · refine State.settleAll_calm (.ite (fun _ => (s.freeLine_reach (by decide)).trans ?_) fun _ => s.freeLine_reach (by decide))
    exact .one (.link _ rfl rfl (Within.refl _ _) (fun _ => Nat.zero_le _) (Within.refl _ _)) (by decide)
  all_goals exact .still

theorem State.dataDone_reach (s : State) (d : DataMessage) : Reach exportKinds s (s.dataDone d) :=
  .thenIf (.one (.exporter _) (by decide)) fun _ => State.endExport_reach ..

theorem execDataSent_ends (s : State) : Ends (Calm quietKinds s) (execDataSent s) := by
  unfold execDataSent
  split
  · exact State.settleAll_calm (.ite (fun _ => s.freeLine_reach (by decide)) fun _ =>
      (s.freeLine_reach (by decide)).trans ((State.dataDone_reach ..).mono (by decide)))
  all_goals exact .still

theorem execFetchEndSent_ends (s : State) : Ends (Calm quietKinds s) (execFetchEndSent s) := by
  unfold execFetchEndSent
  split
  · exact State.settleAll_calm (.ite (fun _ => s.freeLine_reach (by decide)) fun _ =>
      (s.freeLine_reach (by decide)).trans (.one (.exporter _) (by decide)))
  all_goals exact .still

theorem State.abandonExport_reach (s : State) : Reach (.link :: exportKinds) s s.abandonExport := by
  unfold State.abandonExport
  simp only
  exact .thenIf (.one (.exporter _) (by decide)) fun _ => .trans (.trans (.trans (State.killGrant_reach (hK := by decide) ..)
    (.one (.exporter _) (by decide))) (State.modLink_reach (by rfl) (by rfl) (by rfl) (by rfl) (by rfl) (by decide)))
    ((State.recomputeTrim_reach ..).mono (by decide))

theorem State.resetLinkState_reach (s : State) : Reach (.mask :: .link :: exportKinds) s s.resetLinkState := by
  unfold State.resetLinkState
  refine .trans (.trans (.one (.link _ (by rfl) (by rfl) (Within.refl _ _) ?_ ?_) (by decide))
    ((State.abandonExport_reach _).mono (by decide)))
    (.one (.mask _ (by rfl) ?_ (Within.refl _ _) (Within.refl _ _)) (by decide))
  · exact fun _ => Nat.zero_le _
  · exact fun _ => Nat.zero_le _
  · exact fun _ => Nat.zero_le _

/-- The kinds of moves of the commands that set a configuration. -/
def configKinds : Instr → List Kind
  | .configureChannel .. => [.channelConfig]
  | .configureStation .. => [.stationConfig]
  | .configureReadback .. => [.threshold]
  | .configureStore .. => [.lowMark]
  | .setNoticeMask .. | .resetLink _ 0 => [.mask]
  | _ => []

/-- The kinds of moves a command may be made of. -/
def movesOf (i : Instr) : List Kind := configKinds i ++ .sessionOpen :: .chainOpen :: commandKinds

theorem mem_movesOf {i : Instr} {K : List Kind} (hK : ∀ k ∈ K, k ∈ commandKinds) : ∀ k ∈ K, k ∈ movesOf i := fun k hk =>
  List.mem_append_right _ (.tail _ (.tail _ (hK k hk)))

theorem mem_movesOf_cons {i : Instr} {k₀ : Kind} {K : List Kind} (h₀ : k₀ ∈ configKinds i) (hK : ∀ k ∈ K, k ∈ commandKinds) :
    ∀ k ∈ k₀ :: K, k ∈ movesOf i :=
  List.forall_mem_cons.mpr ⟨List.mem_append_left _ h₀, mem_movesOf hK⟩

theorem Ends.toKinds {i : Instr} {s : State} {o : Host.Outcome State Fault Refusal} (h : Ends (Reach commandKinds s) o) :
    Ends (Reach (movesOf i) s) o := h.mono fun _ ht => ht.mono (mem_movesOf fun _ hk => hk)

/-- A request command whose rule makes moves of a command. -/
theorem State.request_kinds {s : State} {i j : Instr} {f : State → State × Answer} (hf : ∀ u, Reach commandKinds u (f u).1) :
    Ends (Reach (movesOf j) s) (s.request i f) := (State.request_ends hf (by decide)).toKinds

theorem State.requestMoving_kinds {s : State} {i j : Instr} {f : State → State × Answer}
    (hf : ∀ u, Reach commandKinds u (f u).1) : Ends (Reach (movesOf j) s) (s.requestMoving i f) :=
  (State.requestMoving_ends hf (by decide) (by decide)).toKinds

/-- The kinds of moves a command may be made of that changes neither dispatch nor the tables. -/
def quietOf (i : Instr) : List Kind := configKinds i ++ quietKinds

theorem mem_quietOf {i : Instr} {K : List Kind} (hK : ∀ k ∈ K, k ∈ quietKinds) : ∀ k ∈ K, k ∈ quietOf i := fun k hk =>
  List.mem_append_right _ (hK k hk)

theorem mem_quietOf_cons {i : Instr} {k₀ : Kind} {K : List Kind} (h₀ : k₀ ∈ configKinds i) (hK : ∀ k ∈ K, k ∈ quietKinds) :
    ∀ k ∈ k₀ :: K, k ∈ quietOf i :=
  List.forall_mem_cons.mpr ⟨List.mem_append_left _ h₀, mem_quietOf hK⟩

theorem Ends.calm {i : Instr} {s : State} {o : Host.Outcome State Fault Refusal} (h : Ends (Calm quietKinds s) o) :
    Ends (Calm (quietOf i) s) o :=
  h.mono fun _ ht => ht.imp (fun h => h.mono (mem_quietOf fun _ hk => hk))
    fun ⟨u, hu, he⟩ => ⟨u, hu.mono (mem_quietOf fun _ hk => hk), he⟩

theorem quietOf_movesOf (i : Instr) : ∀ k ∈ quietOf i, k ∈ movesOf i := fun _ hk =>
  (List.mem_append.mp hk).elim (List.mem_append_left _) (mem_movesOf (by decide) _)

theorem Calm.reach {i : Instr} {s t : State} (h : Calm (quietOf i) s t) : Reach (movesOf i) s t := by
  rcases h with h | ⟨u, h, rfl⟩
  · exact h.mono (quietOf_movesOf i)
  · exact (h.mono (quietOf_movesOf i)).trans ((State.settleAll_reach ..).mono (mem_movesOf (by decide)))

/-- A quiet request command, which may set a configuration. -/
theorem State.request_calm {s : State} {i j : Instr} {f : State → State × Answer} (hf : ∀ u, Reach (quietOf j) u (f u).1) :
    Ends (Calm (quietOf j) s) (s.request i f) :=
  (State.request_ends hf (mem_quietOf (by decide))).mono fun _ => .inl

theorem State.request_quiet {s : State} {i j : Instr} {f : State → State × Answer} (hf : ∀ u, Reach quietKinds u (f u).1) :
    Ends (Calm (quietOf j) s) (s.request i f) :=
  State.request_calm fun u => (hf u).mono (mem_quietOf fun _ hk => hk)

theorem State.requestMoving_quiet {s : State} {i j : Instr} {f : State → State × Answer}
    (hf : ∀ u, Reach quietKinds u (f u).1) : Ends (Calm (quietOf j) s) (s.requestMoving i f) :=
  .next (.inr ⟨_, s.performRequest_reach (fun u => (hf u).mono (mem_quietOf fun _ hk => hk)) (mem_quietOf (K := [.link]) (by decide) _ (.head _)), rfl⟩)

/-- A request command that sets a configuration. -/
theorem State.request_config {s : State} {i : Instr} {f : State → State × Answer} (hf : ∀ u, Reach (movesOf i) u (f u).1) :
    Ends (Reach (movesOf i) s) (s.request i f) := State.request_ends hf (mem_movesOf (by decide))

theorem execResetLink_ends (tag : Byte) (scope : Nat) (s : State) :
    Ends (Calm (quietOf (.resetLink tag scope)) s) (execResetLink tag scope s) := by
  refine State.request_calm fun u => ?_
  split
  · next h => subst h; exact u.resetLinkState_reach.mono (mem_quietOf_cons (.head _) (by decide))
  · exact .refl

theorem execSetNoticeMask_ends (tag : Byte) (mask : Nat) (s : State) :
    Ends (Calm (quietOf (.setNoticeMask tag mask)) s) (execSetNoticeMask tag mask s) :=
  State.request_calm fun _ => .one (.mask (fun l => l.setMask (BitVec.ofNat 16 (mask % 4096))) rfl (Within.refl _ _) (Within.refl _ _) (Within.refl _ _)) (.head _)

end Sys2Proof.Machine
end

section
/-! SUPPORT. The moves of each command, continued: the requests and the events, and all commands together. -/

namespace Sys2Proof.Machine

/-! ### Requests -/

/-- A request that is refused or reports changes nothing. -/
theorem State.report_quiet {s : State} {i j : Instr} {f : State → Answer} :
    Ends (Calm (quietOf j) s) (s.request i (reportOnly f)) := State.request_quiet fun _ => .refl

theorem State.openSession_reach (s : State) (c : ChannelId) (r : OpenSessionReq) :
    Reach (.sessionOpen :: .chainOpen :: commandKinds) s (s.openSession c r).1 := by
  have hopen : Reach (.sessionOpen :: .chainOpen :: commandKinds) s { s with
      sessions := s.sessions ++ [newSession r s.issueSession c (s.channels.get c).config], lastSession := s.issueSession } :=
    .one (.sessionOpen _ _) (by decide)
  exact (hopen.trans (.one (.chainOpen s.issueSession) (by decide))).trans
    (.one (.capture c (fun ch => ch.bind s.issueSession (startModeOf r (s.channels.get c).config)) rfl) (by decide))

theorem execOpenSession_ends (tag : Byte) (r : OpenSessionReq) (s : State) :
    Ends (Reach (movesOf (.openSession tag r)) s) (execOpenSession tag r s) := by
  refine State.request_config fun u => ?_
  split
  · exact .refl
  · split
    · exact .refl
    · split
      · exact .refl
      · split
        · exact .refl
        · exact u.openSession_reach ..

theorem State.closeSession_reach (s : State) (x : Session) : Reach commandKinds s (s.closeSession x).1 := by
  unfold State.closeSession
  split
  · exact (s.closeArmed_reach ..).mono (by decide)
  · exact (s.stopTaking_reach ..).mono (by decide)
  · exact .refl
  · exact .refl

theorem execCloseSession_ends (tag : Byte) (n : Nat) (s : State) :
    Ends (Reach (movesOf (.closeSession tag n)) s) (execCloseSession tag n s) := by
  refine State.requestMoving_kinds fun u => ?_
  split
  · exact .refl
  · exact u.closeSession_reach _

theorem execConfigureStore_ends (tag : Byte) (m : Nat) (s : State) :
    Ends (Calm (quietOf (.configureStore tag m)) s) (execConfigureStore tag m s) := by
  refine State.request_calm fun u => ?_
  have hset : Reach (quietOf (.configureStore tag m)) u (u.modStore fun st => { st with lowMark := clamp 0 4096 m }) :=
    .one (.lowMark _) (.head _)
  exact hset.trans ((State.checkCondition_reach _).mono (mem_quietOf (by decide)))

theorem execConfigureChannel_ends (tag : Byte) (r : ConfigureChannelReq) (s : State) :
    Ends (Calm (quietOf (.configureChannel tag r)) s) (execConfigureChannel tag r s) := by
  refine State.request_calm fun u => ?_
  split
  · exact .refl
  · next c _ => exact .one (.channelConfig c fun ch => ch.configure (storedConfig r)) (.head _)

theorem execSetPlan_ends (tag : Byte) (n : Nat) (patch : PlanPatch) (s : State) :
    Ends (Calm (quietOf (.setPlan tag n patch)) s) (execSetPlan tag n patch s) := by
  have hset (u : State) (x : Session) : Reach quietKinds u
      (u.modSession x.number fun y => { y with plan := applyPatch (clampPatch patch) x.plan }) :=
    .one (.session _ _ fun _ => ⟨rfl, rfl, rfl⟩) (by decide)
  refine State.request_quiet fun u => ?_
  split
  · exact .refl
  · next x _ =>
    unfold State.setPlan
    split
    · exact hset u x
    · exact hset u x
    · exact .refl
    · exact .refl

theorem State.cutNow_reach (s : State) (x : Session) (t : Take) : Reach commandKinds s (s.cutNow x t).1 := by
  have hset : Reach commandKinds s (s.modSession x.number fun y => { y with forcedPending := true }) :=
    .one (.session _ _ fun _ => ⟨rfl, rfl, rfl⟩) (by decide)
  unfold State.cutNow
  split
  · exact .refl
  · split
    · exact hset
    · split
      · exact .refl
      · split
        · exact .refl
        · exact (s.makeCut_reach ..).mono (by decide)

theorem execCutNow_ends (tag : Byte) (n : Nat) (s : State) :
    Ends (Reach (movesOf (.cutNow tag n)) s) (execCutNow tag n s) := by
  refine State.requestMoving_kinds fun u => ?_
  split
  · exact .refl
  · split
    · exact .refl
    · exact u.cutNow_reach ..

theorem State.releaseTake_reach (s : State) (t : Take) : Reach commandKinds s (s.releaseTake t).1 := by
  have hdrop (u : State) : Reach commandKinds u (u.dropTake t.ref) := .one (.takeTable _) (by decide)
  have htrim (u : State) : Reach commandKinds u (u.recomputeTrim t.session) := (u.recomputeTrim_reach _).mono (by decide)
  unfold State.releaseTake
  exact .trans (.trans (.trans (.trans (.onlyIf fun _ => s.dequeue_reach _ (by decide))
    (State.raiseTake_reach (hK := by decide) ..)) (hdrop _)) (htrim _)) ((State.freeIfDone_reach ..).mono (by decide))

theorem execReleaseTake_ends (tag : Byte) (n k : Nat) (s : State) :
    Ends (Reach (movesOf (.releaseTake tag n k)) s) (execReleaseTake tag n k s) := by
  refine State.requestMoving_kinds fun u => ?_
  split
  · exact .refl
  · split
    · exact .refl
    · split
      · exact .refl
      · exact .refl
      all_goals exact u.releaseTake_reach _

/-- A dispatch request makes the moves of its rule. -/
theorem State.onTake_kinds {s : State} {i j : Instr} {n k : Nat} {f : State → Take → State × Answer}
    (hf : ∀ u t, Reach commandKinds u (f u t).1) : Ends (Reach (movesOf j) s) (s.request i fun u => u.onTake n k (f u)) := by
  refine State.request_kinds fun u => ?_
  unfold State.onTake
  split
  · exact .refl
  · exact hf u _

theorem execQueueTake_ends (tag : Byte) (n k : Nat) (s : State) :
    Ends (Reach (movesOf (.queueTake tag n k)) s) (execQueueTake tag n k s) := by
  refine State.onTake_kinds fun u t => ?_
  split
  · exact (u.handOver_reach _).mono (by decide)
  · exact (u.handOver_reach _).mono (by decide)
  all_goals exact .refl

theorem State.setClass_reach (s : State) (t : Take) (k : TakeClass) : Reach commandKinds s (s.setClass t k) := by
  have hclass : Reach commandKinds s (s.modTake t.ref fun t => { t with takeClass := k }) := .one (.takeClass ..) (by decide)
  have hplace (u : State) : Reach commandKinds u ((u.dequeue t.ref).atClassTail t.ref) :=
    (u.dequeue_reach _ (by decide)).trans (State.atClassTail_reach _ _ (by decide))
  unfold State.setClass
  exact .ite (fun _ => .refl) fun _ => .trans (.trans (.thenIf hclass fun _ => hplace _)
    (State.raiseTake_reach (hK := by decide) ..)) ((State.matchingPass_reach _).mono (by decide))

theorem execSetClass_ends (tag : Byte) (n k code : Nat) (s : State) :
    Ends (Reach (movesOf (.setClass tag n k code)) s) (execSetClass tag n k code s) :=
  State.onTake_kinds fun u _ => u.setClass_reach ..

theorem State.recall_reach (s : State) (t : Take) : Reach commandKinds s (s.recall t) := by
  have hfree (u : State) : Reach commandKinds u (u.modTake t.ref fun t => { t with dispatch := .unqueued, station := none }) :=
    .one (.takeDispatch _ _ fun _ => rfl) (by decide)
  exact .trans (.trans (.trans ((s.withdraw_reach t).mono (by decide)) (hfree _)) (State.raiseTake_reach (hK := by decide) ..))
    ((State.passAfter_reach ..).mono (by decide))

theorem execRecallTake_ends (tag : Byte) (n k : Nat) (s : State) :
    Ends (Reach (movesOf (.recallTake tag n k)) s) (execRecallTake tag n k s) := by
  refine State.onTake_kinds fun u t => ?_
  split
  · exact .refl
  all_goals exact u.recall_reach t

theorem execAssignTake_ends (tag : Byte) (n k station : Nat) (s : State) :
    Ends (Reach (movesOf (.assignTake tag n k station)) s) (execAssignTake tag n k station s) := by
  refine State.onTake_kinds fun u t => ?_
  split
  · exact .refl
  · unfold State.assignTo
    simp only
    split
    · exact .refl
    · split
      · exact .refl
      · split
        · exact .refl
        · exact (u.assign_reach ..).mono (by decide)

theorem State.clearHold_reach (s : State) (r : TakeRef) : Reach commandKinds s (s.clearHold r) := by
  have hclean : Reach commandKinds s (s.modTake r fun t => { t with returns := 0 }) :=
    .one (.takeReturn _ _ fun _ => rfl) (by decide)
  exact .trans (hclean.trans ((State.queueHead_reach ..).mono (by decide))) ((State.matchingPass_reach _).mono (by decide))

theorem execClearHold_ends (tag : Byte) (n k : Nat) (s : State) :
    Ends (Reach (movesOf (.clearHold tag n k)) s) (execClearHold tag n k s) := by
  refine State.onTake_kinds fun u t => ?_
  split
  · exact u.clearHold_reach _
  · exact .refl

theorem State.hostSpeaks_reach (s : State) (x : Session) (m : Mark) : Reach quietKinds s (s.hostSpeaks x m) :=
  .onlyIf fun _ => .one (.keypad _ _ rfl) (by decide)

theorem State.addHostMark_reach (s : State) (x : Session) (r : AddMarkReq) (m : Mark) :
    Reach quietKinds s (s.addHostMark x r m).1 := by
  have hplace : Reach quietKinds s (s.placeMark m).1 := (s.placeMark_reach m).mono (by decide)
  unfold State.addHostMark
  simp only
  split
  · exact hplace.trans (State.hostSpeaks_reach ..)
  · exact hplace.trans (State.hostSpeaks_reach ..)
  · exact .refl

theorem execAddMark_ends (tag : Byte) (r : AddMarkReq) (s : State) :
    Ends (Calm (quietOf (.addMark tag r)) s) (execAddMark tag r s) := by
  refine State.request_quiet fun u => ?_
  split
  · exact .refl
  · split
    · exact .refl
    · split
      · exact .refl
      · exact u.addHostMark_reach ..

theorem execDeleteMark_ends (tag : Byte) (n k : Nat) (s : State) :
    Ends (Calm (quietOf (.deleteMark tag n k)) s) (execDeleteMark tag n k s) := by
  refine State.request_quiet fun u => ?_
  split
  · split
    · exact .refl
    · exact .one (.marks _) (by decide)
  · exact .refl

theorem execOpenRange_ends (tag : Byte) (r : OpenRangeReq) (s : State) :
    Ends (Calm (quietOf (.openRange tag r)) s) (execOpenRange tag r s) := by
  refine State.request_quiet fun u => ?_
  split
  · exact .refl
  · split
    · exact .refl
    · split
      · exact .refl
      · unfold State.addHostRange
        split
        · exact .refl
        · exact (u.insertRange_reach ..).mono (by decide)

theorem execCloseRange_ends (tag : Byte) (n k : Nat) (stop : Option Nat) (s : State) :
    Ends (Calm (quietOf (.closeRange tag n k stop)) s) (execCloseRange tag n k stop s) := by
  refine State.request_quiet fun u => ?_
  split
  · split
    · exact .refl
    · exact (u.closeRangeAt_reach ..).mono (by decide)
  · exact .refl

theorem execSetRange_ends (tag : Byte) (r : SetRangeReq) (s : State) :
    Ends (Calm (quietOf (.setRange tag r)) s) (execSetRange tag r s) := by
  refine State.request_quiet fun u => ?_
  split
  · exact .one (.ranges _) (by decide)
  · exact .refl

theorem execDeleteRange_ends (tag : Byte) (n k : Nat) (s : State) :
    Ends (Calm (quietOf (.deleteRange tag n k)) s) (execDeleteRange tag n k s) := by
  refine State.request_quiet fun u => ?_
  split
  · exact (u.removeRange_reach ..).mono (by decide)
  · exact .refl

/-! ### Requests of the stations, the read-back and the exporter -/

theorem State.modSignal_reach {K : List Kind} {s : State} {n : StationId} {f : Station → Station}
    (hconfig : (f (s.stations.get n)).config = (s.stations.get n).config)
    (htakes : (f (s.stations.get n)).takes = (s.stations.get n).takes)
    (hbad : (f (s.stations.get n)).badPackets = (s.stations.get n).badPackets)
    (hunder : (f (s.stations.get n)).underruns = (s.stations.get n).underruns) (hK : Kind.signal ∈ K) :
    Reach K s (s.modStation n f) :=
  .one (.signal n f hconfig htakes (by rw [hbad]; exact id) (by rw [hunder]; exact id)) hK

/-- The kinds of moves that a change of a port's link state or configuration is made of. -/
def portKinds : List Kind := .signal :: dispatchKinds

theorem State.expireReclaim_reach (s : State) (n : StationId) : Reach portKinds s (s.expireReclaim n) := by
  unfold State.expireReclaim
  exact .trans (.trans ((s.reclaim_reach n).mono (by decide)) (State.modSignal_reach (by rfl) (by rfl) (by rfl) (by rfl)
    (by decide))) (State.raiseStation_reach (hK := by decide) ..)

theorem State.stopAccepting_reach (s : State) (n : StationId) : Reach portKinds s (s.stopAccepting n) :=
  .onlyIf fun _ => .trans (State.modSignal_reach (by rfl) (by rfl) (by rfl) (by rfl) (by decide))
    (State.raiseStation_reach (hK := by decide) ..)

theorem State.loseStation_reach (s : State) (n : StationId) : Reach portKinds s (s.loseStation n) := by
  have hstop (u : State) : Reach portKinds u (u.stopByPart n) := (u.stopByPart_reach n).mono (by decide)
  have hempty (u : State) : Reach portKinds u (u.emptyPlayout n) := (u.emptyPlayout_reach n).mono (by decide)
  unfold State.loseStation
  exact .thenIf (.trans (.trans (.unless (.trans (State.modSignal_reach (by rfl) (by rfl) (by rfl) (by rfl) (by decide))
    (State.stopAccepting_reach ..)) fun _ => hstop _) (hempty _)) (State.raiseStation_reach (hK := by decide) ..))
    fun _ => State.expireReclaim_reach ..

theorem State.disableStation_reach (s : State) (n : StationId) : Reach portKinds s (s.disableStation n) := by
  have htransport (u : State) : Reach portKinds u (u.setTransport n .stopped) := (u.setTransport_reach ..).mono (by decide)
  have hempty (u : State) : Reach portKinds u (u.emptyPlayout n) := (u.emptyPlayout_reach n).mono (by decide)
  exact .trans (.trans (.trans (.trans ((s.reclaim_reach n).mono (by decide)) (State.modSignal_reach (by rfl) (by rfl)
    (by rfl) (by rfl) (by decide))) (htransport _)) (hempty _)) (State.raiseStation_reach (hK := by decide) ..)

theorem State.configureStation_reach (s : State) (n : StationId) (cfg : StationConfig) :
    Reach (.stationConfig :: portKinds) s (s.configureStation n cfg) := by
  have hdisable (u : State) : Reach (.stationConfig :: portKinds) u (u.disableStation n) :=
    (u.disableStation_reach n).mono (by decide)
  have hexpire (u : State) : Reach (.stationConfig :: portKinds) u (u.expireReclaim n) :=
    (u.expireReclaim_reach n).mono (by decide)
  unfold State.configureStation
  exact .trans (.thenIf (.thenIf (.thenIf (.one (.stationConfig ..) (by decide)) fun _ => hdisable _) fun _ =>
    State.raiseStation_reach (hK := by decide) ..) fun _ => hexpire _) ((State.matchingPass_reach _).mono (by decide))

theorem execConfigureStation_ends (tag : Byte) (r : ConfigureStationReq) (s : State) :
    Ends (Reach (movesOf (.configureStation tag r)) s) (execConfigureStation tag r s) := by
  refine State.request_config fun u => ?_
  split
  · exact .refl
  · exact (u.configureStation_reach ..).mono (mem_movesOf_cons (.head _) (by decide))

theorem State.takeSerial_reach {g : Readback → Readback} (s : State) (c : ChannelId)
    (hthreshold : (g (s.readback.get c)).threshold = (s.readback.get c).threshold)
    (hserial : (g (s.readback.get c)).nextSerial = ((s.readback.get c).nextSerial + 1) % 256)
    (hunder : (g (s.readback.get c)).underruns = (s.readback.get c).underruns) : Reach quietKinds s (s.modReadback c g) :=
  .one (.unitCount c g hthreshold (fun _ => by rw [hserial]; omega) (by rw [hunder]; exact id)) (by decide)

theorem State.queueChain_reach (s : State) (c : ChannelId) (r : QueueReadbackReq) :
    Reach quietKinds s (s.queueChain c r).1 := by
  have htaken : Reach quietKinds s (s.modReadback c fun u =>
      { u.takeSerial with pending := u.pending ++ [readbackEntry r (s.readback.get c).nextSerial true] }) :=
    s.takeSerial_reach c rfl rfl rfl
  unfold State.queueChain
  simp only
  split
  · exact htaken
  · exact (htaken.trans ((State.startNext_reach ..).mono (by decide))).trans (State.drainTest_reach (hK := by decide) ..)

theorem State.queuePreempt_reach (s : State) (c : ChannelId) (r : QueueReadbackReq) :
    Reach quietKinds s (s.queuePreempt c r).1 := by
  have hfinish (u : State) : Reach quietKinds u (u.finishEntry c .aborted) := (u.finishEntry_reach ..).mono (by decide)
  have hdiscard (u : State) : Reach quietKinds u (u.discardPending c) := (u.discardPending_reach c).mono (by decide)
  have hstart (u : State) (e : ReadbackEntry) : Reach quietKinds u (u.startEntry c e).1 :=
    (u.startEntry_reach ..).mono (by decide)
  exact ((((s.takeSerial_reach c (g := Readback.takeSerial) rfl rfl rfl).trans (hfinish _)).trans (hdiscard _)).trans
    (hstart ..)).trans (State.drainTest_reach (hK := by decide) ..)

theorem State.onReadback_reach {s : State} {r : QueueReadbackReq} {f : ChannelId → State × Answer}
    (hf : ∀ c, Reach quietKinds s (f c).1) : Reach quietKinds s (s.onReadback r f).1 := by
  unfold State.onReadback
  split
  · exact .refl
  · split
    · exact .refl
    · split
      · exact .refl
      · exact hf _

theorem execQueueReadbackChain_ends (tag : Byte) (r : QueueReadbackReq) (s : State) :
    Ends (Calm (quietOf (.queueReadbackChain tag r)) s) (execQueueReadbackChain tag r s) := by
  refine State.requestMoving_quiet fun u => State.onReadback_reach fun c => ?_
  split
  · exact .refl
  · exact u.queueChain_reach c r

theorem execQueueReadbackPreempt_ends (tag : Byte) (r : QueueReadbackReq) (s : State) :
    Ends (Calm (quietOf (.queueReadbackPreempt tag r)) s) (execQueueReadbackPreempt tag r s) :=
  State.requestMoving_quiet fun u => State.onReadback_reach fun c => u.queuePreempt_reach c r

theorem State.cancelCurrent_reach (s : State) (c : ChannelId) (k : ReadbackCurrent) :
    Reach quietKinds s (s.cancelCurrent c k).1 :=
  (((s.finishEntry_reach ..).mono (by decide)).trans ((State.startNext_reach ..).mono (by decide))).trans
    (State.drainTest_reach (hK := by decide) ..)

theorem State.cancelAll_reach (s : State) (c : ChannelId) (scope : Nat) : Reach quietKinds s (s.cancelAll c scope).1 :=
  (((s.discardPending_reach c).mono (by decide)).trans ((State.finishEntry_reach ..).mono (by decide))).trans
    (State.drainTest_reach (hK := by decide) ..)

theorem execCancelReadbackCurrent_ends (tag : Byte) (channel : Nat) (s : State) :
    Ends (Calm (quietOf (.cancelReadbackCurrent tag channel)) s) (execCancelReadbackCurrent tag channel s) := by
  refine State.requestMoving_quiet fun u => ?_
  split
  · exact .refl
  · split
    · exact .refl
    · exact u.cancelCurrent_reach ..

theorem execCancelReadbackAll_ends (tag : Byte) (channel scope : Nat) (s : State) :
    Ends (Calm (quietOf (.cancelReadbackAll tag channel scope)) s) (execCancelReadbackAll tag channel scope s) := by
  refine State.requestMoving_quiet fun u => ?_
  split
  · exact .refl
  · split
    · exact .refl
    · exact u.cancelAll_reach ..

theorem execConfigureReadback_ends (tag : Byte) (channel k : Nat) (s : State) :
    Ends (Calm (quietOf (.configureReadback tag channel k)) s) (execConfigureReadback tag channel k s) := by
  refine State.request_calm fun u => ?_
  split
  · exact .refl
  · next c _ => exact .one (.threshold c (clamp 0 7 k)) (.head _)

theorem State.fetchFrom_reach (s : State) (x : Session) (tag : Byte) (start count : Nat) (b : Bool) :
    Reach quietKinds s (s.fetchFrom x tag start count b).1 := by
  have hstart : Reach quietKinds s (s.startExport x.number tag start count) :=
    .trans (.one (.exporter _) (by decide)) ((State.recomputeTrim_reach ..).mono (by decide))
  unfold State.fetchFrom
  split
  · exact .refl
  · split
    · exact .refl
    · exact hstart

theorem execFetchAudio_ends (tag : Byte) (n start count : Nat) (s : State) :
    Ends (Calm (quietOf (.fetchAudio tag n start count)) s) (execFetchAudio tag n start count s) := by
  refine State.requestMoving_quiet fun u => ?_
  split
  · exact .refl
  · exact u.fetchFrom_reach ..

theorem execFetchAudioContinue_ends (tag : Byte) (form count : Nat) (s : State) :
    Ends (Calm (quietOf (.fetchAudioContinue tag form count)) s) (execFetchAudioContinue tag form count s) := by
  refine State.requestMoving_quiet fun u => ?_
  split
  · exact .refl
  · split
    · exact .refl
    · exact u.fetchFrom_reach ..

theorem execStopFetch_ends (tag : Byte) (s : State) :
    Ends (Calm (quietOf (.stopFetch tag)) s) (execStopFetch tag s) := by
  refine State.request_quiet fun u => ?_
  split
  · exact (u.endExport_reach _).mono (by decide)
  · exact .refl

end Sys2Proof.Machine
end

section
/-! SUPPORT. The moves of each command, continued: the events, and all commands together. -/

namespace Sys2Proof.Machine

/-! ### Capture events -/

theorem execFrameCompleted_ends (c : ChannelId) (samples : List Sample) (s : State) :
    Ends (Reach commandKinds s) (execFrameCompleted c samples s) := by
  unfold execFrameCompleted
  simp only
  exact .ite (fun _ => State.settleAll_ends (.trans (.one (.capture _ _ (by rfl)) (by decide)) (State.frameArrives_reach ..)))
    fun _ => .same

theorem execInputLossTimerExpiry_ends (c : ChannelId) (s : State) :
    Ends (Reach commandKinds s) (execInputLossTimerExpiry c s) := by
  unfold execInputLossTimerExpiry
  split
  · exact State.settleAll_ends (.trans (.trans (.one (.capture _ _ (by rfl)) (by decide)) (State.raise_reach (hK := by decide) ..))
      (State.countLostFrames_reach ..))
  · exact .same

theorem execLostFrameTick_ends (c : ChannelId) (s : State) : Ends (Reach commandKinds s) (execLostFrameTick c s) := by
  unfold execLostFrameTick
  split
  · exact State.settleAll_ends (.trans (.one (.capture _ _ (by rfl)) (by decide)) (State.countLostFrames_reach ..))
  · exact .same

theorem execInputReturned_ends (c : ChannelId) (x : Sample) (s : State) :
    Ends (Calm quietKinds s) (execInputReturned c x s) := by
  unfold execInputReturned
  split
  · exact State.finish_calm (.trans (.one (.capture _ _ (by rfl)) (by decide)) (State.raise_reach (hK := by decide) ..))
  · exact .still

/-- The kinds of moves that an output frame time is made of. -/
def outputKinds : List Kind := .output :: .unitCount :: readbackKinds

theorem Channel.playMode_sansOutput (ch : Channel) : ch.playMode.sansOutput = ch.sansOutput := by
  unfold Channel.playMode
  split <;> rfl

theorem State.playMode_reach (s : State) (c : ChannelId) : Reach outputKinds s (s.modChannel c Channel.playMode) :=
  .one (.output _ _ (Channel.playMode_sansOutput _)) (by decide)

theorem State.play_reach (s : State) (c : ChannelId) (source : OutputSource) (frame : Option (List Sample)) :
    Reach outputKinds s (s.modChannel c fun ch => ch.play source frame) := .one (.output _ _ rfl) (by decide)

theorem State.readbackFrame_reach (s : State) (c : ChannelId) : Reach outputKinds s (s.readbackFrame c) := by
  unfold State.readbackFrame
  simp only
  split
  · refine .trans (.one (.unit _ _ ?_) (by decide)) (State.play_reach ..)
    split <;> rfl
  · refine .ite (fun _ => ?_) fun _ => .ite (fun _ => s.play_reach ..) fun _ => ?_
    · have hend : Reach outputKinds s (s.endEntry c .ended) := (s.endEntry_reach ..).mono (by decide)
      exact .ite (fun _ => hend.trans (State.play_reach ..)) fun _ => hend.trans (State.playMode_reach ..)
    · exact .trans (.one (.unitCount _ _ (by rfl) (by exact id) (by exact fun _ => Nat.min_le_left ..)) (by decide))
        (State.play_reach ..)

theorem execChannelOutputFrameTime_ends (c : ChannelId) (s : State) :
    Ends (Calm quietKinds s) (execChannelOutputFrameTime c s) := by
  unfold execChannelOutputFrameTime
  simp only
  split
  · exact State.settleAll_calm ((s.readbackFrame_reach c).mono (by decide))
  · exact State.settleAll_calm ((s.playMode_reach c).mono (by decide))

theorem execKeypadPressAccepted_ends (c : ChannelId) (k : KeyId) (s : State) :
    Ends (Reach commandKinds s) (execKeypadPressAccepted c k s) :=
  .ite (fun _ => State.finish_ends ((s.acceptPress_reach ..).mono (by decide))) fun _ => .same

theorem execKeypadReleaseAccepted_ends (c : ChannelId) (k : KeyId) (s : State) :
    Ends (Calm quietKinds s) (execKeypadReleaseAccepted c k s) :=
  .ite (fun _ => State.finish_calm (s.acceptKey_reach _ _ _ (by decide))) fun _ => .still

theorem execKeySample_ends (c : ChannelId) (k : KeyId) (high : Bool) (s : State) :
    Ends (Reach commandKinds s) (execKeySample c k high s) :=
  .ite (fun _ => State.finish_ends ((s.sampleKey_reach ..).mono (by decide))) fun _ => .same

theorem State.freePort_reach {K : List Kind} (s : State) (hK : Kind.grant ∈ K) : Reach K s s.freePort :=
  .one (.grant _ rfl rfl) hK

theorem State.captured_reach (s : State) (c : ChannelId) (n f : Nat) (samples : List Sample) (g : Grant) :
    Reach quietKinds s (s.captured c n f samples g) := by
  have hfree (u : State) : Reach quietKinds u u.freePort := u.freePort_reach (by decide)
  unfold State.captured
  exact .trans (.trans (.trans (.one (.frame ..) (by decide)) (hfree _)) (State.popCapture_reach (hK := by decide) ..))
    ((State.settleStored_reach ..).mono (by decide))

theorem execCaptureTransferEnd_ends (s : State) : Ends (Calm quietKinds s) (execCaptureTransferEnd s) := by
  unfold execCaptureTransferEnd
  split
  · split
    · split
      · exact .ite (fun _ => State.settleAll_calm (s.captured_reach ..)) fun _ => .fault
      · exact .still
    all_goals exact .still
  · exact .still

/-! ### The ends of the readers' transfers -/

theorem State.trimOwner_reach (s : State) (b : Nat) : Reach [.notice, .trim] s (s.trimOwner b) := by
  unfold State.trimOwner
  split
  · exact s.trimStore_reach _
  · exact .refl

theorem State.endTransfer_ends {s : State} {g : Grant} {deliver : State → List Sample → State}
    (hdeliver : ∀ u l, Reach quietKinds u (deliver u l)) : Ends (Calm quietKinds s) (s.endTransfer g deliver) := by
  have hfree : Reach quietKinds s s.freePort := s.freePort_reach (by decide)
  have htrim (u : State) : Reach quietKinds u (u.trimOwner g.block) := (u.trimOwner_reach _).mono (by decide)
  refine .ite (fun _ => .ite (fun _ => ?_) fun _ => .fault) fun _ => State.settleAll_calm (hfree.trans (htrim _))
  split
  · exact State.settleAll_calm ((hfree.trans (hdeliver ..)).trans (htrim _))
  · exact .fault

theorem execStationReaderTransferEnd_ends (s : State) : Ends (Calm quietKinds s) (execStationReaderTransferEnd s) := by
  unfold execStationReaderTransferEnd
  split
  · split
    · refine State.endTransfer_ends fun u l => ?_
      unfold State.deliverStation
      split
      · exact .one (.port _ _ rfl) (by decide)
      all_goals exact .refl
    all_goals exact .still
  · exact .still

theorem execReadbackReaderTransferEnd_ends (s : State) : Ends (Calm quietKinds s) (execReadbackReaderTransferEnd s) := by
  unfold execReadbackReaderTransferEnd
  split
  · split
    · refine State.endTransfer_ends fun u l => ?_
      unfold State.deliverReadback
      split
      · exact .trans (.one (.unit _ _ (by exact Readback.advance_still ..)) (by decide))
          ((State.recomputeTrim_reach ..).mono (by decide))
      · exact .refl
    all_goals exact .still
  · exact .still

theorem execExportReaderTransferEnd_ends (s : State) : Ends (Calm quietKinds s) (execExportReaderTransferEnd s) := by
  unfold execExportReaderTransferEnd
  split
  · split
    · refine State.endTransfer_ends fun u l => ?_
      unfold State.deliverExport
      split
      · exact .trans (.one (.exporter _) (by decide)) ((State.recomputeTrim_reach ..).mono (by decide))
      all_goals exact .refl
    all_goals exact .still
  · exact .still

theorem execRefreshDueTime_ends (s : State) : Ends (Calm quietKinds s) (execRefreshDueTime s) :=
  State.settleAll_calm (.one (.refresh _ fun _ => Nat.min_le_left ..) (by decide))

theorem execRefreshBurstEnd_ends (s : State) : Ends (Calm quietKinds s) (execRefreshBurstEnd s) := by
  unfold execRefreshBurstEnd
  split
  · split
    · exact State.settleAll_calm (.one (.refresh _ fun h => Nat.le_trans (Nat.sub_le ..) h) (by decide))
    all_goals exact .still
  · exact .still

/-! ### Station events -/

theorem State.validPacket_reach (s : State) (n : StationId) : Reach [.notice, .signal] s (s.validPacket n) := by
  unfold State.validPacket
  split
  · exact State.modSignal_reach rfl rfl rfl rfl (by decide)
  · exact .trans (State.modSignal_reach (by rfl) (by rfl) (by rfl) (by rfl) (by decide))
      (State.raiseStation_reach (hK := by decide) ..)
  · exact .trans (State.modSignal_reach (by rfl) (by rfl) (by rfl) (by rfl) (by decide))
      (State.raiseStation_reach (hK := by decide) ..)

theorem State.onPacket_ends {s : State} {n : StationId} {f : State → State} (hf : ∀ u, Reach commandKinds u (f u)) :
    Ends (Reach commandKinds s) (s.onPacket n f) := by
  unfold State.onPacket
  split
  · exact .same
  · exact State.finish_ends (((s.validPacket_reach n).mono (by decide)).trans (hf _))

theorem State.onPacket_calm {s : State} {n : StationId} {f : State → State} (hf : ∀ u, Reach quietKinds u (f u)) :
    Ends (Calm quietKinds s) (s.onPacket n f) := by
  unfold State.onPacket
  split
  · exact .still
  · exact State.finish_calm (((s.validPacket_reach n).mono (by decide)).trans (hf _))

theorem State.onKey_calm {s : State} {n : StationId} {press : Bool} {f : State → State}
    (hf : ∀ u, Reach quietKinds u (f u)) : Ends (Calm quietKinds s) (s.onKey n press f) :=
  State.onPacket_calm fun u => .onlyIf fun _ => hf u

theorem State.onKey_ends {s : State} {n : StationId} {press : Bool} {f : State → State}
    (hf : ∀ u, Reach commandKinds u (f u)) : Ends (Reach commandKinds s) (s.onKey n press f) :=
  State.onPacket_ends fun u => .onlyIf fun _ => hf u

theorem State.discardPacket_ends (s : State) (n : StationId) (b : Bool) :
    Ends (Calm quietKinds s) (s.discardPacket n b) := by
  unfold State.discardPacket
  split
  · exact .still
  · exact .ite (fun _ => State.finish_calm (.one (.signal n _ (by rfl) (by rfl) (by exact fun _ => Nat.min_le_left ..)
      (by exact id)) (by decide))) fun _ => .still

theorem State.startWork_reach {K : List Kind} (s : State) (t : Take) (hK : ∀ k ∈ [Kind.notice, .takeDispatch], k ∈ K) :
    Reach K s (s.startWork t) :=
  .onlyIf fun _ => .trans (.one (.takeDispatch _ _ (by exact fun _ => rfl)) (hK _ (by decide)))
    (State.raiseTake_reach (hK := hK _ (by decide)) ..)

theorem State.applyPedals_reach (s : State) (n : StationId) : Reach motionKinds s (s.applyPedals n) :=
  .unless (.one (.port n _ (by rfl)) (by decide)) fun _ => State.setTransport_reach ..

/-- The kinds of moves that a pedal's event is made of. -/
def pedalKinds : List Kind := [.notice, .signal, .orphan, .port, .takeDispatch]

theorem State.pedalActs_reach (s : State) (n : StationId) (t : Take) (governs starts : Bool) :
    Reach pedalKinds s (s.pedalActs n t governs starts) := by
  have happly (u : State) : Reach pedalKinds u (u.applyPedals n) := (u.applyPedals_reach n).mono (by decide)
  exact .unless (.onlyIf fun _ => s.startWork_reach t (by decide)) fun _ => happly _

theorem State.pedalEvent_reach (s : State) (n : StationId) (p : Pedal) (press : Bool) :
    Reach pedalKinds s (s.pedalEvent n p press) := by
  have hstatus (u : State) : Reach pedalKinds u (u.setStatus n .none none) := (u.setStatus_reach ..).mono (by decide)
  have hpedals : Reach pedalKinds s (s.modStation n fun st =>
      { st with pedals := heldAfter (s.stations.get n).pedals p press }) :=
    State.modSignal_reach rfl rfl rfl rfl (by decide)
  unfold State.pedalEvent
  simp only
  refine .ite (fun _ => ?_) fun _ => hpedals
  split
  · exact (Reach.thenIf hpedals fun _ => hstatus _).trans (State.pedalActs_reach ..)
  · exact .thenIf hpedals fun _ => hstatus _

theorem State.onPedal_ends (s : State) (n : StationId) (p : Pedal) (press : Bool) :
    Ends (Reach commandKinds s) (s.onPedal n p press) := by
  unfold State.onPedal
  split
  · exact .same
  · exact State.settleAll_ends (((s.validPacket_reach n).mono (by decide)).trans
      ((State.pedalEvent_reach ..).mono (by decide)))

theorem State.typeTake_reach (s : State) (n : StationId) (t : Take) : Reach dispatchKinds s (s.typeTake n t) := by
  have hleave (u : State) : Reach dispatchKinds u (u.leaveList n t.ref) := (u.leaveList_reach ..).mono (by decide)
  have hstatus (u : State) : Reach dispatchKinds u (u.setStatus n .typed none) := (u.setStatus_reach ..).mono (by decide)
  unfold State.typeTake
  exact .trans (.trans (.trans (.trans (.one (.takeDispatch _ _ (by exact fun _ => rfl)) (by decide)) (hleave _)) (hstatus _))
    (State.raiseTake_reach (hK := by decide) ..)) (State.passIfWanting_reach ..)

theorem State.doneKey_reach (s : State) (n : StationId) : Reach dispatchKinds s (s.doneKey n) := by
  unfold State.doneKey
  split
  · exact (s.setStatus_reach ..).mono (by decide)
  · exact .ite (fun _ => (s.setStatus_reach ..).mono (by decide)) fun _ =>
      .ite (fun _ => (s.setStatus_reach ..).mono (by decide)) fun _ => s.typeTake_reach ..

theorem State.returnTake_reach (s : State) (n : StationId) (t : Take) :
    Reach (.takeReturn :: dispatchKinds) s (s.returnTake n t) := by
  have hleave : Reach (.takeReturn :: dispatchKinds) s ((s.leaveList n t.ref).modTake t.ref fun u =>
      { u with returns := min 3 (t.returns + 1), excluded := some n }) :=
    .trans ((s.leaveList_reach ..).mono (by decide)) (.one (.takeReturn _ _ fun _ => rfl) (by decide))
  have hhead (u : State) : Reach (.takeReturn :: dispatchKinds) u (u.queueHead t.ref) :=
    (u.queueHead_reach _).mono (by decide)
  have hstatus (u : State) (e : StationStatus) : Reach (.takeReturn :: dispatchKinds) u (u.setStatus n e none) :=
    (u.setStatus_reach ..).mono (by decide)
  have hmatch (u : State) : Reach (.takeReturn :: dispatchKinds) u u.matchingPass := u.matchingPass_reach.mono (by decide)
  have hpass (u : State) : Reach (.takeReturn :: dispatchKinds) u (u.passIfWanting n) :=
    (u.passIfWanting_reach n).mono (by decide)
  unfold State.returnTake
  exact .ite (fun _ => ((hleave.trans (hhead _)).trans (hstatus ..)).trans (hmatch _)) fun _ =>
    (((hleave.trans (.one (.takeDispatch _ _ (by exact fun _ => rfl)) (by decide))).trans
      (State.raiseTake_reach (hK := by decide) ..)).trans (hstatus ..)).trans (hpass _)

theorem State.returnKey_reach (s : State) (n : StationId) : Reach (.takeReturn :: dispatchKinds) s (s.returnKey n) := by
  unfold State.returnKey
  split
  · exact (s.setStatus_reach ..).mono (by decide)
  · exact s.returnTake_reach ..

theorem State.readyKey_reach (s : State) (n : StationId) : Reach portKinds s (s.readyKey n) := by
  unfold State.readyKey
  exact .trans (.trans (State.modSignal_reach (by rfl) (by rfl) (by rfl) (by rfl) (by decide))
    (State.raiseStation_reach (hK := by decide) ..)) ((State.passIfWanting_reach ..).mono (by decide))

theorem State.noteKey_reach (s : State) (n : StationId) : Reach (.port :: .orphan :: markKinds) s (s.noteKey n) := by
  unfold State.noteKey
  split
  · exact ((s.addReportedMark_reach ..).mono (by decide)).trans ((State.setStatus_reach ..).mono (by decide))
  · exact (s.setStatus_reach ..).mono (by decide)

theorem execStationLinkLost_ends (n : StationId) (s : State) : Ends (Reach commandKinds s) (execStationLinkLost n s) := by
  unfold execStationLinkLost
  split
  · exact State.finish_ends ((s.loseStation_reach n).mono (by decide))
  · exact .same

theorem execReclaimTimerExpiry_ends (n : StationId) (s : State) :
    Ends (Reach commandKinds s) (execReclaimTimerExpiry n s) := by
  unfold execReclaimTimerExpiry
  split
  · exact State.finish_ends ((s.expireReclaim_reach n).mono (by decide))
  · exact .same

/-! ### The station frame time and the packets sent -/

theorem State.endOfTake_reach (s : State) (n : StationId) (e : Nat) : Reach motionKinds s (s.endOfTake n e) :=
  .trans (.trans (.one (.port n _ (by rfl)) (by decide)) (State.stopByPart_reach ..)) (State.setStatus_reach ..)

/-- The kinds of moves that a port makes by itself: its motion, its counters and its notices. -/
def signalKinds : List Kind := .notice :: .signal :: motionKinds

theorem State.underrun_reach (s : State) (n : StationId) : Reach signalKinds s (s.underrun n) :=
  .trans (.one (.signal n _ (by rfl) (by rfl) (by exact id) (by exact fun _ => Nat.min_le_left ..)) (by decide))
    (State.raiseStation_reach (hK := by decide) ..)

theorem Station.strideMove_still (st : Station) (playable : Nat → Bool) (start ub p y : Nat) :
    (st.strideMove playable start ub p y).still = st.still := by
  unfold Station.strideMove
  split
  · split <;> rfl
  · split
    · rfl
    · exact Station.beginBackward_still ..
  all_goals rfl

theorem State.scanEmpty_reach (s : State) (n : StationId) (t : Take) (x : Session) :
    Reach signalKinds s (s.scanEmpty n t x) := by
  unfold State.scanEmpty
  simp only
  refine .ite (fun _ => .one (.port n _ (by rfl)) (by decide)) fun _ => ?_
  split
  · exact .ite (fun _ => .one (.port n _ (Station.strideMove_still ..)) (by decide)) fun _ => s.underrun_reach n
  · exact s.underrun_reach n

theorem State.playEmpty_reach (s : State) (n : StationId) (t : Take) : Reach signalKinds s (s.playEmpty n t) := by
  unfold State.playEmpty
  simp only
  split
  · exact (s.endOfTake_reach ..).mono (by decide)
  · exact .one (.port n _ (by rfl)) (by decide)
  · exact .one (.port n _ (by rfl)) (by decide)
  · exact s.underrun_reach n

theorem Station.sendHead_still (st : Station) (e : PlayEntry) : (st.sendHead e).still = st.still := by
  unfold Station.sendHead
  simp only
  split <;> rfl

theorem State.stationFrame_reach (s : State) (n : StationId) : Reach signalKinds s (s.stationFrame n) := by
  have htimer : Reach signalKinds s (s.modStation n fun st => { st with frameTimer := some 0 }) :=
    .one (.port n _ rfl) (by decide)
  unfold State.stationFrame
  simp only
  split
  · refine htimer.trans (.one (.port n _ ?_) (by decide))
    split
    · exact (congrArg (fun st : Station => { st with transport := .stopped }) (Station.sendHead_still ..) :)
    · exact Station.sendHead_still ..
  · split
    · exact .ite (fun _ => htimer.trans (State.scanEmpty_reach ..)) fun _ => htimer.trans (State.playEmpty_reach ..)
    · exact htimer

theorem execStationFrameTime_ends (n : StationId) (s : State) : Ends (Calm quietKinds s) (execStationFrameTime n s) :=
  .ite (fun _ => State.settleAll_calm ((s.stationFrame_reach n).mono (by decide))) fun _ => .still

theorem execStateRefreshTimer_ends (n : StationId) (s : State) : Ends (Calm quietKinds s) (execStateRefreshTimer n s) := by
  unfold execStateRefreshTimer
  split
  · exact .still
  · exact State.finish_calm (.one (.port n _ (by rfl)) (by decide))

theorem execStatePacketSent_ends (n : StationId) (s : State) : Ends (Calm quietKinds s) (execStatePacketSent n s) := by
  unfold execStatePacketSent
  split
  · exact State.finish_calm (.one (.port n _ (by rfl)) (by decide))
  all_goals exact .still

theorem execAudioPacketSent_ends (n : StationId) (s : State) : Ends (Calm quietKinds s) (execAudioPacketSent n s) := by
  unfold execAudioPacketSent
  split
  · exact State.finish_calm (.one (.port n _ (by rfl)) (by decide))
  all_goals exact .still

/-! ### All commands -/

/-- The commands that may change dispatch, or open or free takes and sessions, before what follows at once. -/
def Instr.busy : Instr → Bool
  | .openSession .. | .closeSession .. | .cutNow .. | .releaseTake .. | .queueTake .. | .setClass .. | .recallTake ..
  | .assignTake .. | .clearHold .. | .configureStation .. | .frameCompleted .. | .inputLossTimerExpiry .. | .lostFrameTick ..
  | .keypadPressAccepted .. | .keySample .. | .playPedal .. | .fwdPedal .. | .backPedal .. | .doneKey .. | .returnKey ..
  | .readyKey .. | .stationLinkLost .. | .reclaimTimerExpiry .. => true
  | _ => false

/-- The other commands, when they do not reset the part, are quiet. -/
theorem exec_calm {i : Instr} (s : State) (h : ¬ Resets i s) (hquiet : Instr.busy i = false) :
    Ends (Calm (quietOf i) s) (exec i s) := by
  cases i with
  | pinReset => exact absurd (.inl ⟨_, _, _, _, rfl⟩) h
  | startupComplete => exact (execStartupComplete_ends s).calm
  | messageReceived => exact (execMessageReceived_ends _ s).calm
  | messageBadLength => exact (execMessageBadLength_ends _ s).calm
  | messageTimeout => exact (execMessageTimeout_ends s).calm
  | requestUnknownKind => exact (execRequestUnknownKind_ends _ _ _ s).calm
  | replySent =>
    refine (execReplySent_ends ?_).calm
    by_contra hfull
    exact h (.inr ⟨rfl, by simpa using hfull⟩)
  | noticeSent => exact (execNoticeSent_ends s).calm
  | dataSent => exact (execDataSent_ends s).calm
  | fetchEndSent => exact (execFetchEndSent_ends s).calm
  | resetLink => exact execResetLink_ends _ _ _
  | resetFull =>
    exact State.request_quiet fun u =>
      State.modLink_reach (s := u) (f := fun l => { l with fullReset := true }) rfl rfl rfl rfl rfl (by decide)
  | setNoticeMask => exact execSetNoticeMask_ends _ _ _
  | configureStore => exact execConfigureStore_ends _ _ _
  | configureChannel => exact execConfigureChannel_ends _ _ _
  | setPlan => exact execSetPlan_ends _ _ _ _
  | addMark => exact execAddMark_ends _ _ _
  | deleteMark => exact execDeleteMark_ends _ _ _ _
  | openRange => exact execOpenRange_ends _ _ _
  | closeRange => exact execCloseRange_ends _ _ _ _ _
  | setRange => exact execSetRange_ends _ _ _
  | deleteRange => exact execDeleteRange_ends _ _ _ _
  | queueReadbackChain => exact execQueueReadbackChain_ends _ _ _
  | queueReadbackPreempt => exact execQueueReadbackPreempt_ends _ _ _
  | cancelReadbackCurrent => exact execCancelReadbackCurrent_ends _ _ _
  | cancelReadbackAll => exact execCancelReadbackAll_ends _ _ _ _
  | configureReadback => exact execConfigureReadback_ends _ _ _ _
  | fetchAudio => exact execFetchAudio_ends _ _ _ _ _
  | fetchAudioContinue => exact execFetchAudioContinue_ends _ _ _ _
  | stopFetch => exact execStopFetch_ends _ _
  | identify | sessionInfo | storeInfo | channelInfo | takeInfo | listTakes | dispatchInfo | listMarks | listRanges
    | stationInfo | readbackInfo => exact State.report_quiet
  | inputReturned => exact (execInputReturned_ends _ _ s).calm
  | channelOutputFrameTime => exact (execChannelOutputFrameTime_ends _ s).calm
  | keypadReleaseAccepted => exact (execKeypadReleaseAccepted_ends _ _ s).calm
  | captureTransferEnd => exact (execCaptureTransferEnd_ends s).calm
  | stationPacketInvalid | stationPacketTimeout | stationLineBreak => exact (s.discardPacket_ends _ _).calm
  | alive =>
    exact (State.onPacket_calm fun u => State.modSignal_reach rfl rfl rfl rfl (by decide)).calm
  | keyUnknown => exact (State.onPacket_calm fun u => .refl).calm
  | noteKey => exact (State.onKey_calm fun u => (u.noteKey_reach _).mono (by decide)).calm
  | stationFrameTime => exact (execStationFrameTime_ends _ s).calm
  | stateRefreshTimer => exact (execStateRefreshTimer_ends _ s).calm
  | statePacketSent => exact (execStatePacketSent_ends _ s).calm
  | audioPacketSent => exact (execAudioPacketSent_ends _ s).calm
  | stationReaderTransferEnd => exact (execStationReaderTransferEnd_ends s).calm
  | readbackReaderTransferEnd => exact (execReadbackReaderTransferEnd_ends s).calm
  | exportReaderTransferEnd => exact (execExportReaderTransferEnd_ends s).calm
  | refreshDueTime => exact (execRefreshDueTime_ends s).calm
  | refreshBurstEnd => exact (execRefreshBurstEnd_ends s).calm
  | startByte => exact (execStartByte_ends s).calm
  | invalidByte => exact (execInvalidByte_ends s).calm
  | _ => exact nomatch hquiet

theorem exec_busy_ends {i : Instr} (s : State) (h : Instr.busy i = true) : Ends (Reach (movesOf i) s) (exec i s) := by
  cases i with
  | openSession => exact execOpenSession_ends _ _ _
  | closeSession => exact execCloseSession_ends _ _ _
  | cutNow => exact execCutNow_ends _ _ _
  | releaseTake => exact execReleaseTake_ends _ _ _ _
  | queueTake => exact execQueueTake_ends _ _ _ _
  | setClass => exact execSetClass_ends _ _ _ _ _
  | recallTake => exact execRecallTake_ends _ _ _ _
  | assignTake => exact execAssignTake_ends _ _ _ _ _
  | clearHold => exact execClearHold_ends _ _ _ _
  | configureStation => exact execConfigureStation_ends _ _ _
  | frameCompleted => exact (execFrameCompleted_ends _ _ s).toKinds
  | inputLossTimerExpiry => exact (execInputLossTimerExpiry_ends _ s).toKinds
  | lostFrameTick => exact (execLostFrameTick_ends _ s).toKinds
  | keypadPressAccepted => exact (execKeypadPressAccepted_ends _ _ s).toKinds
  | keySample => exact (execKeySample_ends _ _ _ s).toKinds
  | playPedal | fwdPedal | backPedal => exact (s.onPedal_ends _ _ _).toKinds
  | doneKey => exact (State.onKey_ends fun u => (u.doneKey_reach _).mono (by decide)).toKinds
  | returnKey => exact (State.onKey_ends fun u => (u.returnKey_reach _).mono (by decide)).toKinds
  | readyKey => exact (State.onKey_ends fun u => (u.readyKey_reach _).mono (by decide)).toKinds
  | stationLinkLost => exact (execStationLinkLost_ends _ s).toKinds
  | reclaimTimerExpiry => exact (execReclaimTimerExpiry_ends _ s).toKinds
  | _ => exact nomatch h

/-- A command that does not reset the part is made of its moves. -/
theorem exec_ends (i : Instr) (s : State) (h : ¬ Resets i s) : Ends (Reach (movesOf i) s) (exec i s) := by
  cases hbusy : Instr.busy i with
  | true => exact exec_busy_ends s hbusy
  | false => exact (exec_calm s h hbusy).mono fun _ ht => ht.reach

end Sys2Proof.Machine
end

section
/-! SUPPORT. What every command keeps: the queue of commands, the counters' ranges, the configurations. -/

namespace Sys2Proof.Machine

/-! ### Counters -/

/-- Notices raised leave the counters of the link in their ranges. -/
theorem Link.raise_dropped (l : Link) (k : NoticeKind) (sub : Subject) (contents : List Byte) :
    Within 65535 l.dropped (l.raise k sub contents).dropped := by
  intro h
  unfold Link.raise
  split
  · split
    · rw [Link.merge_eq]; exact h
    · simp only
      rw [Link.merge_eq]
      exact Nat.min_le_left ..
  · exact h

/-- A change of the link that keeps its counters in their ranges keeps all counters in theirs. -/
theorem State.modLink_counters {s : State} {f : Link → Link} (herror : Within 65535 s.link.errorCount (f s.link).errorCount)
    (hdropped : Within 65535 s.link.dropped (f s.link).dropped)
    (hbuffer : Within Config.receiveBuffer s.link.buffer.length (f s.link).buffer.length) (h : s.CountersInv) :
    (s.modLink f).CountersInv := by
  obtain ⟨he, hd, hb, hrest⟩ := h
  exact ⟨herror he, hdropped hd, hbuffer hb, hrest⟩

theorem State.modArbiter_counters {s : State} {f : Arbiter → Arbiter}
    (hdue : Within 15 s.arbiter.refreshDue (f s.arbiter).refreshDue) (h : s.CountersInv) : (s.modArbiter f).CountersInv := by
  obtain ⟨he, hd, hb, hr, hrest⟩ := h
  exact ⟨he, hd, hb, hdue hr, hrest⟩

theorem State.modStation_counters {s : State} {n : StationId} {f : Station → Station}
    (hbad : Within 65535 (s.stations.get n).badPackets (f (s.stations.get n)).badPackets)
    (hunder : Within 65535 (s.stations.get n).underruns (f (s.stations.get n)).underruns) (h : s.CountersInv) :
    (s.modStation n f).CountersInv := by
  obtain ⟨he, hd, hb, hr, hst, hu⟩ := h
  refine ⟨he, hd, hb, hr, fun m => ?_, hu⟩
  by_cases hm : m = n
  · subst hm
    rw [State.modStation_get_self]
    exact ⟨hbad (hst m).1, hunder (hst m).2⟩
  · rw [State.modStation_get_ne s f hm]
    exact hst m

theorem State.modReadback_counters {s : State} {c : ChannelId} {f : Readback → Readback}
    (hserial : Within 255 (s.readback.get c).nextSerial (f (s.readback.get c)).nextSerial)
    (hunder : Within 65535 (s.readback.get c).underruns (f (s.readback.get c)).underruns) (h : s.CountersInv) :
    (s.modReadback c f).CountersInv := by
  obtain ⟨he, hd, hb, hr, hst, hu⟩ := h
  refine ⟨he, hd, hb, hr, hst, fun d => ?_⟩
  by_cases hdc : d = c
  · subst hdc
    rw [State.modReadback_get_self]
    exact ⟨hunder (hu d).1, Nat.lt_succ_of_le (hserial (Nat.le_of_lt_succ (hu d).2))⟩
  · rw [State.modReadback_get_ne s f hdc]
    exact hu d

/-- What a port's counters are. -/
def Station.counters (st : Station) : Nat × Nat := (st.badPackets, st.underruns)

/-- A change of a port that keeps its counters keeps all counters in their ranges. -/
theorem State.modStation_counters_of_eq {s : State} {n : StationId} {f : Station → Station}
    (hkeep : (f (s.stations.get n)).counters = (s.stations.get n).counters) (h : s.CountersInv) :
    (s.modStation n f).CountersInv := by
  obtain ⟨hbad, hunder⟩ := Prod.mk.inj hkeep
  exact State.modStation_counters (by rw [hbad]; exact id) (by rw [hunder]; exact id) h

/-- Every move keeps the counters in their ranges. -/
theorem Move.counters {k : Kind} {s t : State} (h : Move k s t) (hs : s.CountersInv) : t.CountersInv := by
  cases h with
  | notice k sub contents =>
    exact State.modLink_counters (f := fun l => l.raise k sub contents)
      (by intro _; rw [Link.raise_eq]; assumption) (Link.raise_dropped _ _ _ _) (by intro _; rw [Link.raise_eq]; assumption) hs
  | sending => exact hs
  | link f _ _ herror hdropped hbuffer => exact State.modLink_counters herror hdropped hbuffer hs
  | mask f _ herror hdropped hbuffer => exact State.modLink_counters herror hdropped hbuffer hs
  | orphan f h =>
    have hdue : (f s.arbiter).refreshDue = s.arbiter.refreshDue := (congrArg Arbiter.refreshDue h :)
    exact State.modArbiter_counters (by rw [hdue]; exact id) hs
  | grant f _ hdue => exact State.modArbiter_counters (by rw [hdue]; exact id) hs
  | refresh f hdue => exact State.modArbiter_counters hdue hs
  | port n f h => exact State.modStation_counters_of_eq (congrArg Station.counters h :) hs
  | list n f h => exact State.modStation_counters_of_eq (congrArg Station.counters h :) hs
  | signal n f _ _ hbad hunder => exact State.modStation_counters hbad hunder hs
  | stationConfig => exact State.modStation_counters_of_eq rfl hs
  | unit c f h =>
    have hserial : (f (s.readback.get c)).nextSerial = (s.readback.get c).nextSerial := (congrArg Readback.nextSerial h :)
    have hunder : (f (s.readback.get c)).underruns = (s.readback.get c).underruns := (congrArg Readback.underruns h :)
    exact State.modReadback_counters (by rw [hserial]; exact id) (by rw [hunder]; exact id) hs
  | unitCount c f _ hserial hunder => exact State.modReadback_counters hserial hunder hs
  | threshold => exact State.modReadback_counters id id hs
  | queue | rotation | takeDispatch | takeReturn | takeClass | takeBody | takeTable | session | sessionTrim | sessionMarks
    | takeCount | sessionGone | sessionOpen | marks | ranges | toggle | keypad | channelRun | output | capture
    | channelConfig | exporter | trim | condition | storeFree | place | frame | chainOpen | lowMark => exact hs

/-! ### Configurations -/

/-- What a move leaves of the configurations, and which kinds of moves do not. -/
theorem Move.configs {k : Kind} {s t : State} (h : Move k s t) :
    (k ≠ .channelConfig → ∀ c, (t.channels.get c).config = (s.channels.get c).config)
    ∧ (k ≠ .stationConfig → ∀ n, (t.stations.get n).config = (s.stations.get n).config)
    ∧ (k ≠ .threshold → ∀ c, (t.readback.get c).threshold = (s.readback.get c).threshold)
    ∧ (k ≠ .lowMark → t.store.lowMark = s.store.lowMark) ∧ (k ≠ .mask → t.link.mask = s.link.mask)
    ∧ t.store.blocks = s.store.blocks ∧ t.link.rate = s.link.rate := by
  have hchannel {c : ChannelId} {f : Channel → Channel} (hf : (f (s.channels.get c)).config = (s.channels.get c).config) :=
    State.modChannel_view Channel.config hf
  have hstation {n : StationId} {f : Station → Station} (hf : (f (s.stations.get n)).config = (s.stations.get n).config) :=
    State.modStation_view Station.config hf
  have hunit {c : ChannelId} {f : Readback → Readback}
      (hf : (f (s.readback.get c)).threshold = (s.readback.get c).threshold) := State.modReadback_view Readback.threshold hf
  cases h with
  | notice k sub contents =>
    refine ⟨fun _ _ => rfl, fun _ _ => rfl, fun _ _ => rfl, fun _ => rfl, fun _ => ?_, rfl, ?_⟩
    all_goals rw [State.raise_link, Link.raise_eq]
  | link f hmask hrate => exact ⟨fun _ _ => rfl, fun _ _ => rfl, fun _ _ => rfl, fun _ => rfl, fun _ => hmask, rfl, hrate⟩
  | mask f hrate => exact ⟨fun _ _ => rfl, fun _ _ => rfl, fun _ _ => rfl, fun _ => rfl, fun h => absurd rfl h, rfl, hrate⟩
  | port n f h =>
    exact ⟨fun _ _ => rfl, fun _ => hstation (congrArg Station.config h :), fun _ _ => rfl, fun _ => rfl, fun _ => rfl, rfl,
      rfl⟩
  | list n f h =>
    exact ⟨fun _ _ => rfl, fun _ => hstation (congrArg Station.config h :), fun _ _ => rfl, fun _ => rfl, fun _ => rfl, rfl,
      rfl⟩
  | signal n f hconfig =>
    exact ⟨fun _ _ => rfl, fun _ => hstation hconfig, fun _ _ => rfl, fun _ => rfl, fun _ => rfl, rfl, rfl⟩
  | stationConfig => exact ⟨fun _ _ => rfl, fun h => absurd rfl h, fun _ _ => rfl, fun _ => rfl, fun _ => rfl, rfl, rfl⟩
  | toggle c f h =>
    exact ⟨fun _ => hchannel (congrArg Channel.config h :), fun _ _ => rfl, fun _ _ => rfl, fun _ => rfl, fun _ => rfl, rfl,
      rfl⟩
  | keypad c f h =>
    exact ⟨fun _ => hchannel (congrArg Channel.config h :), fun _ _ => rfl, fun _ _ => rfl, fun _ => rfl, fun _ => rfl, rfl,
      rfl⟩
  | channelRun c f h =>
    exact ⟨fun _ => hchannel (congrArg Channel.config h :), fun _ _ => rfl, fun _ _ => rfl, fun _ => rfl, fun _ => rfl, rfl,
      rfl⟩
  | output c f h =>
    exact ⟨fun _ => hchannel (congrArg Channel.config h :), fun _ _ => rfl, fun _ _ => rfl, fun _ => rfl, fun _ => rfl, rfl,
      rfl⟩
  | capture c f h => exact ⟨fun _ => hchannel h, fun _ _ => rfl, fun _ _ => rfl, fun _ => rfl, fun _ => rfl, rfl, rfl⟩
  | channelConfig => exact ⟨fun h => absurd rfl h, fun _ _ => rfl, fun _ _ => rfl, fun _ => rfl, fun _ => rfl, rfl, rfl⟩
  | unit c f h =>
    exact ⟨fun _ _ => rfl, fun _ _ => rfl, fun _ => hunit (congrArg Readback.threshold h :), fun _ => rfl, fun _ => rfl, rfl,
      rfl⟩
  | unitCount c f hthreshold =>
    exact ⟨fun _ _ => rfl, fun _ _ => rfl, fun _ => hunit hthreshold, fun _ => rfl, fun _ => rfl, rfl, rfl⟩
  | threshold => exact ⟨fun _ _ => rfl, fun _ _ => rfl, fun h => absurd rfl h, fun _ => rfl, fun _ => rfl, rfl, rfl⟩
  | place n f st b slot _ h =>
    obtain ⟨hblocks, hlow, -, -⟩ := Store.place_bounds h
    exact ⟨fun _ _ => rfl, fun _ _ => rfl, fun _ _ => rfl, fun _ => hlow, fun _ => rfl, hblocks, rfl⟩
  | lowMark => exact ⟨fun _ _ => rfl, fun _ _ => rfl, fun _ _ => rfl, fun h => absurd rfl h, fun _ => rfl, rfl, rfl⟩
  | sending | orphan | grant | refresh | queue | rotation | takeDispatch | takeReturn | takeClass | takeBody | takeTable
    | session | sessionTrim | sessionMarks | takeCount | sessionGone | sessionOpen | marks | ranges | exporter | trim
    | condition | storeFree | frame | chainOpen =>
    exact ⟨fun _ _ => rfl, fun _ _ => rfl, fun _ _ => rfl, fun _ => rfl, fun _ => rfl, rfl, rfl⟩

/-! ### Commands -/

/-- A RESET FULL takes effect at a REPLY_SENT: the line is freed, and when the reply was the one to the reset the part is reset
before what follows (R187). -/
theorem execReplySent_reset {s t : State} (h : execReplySent s = .next t) (hfull : s.link.fullReset = true) :
    (∃ r, s.link.line = some (.reply r) ∧ t = State.settleAll s (if r.busy then s.freeLine else s.freeLine.fullReset))
      ∨ t = s := by
  unfold execReplySent at h
  split at h
  · next r hr =>
    refine .inl ⟨r, hr, ?_⟩
    have hdone : s.freeLine.replyDone = s.freeLine.fullReset := by
      unfold State.replyDone
      rw [if_pos (show s.freeLine.link.fullReset = true from hfull)]
    rw [hdone] at h
    exact (Host.Outcome.next.inj h).symm
  all_goals exact .inr (Host.Outcome.next.inj h).symm

/-- What holds of every state that a command's moves reach, of the state pin reset leaves and of what follows the reset a
RESET FULL performs, holds after every command. -/
theorem exec_preserves {P : State → Prop} {i : Instr} {s t : State} (h : exec i s = .next t)
    (hreach : ∀ K u, Reach K s u → P u)
    (hpin : ∀ m1 m0 l1 l0,
      P { State.resetWith (strapBlocks m1 m0) (strapRate l1 l0) .pin s.store.mem with pending := s.pending })
    (hfull : ∀ u, Reach settleKinds s.freeLine.fullReset u → P u) : P t := by
  by_cases hr : Resets i s
  · rcases hr with ⟨m1, m0, l1, l0, rfl⟩ | ⟨rfl, hr⟩
    · exact Host.Outcome.next.inj h ▸ hpin m1 m0 l1 l0
    · rcases execReplySent_reset h hr with ⟨r, -, rfl⟩ | rfl
      · split
        · exact hreach (.link :: settleKinds) _ ((s.freeLine_reach (by decide)).trans ((State.settleAll_reach ..).mono (by decide)))
        · exact hfull _ (State.settleAll_reach ..)
      · exact hreach settleKinds _ .refl
  · exact hreach _ _ (exec_ends i s hr t h)

/-- An outcome brings a next state: it is no fault and no refusal. -/
def Goes (o : Host.Outcome State Fault Refusal) : Prop := ∃ t, o = .next t

theorem Goes.next {t : State} : Goes (.next t) := ⟨t, rfl⟩

theorem Goes.ite {p : Prop} [Decidable p] {a b : Host.Outcome State Fault Refusal} (ha : Goes a) (hb : Goes b) :
    Goes (if p then a else b) := by
  split
  · exact ha
  · exact hb

theorem State.discardPacket_goes (s : State) (n : StationId) (b : Bool) : Goes (s.discardPacket n b) := by
  unfold State.discardPacket
  split
  · exact .next
  · exact .ite .next .next

theorem State.onPacket_goes (s : State) (n : StationId) (f : State → State) : Goes (s.onPacket n f) := by
  unfold State.onPacket
  split <;> exact .next

theorem State.onKey_goes (s : State) (n : StationId) (press : Bool) (f : State → State) : Goes (s.onKey n press f) :=
  s.onPacket_goes n _

theorem State.onPedal_goes (s : State) (n : StationId) (p : Pedal) (press : Bool) : Goes (s.onPedal n p press) := by
  unfold State.onPedal
  split <;> exact .next

/-- The commands that end a frame transfer. -/
def Instr.endsTransfer : Instr → Bool
  | .captureTransferEnd | .stationReaderTransferEnd | .readbackReaderTransferEnd | .exportReaderTransferEnd => true
  | _ => false

/-- Every command but the ends of transfers brings a next state. -/
theorem exec_goes {i : Instr} (h : Instr.endsTransfer i = false) (s : State) : Goes (exec i s) := by
  cases i with
  | captureTransferEnd | stationReaderTransferEnd | readbackReaderTransferEnd | exportReaderTransferEnd => exact nomatch h
  | stationPacketInvalid | stationPacketTimeout | stationLineBreak => exact s.discardPacket_goes _ _
  | alive n model => exact s.onPacket_goes n fun u => u.modStation n fun st => { st with model := some model }
  | keyUnknown n => exact s.onPacket_goes n id
  | doneKey n press => exact s.onKey_goes n press fun u => u.doneKey n
  | returnKey n press => exact s.onKey_goes n press fun u => u.returnKey n
  | readyKey n press => exact s.onKey_goes n press fun u => u.readyKey n
  | noteKey n press => exact s.onKey_goes n press fun u => u.noteKey n
  | playPedal | fwdPedal | backPedal => exact s.onPedal_goes _ _ _
  | messageReceived | messageBadLength | requestUnknownKind | frameCompleted | keypadPressAccepted | keypadReleaseAccepted
    | stationFrameTime | keySample => exact .ite .next .next
  | startupComplete => show Goes (execStartupComplete s); unfold execStartupComplete; split <;> exact .next
  | messageTimeout => show Goes (execMessageTimeout s); unfold execMessageTimeout; split <;> exact .next
  | replySent => show Goes (execReplySent s); unfold execReplySent; split <;> exact .next
  | noticeSent => show Goes (execNoticeSent s); unfold execNoticeSent; split <;> exact .next
  | dataSent => show Goes (execDataSent s); unfold execDataSent; split <;> exact .next
  | fetchEndSent => show Goes (execFetchEndSent s); unfold execFetchEndSent; split <;> exact .next
  | inputLossTimerExpiry c =>
    show Goes (execInputLossTimerExpiry c s); unfold execInputLossTimerExpiry; split <;> exact .next
  | lostFrameTick c => show Goes (execLostFrameTick c s); unfold execLostFrameTick; split <;> exact .next
  | inputReturned c x => show Goes (execInputReturned c x s); unfold execInputReturned; split <;> exact .next
  | stationLinkLost n => show Goes (execStationLinkLost n s); unfold execStationLinkLost; split <;> exact .next
  | reclaimTimerExpiry n => show Goes (execReclaimTimerExpiry n s); unfold execReclaimTimerExpiry; split <;> exact .next
  | stateRefreshTimer n => show Goes (execStateRefreshTimer n s); unfold execStateRefreshTimer; split <;> exact .next
  | statePacketSent n => show Goes (execStatePacketSent n s); unfold execStatePacketSent; split <;> exact .next
  | audioPacketSent n => show Goes (execAudioPacketSent n s); unfold execAudioPacketSent; split <;> exact .next
  | startByte => show Goes (execStartByte s); unfold execStartByte; split <;> exact .next
  | invalidByte => show Goes (execInvalidByte s); unfold execInvalidByte; split <;> exact .next
  | refreshBurstEnd =>
    show Goes (execRefreshBurstEnd s)
    unfold execRefreshBurstEnd
    split
    · split <;> exact .next
    · exact .next
  | _ => exact .next

/-- An outcome is a next state, or a fault that satisfies `F`; it is no refusal. -/
def Stops (F : Fault → Prop) (o : Host.Outcome State Fault Refusal) : Prop := (∀ r, o ≠ .refused r) ∧ ∀ f, o = .fault f → F f

theorem Stops.next {F : Fault → Prop} {t : State} : Stops F (.next t) := ⟨fun _ h => (nomatch h), fun _ h => (nomatch h)⟩

theorem Stops.fault {F : Fault → Prop} {f : Fault} (h : F f) : Stops F (.fault f) :=
  ⟨fun _ h => (nomatch h), fun _ hf => by cases hf; exact h⟩

theorem Goes.stops {F : Fault → Prop} {o : Host.Outcome State Fault Refusal} (h : Goes o) : Stops F o := by
  obtain ⟨t, rfl⟩ := h; exact .next

theorem State.endTransfer_stops (s : State) (g : Grant) (deliver : State → List Sample → State) :
    Stops (fun _ => True) (s.endTransfer g deliver) := by
  unfold State.endTransfer
  split
  · split
    · split
      · exact .next
      · exact .fault trivial
    · exact .fault trivial
  · exact .next

theorem execCaptureTransferEnd_stops (s : State) : Stops (· = .outsideStore) (execCaptureTransferEnd s) := by
  unfold execCaptureTransferEnd
  split
  · split
    · split
      · split
        · exact .next
        · exact .fault rfl
      · exact .next
    all_goals exact .next
  · exact .next

theorem exec_reader_stops (s : State) : Stops (fun _ => True) (execStationReaderTransferEnd s)
    ∧ Stops (fun _ => True) (execReadbackReaderTransferEnd s) ∧ Stops (fun _ => True) (execExportReaderTransferEnd s) := by
  refine ⟨?_, ?_, ?_⟩
  · unfold execStationReaderTransferEnd
    split
    · split
      · exact s.endTransfer_stops ..
      all_goals exact .next
    · exact .next
  · unfold execReadbackReaderTransferEnd
    split
    · split
      · exact s.endTransfer_stops ..
      all_goals exact .next
    · exact .next
  · unfold execExportReaderTransferEnd
    split
    · split
      · exact s.endTransfer_stops ..
      all_goals exact .next
    · exact .next

/-- Settles O4: every command but the four ends of transfers brings a next state, and those never refuse. -/
theorem onlyTransferEndsCanStop : Obligations.OnlyTransferEndsCanStop := by
  intro i s
  obtain ⟨hstation, hreadback, hexport⟩ := exec_reader_stops s
  cases hi : Instr.endsTransfer i with
  | false => exact (exec_goes hi s).stops
  | true =>
    unfold Instr.endsTransfer at hi
    split at hi
    · exact ⟨(execCaptureTransferEnd_stops s).1, fun f hf => .inl ⟨rfl, (execCaptureTransferEnd_stops s).2 f hf⟩⟩
    · exact ⟨hstation.1, fun _ _ => .inr (.inl rfl)⟩
    · exact ⟨hreadback.1, fun _ _ => .inr (.inr (.inl rfl))⟩
    · exact ⟨hexport.1, fun _ _ => .inr (.inr (.inr rfl))⟩
    · exact nomatch hi

/-- Settles O3: every move leaves the queue of commands, and both resets keep it. -/
theorem commandsKeepTheQueue : Obligations.CommandsKeepTheQueue := fun _ s _ h =>
  exec_preserves (P := fun u => u.pending = s.pending) h (fun _ _ hu => hu.pending) (fun _ _ _ _ => rfl)
    fun _ hu => hu.pending

theorem State.CountersInv.reach {K : List Kind} {s t : State} (hs : s.CountersInv) (h : Reach K s t) : t.CountersInv :=
  h.preserves (fun _ _ _ _ hm hu => hm.counters hu) hs

/-- The counters after a reset are 0, but for those of refresh. -/
theorem State.resetWith_counters (blocks rate : Nat) (cause : ResetCause) (mem : AudioMemory) :
    (State.resetWith blocks rate cause mem).CountersInv := by
  refine ⟨Nat.zero_le _, Nat.zero_le _, Nat.zero_le _, Nat.zero_le _, fun n => ?_, fun c => ?_⟩
  · fin_cases n <;> exact ⟨Nat.zero_le _, Nat.zero_le _⟩
  · fin_cases c <;> exact ⟨Nat.zero_le _, Nat.succ_pos _⟩

theorem State.fullReset_counters {s : State} (hs : s.CountersInv) : s.fullReset.CountersInv := by
  obtain ⟨he, hd, hb, -, hrest⟩ := State.resetWith_counters s.store.blocks s.link.rate .full s.store.mem
  obtain ⟨-, -, -, hr, -⟩ := hs
  exact ⟨he, hd, hb, hr, hrest⟩

theorem State.tick_counters {s : State} (hs : s.CountersInv) : s.tick.CountersInv := by
  have hports : Reach [.capture, .signal] s (allStations.foldl (fun s n => s.modStation n Station.tick)
      (allChannels.foldl (fun s c => s.modChannel c Channel.tick) s)) :=
    (Reach.foldl (fun u c => .one (.capture c _ (by rfl)) (by decide)) _ _).trans
      (Reach.foldl (fun u n => State.modSignal_reach (by rfl) (by rfl) (by rfl) (by rfl) (by decide)) _ _)
  exact State.modArbiter_counters id (State.modLink_counters id id id (hs.reach hports))

/-- Settles O8: every move keeps each counter within its range, the resets set them, and a millisecond leaves them. -/
theorem countersStayInRange : Obligations.CountersStayInRange := by
  intro s t hs h
  unfold step at h
  split at h
  · next i rest _ =>
    have hs' : State.CountersInv { s with pending := rest } := hs
    refine exec_preserves h (fun K u hu => hs'.reach hu) (fun m1 m0 l1 l0 =>
      State.resetWith_counters (strapBlocks m1 m0) (strapRate l1 l0) .pin s.store.mem) fun u hu => ?_
    exact (State.fullReset_counters (State.CountersInv.reach hs' (State.freeLine_reach (K := [.link]) _ (by decide)))).reach hu
  · cases h
    exact State.tick_counters hs

/-- A configuration that only moves of kind `k` change is left by a command that makes none. -/
theorem exec_keeps {α : Type} (view : State → α) {k : Kind} {i : Instr} {s t : State} (h : exec i s = .next t)
    (hr : ¬ Resets i s) (hview : ∀ k' u v, Move k' u v → k' ≠ k → view v = view u) (hk : k ∉ movesOf i) : view t = view s :=
  (exec_ends i s hr t h).keeps view fun k' hk' _ _ hm => hview k' _ _ hm fun he => hk (he ▸ hk')

/-- Which kinds of configuration moves a command makes. -/
theorem mem_movesOf_config {i : Instr} {k : Kind} (hk : k ∈ [Kind.channelConfig, .stationConfig, .threshold, .lowMark, .mask])
    (h : k ∉ configKinds i) : k ∉ movesOf i := by
  have hnone : ∀ k ∈ [Kind.channelConfig, .stationConfig, .threshold, .lowMark, .mask],
      k ∉ Kind.sessionOpen :: .chainOpen :: commandKinds := by decide
  intro hm
  rcases List.mem_append.mp hm with hm | hm
  · exact h hm
  · exact hnone k hk hm

/-- Settles O10: a configuration changes by its own kind of move alone, and one request makes that move. -/
theorem configurationsChangeByRequestOnly : Obligations.ConfigurationsChangeByRequestOnly := by
  intro i s t h hr
  have hk {k : Kind} (hmem : k ∈ [Kind.channelConfig, .stationConfig, .threshold, .lowMark, .mask])
      (hnot : k ∉ configKinds i) := mem_movesOf_config hmem hnot
  refine ⟨fun hi c => ?_, fun hi n => ?_, fun hi c => ?_, fun hi => ?_, fun hi hi' => ?_, ?_, ?_⟩
  · refine exec_keeps (fun u => (u.channels.get c).config) h hr (fun _ _ _ hm hne => ?_) (hk (k := .channelConfig) (by decide) ?_)
    · exact hm.configs.1 hne c
    · unfold configKinds
      split <;> simp at hi ⊢
  · refine exec_keeps (fun u => (u.stations.get n).config) h hr (fun _ _ _ hm hne => ?_) (hk (k := .stationConfig) (by decide) ?_)
    · obtain ⟨-, hkeep, -⟩ := hm.configs; exact hkeep hne n
    · unfold configKinds
      split <;> simp at hi ⊢
  · refine exec_keeps (fun u => (u.readback.get c).threshold) h hr (fun _ _ _ hm hne => ?_) (hk (k := .threshold) (by decide) ?_)
    · obtain ⟨-, -, hkeep, -⟩ := hm.configs; exact hkeep hne c
    · unfold configKinds
      split <;> simp at hi ⊢
  · refine exec_keeps (fun u => u.store.lowMark) h hr (fun _ _ _ hm hne => ?_) (hk (k := .lowMark) (by decide) ?_)
    · obtain ⟨-, -, -, hkeep, -⟩ := hm.configs; exact hkeep hne
    · unfold configKinds
      split <;> simp at hi ⊢
  · refine exec_keeps (fun u => u.link.mask) h hr (fun _ _ _ hm hne => ?_) (hk (k := .mask) (by decide) ?_)
    · obtain ⟨-, -, -, -, hkeep, -⟩ := hm.configs; exact hkeep hne
    · unfold configKinds
      split <;> simp at hi hi' ⊢
  · refine (exec_ends i s hr t h).keeps (fun u => u.store.blocks) fun _ _ _ _ hm => ?_
    obtain ⟨-, -, -, -, -, hkeep, -⟩ := hm.configs; exact hkeep
  · refine (exec_ends i s hr t h).keeps (fun u => u.link.rate) fun _ _ _ _ hm => ?_
    obtain ⟨-, -, -, -, -, -, hkeep⟩ := hm.configs; exact hkeep

end Sys2Proof.Machine
end

section
/-! SUPPORT. What moves leave of the agreement of the audio store and the session table (R23, R31 to R33). -/

namespace Sys2Proof.Machine

/-! ### Blocks change hands -/

/-- The blocks of a chain, by number. -/
def Chain.numbers (k : Chain) : List Nat := k.blocks.map (·.block)

theorem Store.chained_eq (st : Store) : st.chained = st.chains.flatMap Chain.numbers := rfl

/-- What a trim takes off the front of a chain and what it leaves are the chain. -/
theorem splitTrim_append (point : Nat) (inFlight : Nat → Bool) (l : List ChainBlock) :
    (splitTrim point inFlight l).1 ++ (splitTrim point inFlight l).2 = l := by
  induction l with
  | nil => rfl
  | cons b rest ih =>
    unfold splitTrim
    split
    · simp only [List.cons_append, ih]
    · rfl

/-- Blocks taken from the chains of one owner, and what every chain keeps, are the blocks there were. -/
theorem flatMap_split_owner {n : Nat} {gone : Chain → List Nat} {kept : Chain → List Nat} (l : List Chain)
    (howner : ∀ k, k.owner = n → (gone k ++ kept k).Perm k.numbers) (hother : ∀ k, k.owner ≠ n → kept k = k.numbers) :
    ((l.filter fun k => k.owner = n).flatMap gone ++ l.flatMap kept).Perm (l.flatMap Chain.numbers) := by
  induction l with
  | nil => exact .refl _
  | cons k l ih =>
    have hswap (a b c : List Nat) : (a ++ (b ++ c)).Perm (b ++ (a ++ c)) := by
      rw [← List.append_assoc, ← List.append_assoc]
      exact .append_right _ List.perm_append_comm
    by_cases hk : k.owner = n
    · simp only [List.filter_cons, hk, decide_true, if_true, List.flatMap_cons, List.append_assoc]
      refine (List.Perm.append_left _ (hswap _ (kept k) _)).trans ?_
      rw [← List.append_assoc]
      exact (howner k hk).append ih
    · simp only [List.filter_cons, hk, decide_false, List.flatMap_cons, hother k hk]
      exact (hswap _ k.numbers _).trans (.append_left _ ih)

/-! ### The store's operations keep the partition -/

theorem Store.trim_partitioned {st : Store} (n point : Nat) (inFlight : Nat → Bool) (h : st.partitioned) :
    (st.trim n point inFlight).partitioned := by
  have hsplit := flatMap_split_owner (n := n) (gone := fun k => (splitTrim point inFlight k.blocks).1.map (·.block))
    (kept := fun k => Chain.numbers (if k.owner = n then k.trim point inFlight else k)) st.chains
    (fun k hk => by
      simp only [if_pos hk, Chain.numbers, Chain.trim]
      rw [← List.map_append, splitTrim_append])
    (fun k hk => by simp only [if_neg hk])
  unfold Store.partitioned at h ⊢
  refine List.Perm.trans ?_ h
  simp only [Store.chained_eq, Store.trim, List.flatMap_map, List.append_assoc]
  exact .append_left _ hsplit

theorem Store.freeChain_partitioned {st : Store} (n : Nat) (h : st.partitioned) : (st.freeChain n).partitioned := by
  have hkept (l : List Chain) : (l.filter fun k => k.owner ≠ n).flatMap Chain.numbers
      = l.flatMap fun k => if k.owner = n then [] else k.numbers := by
    induction l with
    | nil => rfl
    | cons k l ih => by_cases hk : k.owner = n <;> simp_all
  have hsplit := flatMap_split_owner (n := n) (gone := Chain.numbers)
    (kept := fun k => if k.owner = n then [] else k.numbers) st.chains
    (fun k hk => by simp only [if_pos hk, List.append_nil]; exact .refl _) (fun k hk => if_neg hk)
  unfold Store.partitioned at h ⊢
  refine List.Perm.trans ?_ h
  simp only [Store.chained_eq, Store.freeChain, hkept, List.append_assoc]
  exact .append_left _ hsplit

theorem growLast_numbers (l : List ChainBlock) : (growLast l).map (·.block) = l.map (·.block) := by
  induction l with
  | nil => rfl
  | cons b rest ih =>
    cases rest with
    | nil => rfl
    | cons c rest => simpa [growLast] using ih

theorem Store.growCurrent_chained (st : Store) (n : Nat) : (st.growCurrent n).chained = st.chained := by
  simp only [Store.chained_eq, Store.growCurrent, List.flatMap_map]
  refine List.flatMap_congr fun k _ => ?_
  by_cases hk : k.owner = n
  · simp [hk, Chain.numbers, growLast_numbers]
  · simp [hk]

/-- A block appended to the one chain of its owner joins the blocks of all chains. -/
theorem Store.appendBlock_chained {st : Store} {n : Nat} (b : ChainBlock) (hn : n ∈ st.chains.map (·.owner))
    (hnodup : (st.chains.map (·.owner)).Nodup) : (st.appendBlock n b).chained.Perm (b.block :: st.chained) := by
  have hadd (l : List Chain) (hn : n ∈ l.map (·.owner)) (hnodup : (l.map (·.owner)).Nodup) :
      (l.flatMap fun k => Chain.numbers (if k.owner = n then { k with blocks := k.blocks ++ [b] } else k)).Perm
        (b.block :: l.flatMap Chain.numbers) := by
    induction l with
    | nil => exact absurd hn (by simp)
    | cons k l ih =>
      simp only [List.map_cons, List.nodup_cons] at hnodup
      obtain ⟨hfresh, hnodup⟩ := hnodup
      by_cases hk : k.owner = n
      · have hrest : ∀ j ∈ l, Chain.numbers (if j.owner = n then { j with blocks := j.blocks ++ [b] } else j) = j.numbers := by
          intro j hj
          rw [if_neg fun he => hfresh (by rw [hk, ← he]; exact List.mem_map_of_mem hj)]
        simp only [List.flatMap_cons, if_pos hk, List.flatMap_congr hrest]
        simp only [Chain.numbers, List.map_append, List.map_cons, List.map_nil, List.append_assoc, List.singleton_append]
        exact List.perm_middle
      · have hin : n ∈ l.map (·.owner) := by
          rcases List.mem_cons.mp hn with he | he
          · exact absurd he.symm hk
          · exact he
        simp only [List.flatMap_cons, if_neg hk]
        exact (List.Perm.append_left _ (ih hin hnodup)).trans List.perm_middle
  simpa only [Store.chained_eq, Store.appendBlock, List.flatMap_map] using hadd st.chains hn hnodup

/-- A place chosen for a frame of a session that has its chain keeps the partition and the owners. -/
theorem Store.place_partitioned {st st' : Store} {n f b slot : Nat} (h : st.place n f = some (st', b, slot))
    (hn : n ∈ st.chains.map (·.owner)) (hnodup : (st.chains.map (·.owner)).Nodup) (hpart : st.partitioned) :
    st'.partitioned ∧ st'.chains.map (·.owner) = st.chains.map (·.owner) := by
  have howners {add : List ChainBlock → List ChainBlock} : (st.chains.map fun k =>
      if k.owner = n then { k with blocks := add k.blocks } else k).map (·.owner) = st.chains.map (·.owner) := by
    rw [List.map_map]
    refine List.map_congr_left fun k _ => ?_
    simp only [Function.comp]
    split <;> rfl
  unfold Store.partitioned at hpart ⊢
  rcases Store.place_cases h with ⟨cur, -, rfl, -⟩ | ⟨rest, hfree, rfl, -⟩
  · exact ⟨by rw [Store.growCurrent_chained]; exact hpart, howners (add := growLast)⟩
  · have happended := Store.appendBlock_chained (st := { st with free := rest }) ⟨b, f, 1⟩ hn hnodup
    rw [hfree] at hpart
    exact ⟨((List.Perm.append_left rest happended).trans List.perm_middle).trans hpart, howners (add := fun l => l ++ [ChainBlock.mk b f 1])⟩

/-! ### The agreement, but for sessions being freed -/

/-- The store and the session table agree, where the sessions for which `p` fails have their chain freed already. -/
def State.Agrees (p : Nat → Bool) (s : State) : Prop :=
  Memory.wf s.store.mem = true ∧ s.store.partitioned
    ∧ s.store.chains.map (·.owner) = (s.sessions.map (·.number)).filter p
    ∧ (s.sessions.map (·.number)).Nodup ∧ s.sessions.length ≤ Config.sessionEntries

theorem State.agrees_iff {s : State} : s.Agrees (fun _ => true) ↔ s.StoreInv := by
  simp [State.Agrees, State.StoreInv]

/-- What the agreement reads of a state. -/
theorem State.Agrees.congr {p : Nat → Bool} {s t : State} (h : s.Agrees p) (hstore : t.store = s.store)
    (hsessions : t.sessions.map (·.number) = s.sessions.map (·.number)) : t.Agrees p := by
  obtain ⟨hwf, hpart, howners, hnodup, hroom⟩ := h
  have hlength : t.sessions.length = s.sessions.length := by simpa using congrArg List.length hsessions
  exact ⟨hstore ▸ hwf, hstore ▸ hpart, by rw [hstore, hsessions, howners], hsessions ▸ hnodup, hlength ▸ hroom⟩

/-- A change of the store that keeps the memory in form, the partition and the owners keeps the agreement. -/
theorem State.Agrees.store {p : Nat → Bool} {s t : State} (h : s.Agrees p) (hwf : Memory.wf t.store.mem = true)
    (hpart : t.store.partitioned) (howners : t.store.chains.map (·.owner) = s.store.chains.map (·.owner))
    (hsessions : t.sessions = s.sessions) : t.Agrees p := by
  obtain ⟨-, -, howned, hnodup, hroom⟩ := h
  exact ⟨hwf, hpart, by rw [howners, hsessions, howned], hsessions ▸ hnodup, hsessions ▸ hroom⟩

theorem Store.trim_owners (st : Store) (n point : Nat) (inFlight : Nat → Bool) :
    (st.trim n point inFlight).chains.map (·.owner) = st.chains.map (·.owner) := by
  simp only [Store.trim, List.map_map]
  refine List.map_congr_left fun k _ => ?_
  simp only [Function.comp]
  split <;> rfl

/-- A move that frees no chain, opens none, chooses no place and changes no session's entry keeps the agreement. -/
theorem Move.agrees {k : Kind} {s t : State} (h : Move k s t)
    (hk : k ∉ [Kind.place, .storeFree, .sessionGone, .sessionOpen, .chainOpen]) {p : Nat → Bool} (hs : s.Agrees p) :
    t.Agrees p := by
  have hnumbers {n : Nat} {f : Session → Session} (hf : ∀ x, (f x).number = x.number) : (s.modSession n f).Agrees p :=
    hs.congr rfl (State.modSession_numbers s n f hf)
  obtain ⟨hwf, hpart, howners, hnodup, hroom⟩ := hs
  have hs : s.Agrees p := ⟨hwf, hpart, howners, hnodup, hroom⟩
  cases h with
  | session n f h => exact hnumbers fun x => (h x).1
  | takeCount n f h => exact hnumbers fun x => (h x).1
  | sessionTrim n f h => exact hnumbers fun x => (congrArg Session.number (h x) :)
  | sessionMarks n f h => exact hnumbers fun x => (congrArg Session.number (h x) :)
  | trim n point inFlight => exact hs.store hwf (Store.trim_partitioned n point inFlight hpart) (Store.trim_owners ..) rfl
  | frame b slot samples => exact hs.store (Store.writeFrame_wf _ _ _ _ hwf) hpart rfl rfl
  | condition | lowMark => exact hs.store hwf hpart rfl rfl
  | place | storeFree | sessionGone | sessionOpen | chainOpen => exact absurd (by decide) hk
  | notice | sending | link | mask | orphan | grant | refresh | port | list | signal | stationConfig | queue | rotation
    | takeDispatch | takeReturn | takeClass | takeBody | takeTable | marks | ranges | toggle | keypad | channelRun | output
    | capture | channelConfig | unit | unitCount | threshold | exporter => exact hs.congr rfl rfl

theorem Reach.agrees {K : List Kind} {s t : State} (h : Reach K s t)
    (hK : ∀ k ∈ K, k ∉ [Kind.place, .storeFree, .sessionGone, .sessionOpen, .chainOpen]) {p : Nat → Bool} (hs : s.Agrees p) :
    t.Agrees p := h.preserves (fun k hk _ _ hm => hm.agrees (hK k hk)) hs

/-- Moves that may choose places keep the agreement. -/
theorem Reach.storeInv {K : List Kind} {s t : State} (h : Reach K s t)
    (hK : ∀ k ∈ K, k ∉ [Kind.storeFree, .sessionGone, .sessionOpen, .chainOpen]) (hs : s.StoreInv) : t.StoreInv := by
  refine h.preserves (fun k hk u v hm hu => ?_) hs
  by_cases hplace : k = .place
  · subst hplace
    cases hm with
    | place n f st b slot hn hplace =>
      obtain ⟨hwf, hpart, howners, hnodup, hroom⟩ := hu
      obtain ⟨hpart', howners'⟩ := Store.place_partitioned hplace (howners ▸ hn) (howners ▸ hnodup) hpart
      obtain ⟨-, -, hmem, -⟩ := Store.place_bounds hplace
      exact ⟨(congrArg (Memory.wf · = true) hmem).mpr hwf, hpart', howners'.trans howners, hnodup, hroom⟩
  · exact State.agrees_iff.mp (hm.agrees (by simpa [hplace] using hK k hk) (State.agrees_iff.mpr hu))

/-! ### The freeing of a session (R29) -/

/-- Everything a session's freeing does between the freeing of its chain and the freeing of its entry. -/
def State.freeing (s : State) (x : Session) (n : Nat) : State :=
  let s := (s.modStore fun st => st.freeChain n).checkCondition
  let s := (s.freeMarks n).freeRanges n
  let plays := s.playsFrom x.channel n
  let s := if plays then s.finishEntry x.channel .endedShort else s
  let s := if s.exporter.phase = .streaming ∧ s.exporter.session = n then s.endExport .short else s
  s.modExporter fun e => { e with resume := e.resume.filter fun r => r.session ≠ n }

/-- The kinds of moves between the freeing of a session's chain and that of its entry. -/
def freeingKinds : List Kind := .exporter :: readbackKinds

theorem State.freeing_reach (s : State) (x : Session) (n : Nat) :
    Reach freeingKinds (s.modStore fun st => st.freeChain n) (s.freeing x n) := by
  have hcheck (u : State) : Reach freeingKinds u u.checkCondition := u.checkCondition_reach.mono (by decide)
  have hfinish (u : State) : Reach freeingKinds u (u.finishEntry x.channel .endedShort) :=
    (u.finishEntry_reach ..).mono (by decide)
  have hexport (u : State) : Reach freeingKinds u (u.endExport .short) := (u.endExport_reach _).mono (by decide)
  unfold State.freeing
  exact .trans (.thenIf (.thenIf (.trans (.trans (hcheck _) (State.freeMarks_reach (hK := by decide) ..))
    (State.freeRanges_reach (hK := by decide) ..)) fun _ => hfinish _) fun _ => hexport _) (.one (.exporter _) (by decide))

/-- The freeing of a session: what stands before its entry leaves the table, then what may start after it. -/
theorem State.freeSession_reach_freeing {s : State} {n : Nat} {x : Session} (hx : s.session? n = some x) :
    Reach readbackKinds ((s.freeing x n).setSessions ((s.freeing x n).sessions.filter fun y => y.number ≠ n))
      (s.freeSession n) := by
  simp only [State.freeSession, hx]
  exact .trans (.onlyIf fun _ => State.startAfter_reach ..) (State.raise_reach (hK := by decide) ..)

theorem State.freeSession_storeInv (s : State) (n : Nat) (h : s.StoreInv) : (s.freeSession n).StoreInv := by
  cases hx : s.session? n with
  | none => simpa only [State.freeSession, hx] using h
  | some x =>
    refine (State.freeSession_reach_freeing hx).storeInv (by decide) ?_
    obtain ⟨hwf, hpart, howners, hnodup, hroom⟩ := h
    have hfreed : (s.modStore fun st => st.freeChain n).Agrees (fun m => m ≠ n) := by
      refine ⟨hwf, Store.freeChain_partitioned n hpart, ?_, hnodup, hroom⟩
      simp only [State.modStore_store, State.modStore_sessions, Store.freeChain, ← howners, List.filter_map]
      rfl
    obtain ⟨hwf, hpart, howners, hnodup, hroom⟩ := (s.freeing_reach x n).agrees (by decide) hfreed
    have hnumbers : ((s.freeing x n).sessions.filter fun y => y.number ≠ n).map (·.number)
        = ((s.freeing x n).sessions.map (·.number)).filter fun m => m ≠ n := by
      rw [List.filter_map]; rfl
    exact ⟨hwf, hpart, howners.trans hnumbers.symm, hnumbers ▸ hnodup.filter _, (List.length_filter_le ..).trans hroom⟩

end Sys2Proof.Machine
end

section
/-! SUPPORT. The dispatch board: how every take stands, the queue and the station lists, and what keeps them in agreement
(R104, R105, R115). -/

namespace Sys2Proof.Machine

/-- How a take stands in dispatch: its state, the station that holds it, and its class. -/
structure TakeStanding where
  dispatch : DispatchState
  station : Option StationId
  level : Nat

/-- A station holds the take. -/
def TakeStanding.inList (k : TakeStanding) : Prop := k.dispatch = .assigned ∨ k.dispatch = .inWork

/-- The take is in no queue and no list, and names no station. -/
def TakeStanding.idle (k : TakeStanding) : Prop := k.dispatch ≠ .queued ∧ ¬ k.inList ∧ k.station = none

/-- How the takes stand, the queue, and the lists of the stations. -/
structure Board where
  look : TakeRef → Option TakeStanding
  queue : List TakeRef
  lists : StationId → List TakeRef

/-- The class level of a take on the board. -/
def Board.level (b : Board) (r : TakeRef) : Nat :=
  match b.look r with
  | some k => k.level
  | none => TakeClass.regular.code

def Board.queued (b : Board) (r : TakeRef) : Prop := ∃ k, b.look r = some k ∧ k.dispatch = .queued

def Board.listed (b : Board) (n : StationId) (r : TakeRef) : Prop := ∃ k, b.look r = some k ∧ k.inList ∧ k.station = some n

/-- Queue and lists agree with how the takes stand, but for the takes of `X`, which are QUEUED and not yet in the queue. -/
def Board.SoundBut (b : Board) (X : List TakeRef) : Prop :=
  b.queue.Nodup ∧ (∀ r, r ∈ b.queue ↔ b.queued r ∧ r ∉ X) ∧ (b.queue.Pairwise fun p q => b.level p ≤ b.level q)
    ∧ (∀ n, (b.lists n).Nodup ∧ ∀ r, r ∈ b.lists n ↔ b.listed n r)
    ∧ ∀ r k, b.look r = some k → (k.inList ↔ k.station ≠ none)

/-- Queue and lists agree with how the takes stand. -/
def Board.Sound (b : Board) : Prop := b.SoundBut []

/-- The board with another standing of one take. -/
def Board.stand (b : Board) (r : TakeRef) (k : Option TakeStanding) : Board := { b with look := Function.update b.look r k }

theorem Board.stand_look_self (b : Board) (r : TakeRef) (k : Option TakeStanding) : (b.stand r k).look r = k :=
  Function.update_self ..

theorem Board.stand_look_ne (b : Board) {r q : TakeRef} (k : Option TakeStanding) (h : q ≠ r) :
    (b.stand r k).look q = b.look q := Function.update_of_ne h ..

theorem Board.stand_level_ne (b : Board) {r q : TakeRef} (k : Option TakeStanding) (h : q ≠ r) :
    (b.stand r k).level q = b.level q := by
  unfold Board.level
  rw [b.stand_look_ne k h]

theorem Board.stand_queued_ne (b : Board) {r q : TakeRef} (k : Option TakeStanding) (h : q ≠ r) :
    (b.stand r k).queued q ↔ b.queued q := by
  unfold Board.queued
  rw [b.stand_look_ne k h]

theorem Board.stand_listed_ne (b : Board) {r q : TakeRef} (k : Option TakeStanding) (n : StationId) (h : q ≠ r) :
    (b.stand r k).listed n q ↔ b.listed n q := by
  unfold Board.listed
  rw [b.stand_look_ne k h]

/-- A board on which another take's standing alone has changed is sound, when the change of that take is matched in the queue and
in the lists. -/
theorem Board.SoundBut.stand {b : Board} {X Y : List TakeRef} (h : b.SoundBut X) {r : TakeRef} {k : Option TakeStanding}
    {queue : List TakeRef} {lists : StationId → List TakeRef} (hnodup : queue.Nodup)
    (hqueue : ∀ q, q ≠ r → (q ∈ queue ↔ q ∈ b.queue)) (hXY : ∀ q, q ≠ r → (q ∈ Y ↔ q ∈ X))
    (hself : r ∈ queue ↔ (b.stand r k).queued r ∧ r ∉ Y)
    (hsorted : queue.Pairwise fun p q => (b.stand r k).level p ≤ (b.stand r k).level q)
    (hlists : ∀ n, (lists n).Nodup ∧ (∀ q, q ≠ r → (q ∈ lists n ↔ q ∈ b.lists n)) ∧ (r ∈ lists n ↔ (b.stand r k).listed n r))
    (hstation : ∀ j, k = some j → (j.inList ↔ j.station ≠ none)) :
    ({ b.stand r k with queue := queue, lists := lists } : Board).SoundBut Y := by
  obtain ⟨-, hmem, -, hlisted, hstations⟩ := h
  refine ⟨hnodup, fun q => ?_, hsorted, fun n => ⟨(hlists n).1, fun q => ?_⟩, fun q j hj => ?_⟩
  · by_cases hq : q = r
    · subst hq; exact hself
    · rw [show q ∈ queue ↔ _ from hqueue q hq, hmem q, hXY q hq]
      exact and_congr_left' (b.stand_queued_ne k hq).symm
  · by_cases hq : q = r
    · subst hq; exact (hlists n).2.2
    · rw [show q ∈ lists n ↔ _ from (hlists n).2.1 q hq, (hlisted n).2 q]
      exact (b.stand_listed_ne k n hq).symm
  · by_cases hq : q = r
    · subst hq
      exact hstation j ((b.stand_look_self q k).symm.trans hj)
    · exact hstations q j ((b.stand_look_ne k hq).symm.trans hj)

/-- In a list without `r` the classes stand as before. -/
theorem Board.pairwise_stand {b : Board} {r : TakeRef} {k : Option TakeStanding} {l : List TakeRef} (hr : r ∉ l)
    (h : l.Pairwise fun p q => b.level p ≤ b.level q) :
    l.Pairwise fun p q => (b.stand r k).level p ≤ (b.stand r k).level q := by
  refine h.imp_of_mem fun {p q} hp hq hpq => ?_
  rwa [b.stand_level_ne k (ne_of_mem_of_not_mem hp hr), b.stand_level_ne k (ne_of_mem_of_not_mem hq hr)]

/-- A take that a board lists nowhere. -/
theorem Board.SoundBut.not_listed {b : Board} {X : List TakeRef} (h : b.SoundBut X) {r : TakeRef} {k : TakeStanding}
    (hk : b.look r = some k) (hlist : ¬ k.inList) (n : StationId) : r ∉ b.lists n := by
  obtain ⟨-, -, -, hlisted, -⟩ := h
  rintro hr
  obtain ⟨j, hj, hin, -⟩ := ((hlisted n).2 r).mp hr
  rw [hk] at hj
  exact hlist (Option.some.inj hj ▸ hin)

theorem Board.SoundBut.not_queued {b : Board} {X : List TakeRef} (h : b.SoundBut X) {r : TakeRef} {k : TakeStanding}
    (hk : b.look r = some k) (hqueue : k.dispatch ≠ .queued) : r ∉ b.queue := by
  obtain ⟨-, hmem, -⟩ := h
  intro hr
  obtain ⟨⟨j, hj, hq⟩, -⟩ := (hmem r).mp hr
  rw [hk] at hj
  exact hqueue (Option.some.inj hj ▸ hq)

/-- A take unknown to the board is in no queue and no list. -/
theorem Board.SoundBut.not_mem_of_none {b : Board} {X : List TakeRef} (h : b.SoundBut X) {r : TakeRef} (hr : b.look r = none) :
    r ∉ b.queue ∧ ∀ n, r ∉ b.lists n := by
  obtain ⟨-, hmem, -, hlisted, -⟩ := h
  constructor
  · intro hq
    obtain ⟨⟨j, hj, -⟩, -⟩ := (hmem r).mp hq
    rw [hr] at hj; exact nomatch hj
  · intro n hq
    obtain ⟨j, hj, -⟩ := ((hlisted n).2 r).mp hq
    rw [hr] at hj; exact nomatch hj

/-- A take in a list is in the list of the station it names, and in no other. -/
theorem Board.SoundBut.not_listed_ne {b : Board} {X : List TakeRef} (h : b.SoundBut X) {r : TakeRef} {k : TakeStanding}
    (hk : b.look r = some k) {n m : StationId} (hn : k.station = some n) (hm : m ≠ n) : r ∉ b.lists m := by
  obtain ⟨-, -, -, hlisted, -⟩ := h
  rintro hr
  obtain ⟨j, hj, -, hstation⟩ := ((hlisted m).2 r).mp hr
  rw [hk] at hj
  rw [← Option.some.inj hj, hn] at hstation
  exact hm (Option.some.inj hstation).symm

/-! ### The changes dispatch makes -/

/-- A take leaves the queue and every list, and stands idle or is gone. -/
theorem Board.SoundBut.lift {b : Board} {X : List TakeRef} (h : b.SoundBut X) (r : TakeRef) {k : Option TakeStanding}
    (hidle : ∀ j, k = some j → j.idle) :
    ({ b.stand r k with queue := b.queue.filter fun q => q ≠ r, lists := fun n => (b.lists n).erase r } : Board).SoundBut X := by
  obtain ⟨hnodup, -, hsorted, hlisted, -⟩ := id h
  have hnone (n : StationId) : ¬ (b.stand r k).listed n r := by
    rintro ⟨j, hj, hin, -⟩
    rw [b.stand_look_self] at hj
    exact (hidle j hj).2.1 hin
  refine h.stand (hnodup.filter _) (fun q hq => by simp [hq]) (fun _ _ => .rfl) ?_ ?_ (fun n => ⟨(hlisted n).1.erase r, ?_, ?_⟩) ?_
  · refine iff_of_false (by simp) ?_
    rintro ⟨⟨j, hj, hq⟩, -⟩
    rw [b.stand_look_self] at hj
    exact (hidle j hj).1 hq
  · exact b.pairwise_stand (by simp) (hsorted.filter _)
  · exact fun q hq => List.mem_erase_of_ne hq
  · exact iff_of_false (fun hr => ((hlisted n).1.mem_erase_iff.mp hr).1 rfl) (hnone n)
  · rintro j hj
    obtain ⟨-, hin, hst⟩ := hidle j hj
    exact iff_of_false hin fun hne => hne hst

/-- An idle take becomes QUEUED, and has yet to be placed in the queue. -/
theorem Board.SoundBut.enqueue {b : Board} {X : List TakeRef} (h : b.SoundBut X) {r : TakeRef} {k : TakeStanding}
    (hk : b.look r = some k) (hidle : k.idle) : (b.stand r (some ⟨.queued, none, k.level⟩)).SoundBut (r :: X) := by
  obtain ⟨hnodup, -, hsorted, hlisted, -⟩ := id h
  have hr : r ∉ b.queue := h.not_queued hk hidle.1
  refine h.stand (k := some ⟨.queued, none, k.level⟩) (queue := b.queue) (lists := b.lists) hnodup (fun _ _ => .rfl)
    (fun q hq => by simp [hq]) ?_ (b.pairwise_stand hr hsorted) (fun n => ⟨(hlisted n).1, fun _ _ => .rfl, ?_⟩) ?_
  · exact iff_of_false hr (by simp)
  · refine iff_of_false (h.not_listed hk hidle.2.1 n) ?_
    rintro ⟨j, hj, hin, -⟩
    rw [b.stand_look_self] at hj
    obtain rfl := Option.some.inj hj
    exact nomatch hin
  · rintro j hj
    obtain rfl := Option.some.inj hj
    exact iff_of_false (fun hin => nomatch hin) fun hne => hne rfl

/-- A QUEUED take is placed in the queue: behind no take of a less urgent class and ahead of none of a more urgent one. -/
theorem Board.SoundBut.place {b : Board} {X : List TakeRef} {r : TakeRef} (h : b.SoundBut (r :: X)) (hr : b.queued r)
    (hX : r ∉ X) {u v : List TakeRef} (hsplit : b.queue = u ++ v) (hu : ∀ q ∈ u, b.level q ≤ b.level r)
    (hv : ∀ q ∈ v, b.level r ≤ b.level q) : ({ b with queue := u ++ r :: v } : Board).SoundBut X := by
  obtain ⟨hnodup, hmem, hsorted, hlisted, hstation⟩ := h
  have hfresh : r ∉ b.queue := fun hq => ((hmem r).mp hq).2 (List.mem_cons_self ..)
  refine ⟨?_, fun q => ?_, ?_, hlisted, hstation⟩
  · exact (List.perm_middle.nodup_iff).mpr (List.nodup_cons.mpr ⟨hsplit ▸ hfresh, hsplit ▸ hnodup⟩)
  · have hq : q ∈ u ++ r :: v ↔ q = r ∨ q ∈ b.queue := by rw [List.perm_middle.mem_iff, List.mem_cons, hsplit]
    rw [hq, hmem q]
    constructor
    · rintro (rfl | ⟨hq, hnot⟩)
      · exact ⟨hr, hX⟩
      · exact ⟨hq, fun hx => hnot (List.mem_cons_of_mem _ hx)⟩
    · rintro ⟨hq, hnot⟩
      by_cases he : q = r
      · exact .inl he
      · exact .inr ⟨hq, by simp [he, hnot]⟩
  · rw [hsplit] at hsorted
    obtain ⟨hus, hvs, huv⟩ := List.pairwise_append.mp hsorted
    refine List.pairwise_append.mpr ⟨hus, List.pairwise_cons.mpr ⟨hv, hvs⟩, fun p hp q hq => ?_⟩
    rcases List.mem_cons.mp hq with rfl | hq
    · exact hu p hp
    · exact huv p hp q hq

/-- A take in no list is assigned: it leaves the queue and joins the list of the station. -/
theorem Board.SoundBut.assign {b : Board} (h : b.Sound) {r : TakeRef} {k : TakeStanding} (hk : b.look r = some k)
    (hlist : ¬ k.inList) (n : StationId) :
    ({ b.stand r (some ⟨.assigned, some n, k.level⟩) with
        queue := b.queue.filter fun q => q ≠ r, lists := Function.update b.lists n (b.lists n ++ [r]) } : Board).Sound := by
  obtain ⟨hnodup, -, hsorted, hlisted, -⟩ := id h
  have hr := h.not_listed hk hlist
  refine h.stand (hnodup.filter _) (fun q hq => by simp [hq]) (fun _ _ => .rfl) ?_ ?_ (fun m => ?_) ?_
  · refine iff_of_false (by simp) ?_
    rintro ⟨⟨j, hj, hq⟩, -⟩
    rw [b.stand_look_self] at hj
    obtain rfl := Option.some.inj hj
    exact nomatch hq
  · exact b.pairwise_stand (by simp) (hsorted.filter _)
  · by_cases hm : m = n
    · subst hm
      rw [Function.update_self]
      refine ⟨?_, fun q hq => by simp [hq], iff_of_true (by simp) ⟨_, b.stand_look_self .., .inl rfl, rfl⟩⟩
      exact (hlisted m).1.append (List.nodup_singleton r) (by simpa using hr m)
    · rw [Function.update_of_ne hm]
      refine ⟨(hlisted m).1, fun _ _ => .rfl, iff_of_false (hr m) ?_⟩
      rintro ⟨j, hj, -, hst⟩
      rw [b.stand_look_self] at hj
      obtain rfl := Option.some.inj hj
      exact hm (Option.some.inj hst).symm
  · rintro j hj
    obtain rfl := Option.some.inj hj
    exact iff_of_true (.inl rfl) (by simp)

/-- A take's standing changes in ways that neither queue nor lists show. -/
theorem Board.SoundBut.restand {b : Board} (h : b.Sound) {r : TakeRef} {k j : TakeStanding} (hk : b.look r = some k)
    (hqueue : k.dispatch ≠ .queued) (hqueue' : j.dispatch ≠ .queued) (hlist : j.inList ↔ k.inList)
    (hstation : j.station = k.station) : (b.stand r (some j)).Sound := by
  obtain ⟨hnodup, -, hsorted, hlisted, hstations⟩ := id h
  have hr := h.not_queued hk hqueue
  refine h.stand (k := some j) (queue := b.queue) (lists := b.lists) hnodup (fun _ _ => .rfl) (fun _ _ => .rfl) ?_
    (b.pairwise_stand hr hsorted) (fun n => ⟨(hlisted n).1, fun _ _ => .rfl, ?_⟩) ?_
  · refine iff_of_false hr ?_
    rintro ⟨⟨i, hi, hq⟩, -⟩
    rw [b.stand_look_self] at hi
    exact hqueue' (Option.some.inj hi ▸ hq)
  · rw [(hlisted n).2 r]
    constructor
    · rintro ⟨i, hi, hin, hst⟩
      rw [hk] at hi
      obtain rfl := Option.some.inj hi
      exact ⟨j, b.stand_look_self .., hlist.mpr hin, hstation.trans hst⟩
    · rintro ⟨i, hi, hin, hst⟩
      rw [b.stand_look_self] at hi
      obtain rfl := Option.some.inj hi
      exact ⟨k, hk, hlist.mp hin, hstation ▸ hst⟩
  · rintro i hi
    obtain rfl := Option.some.inj hi
    rw [hlist, hstation]
    exact hstations r k hk

/-- How a take of a list that is given up stands: QUEUED. -/
def TakeStanding.requeue (k : TakeStanding) : TakeStanding := ⟨.queued, none, k.level⟩

/-- The list of a station is given up: its takes become QUEUED, and have yet to be placed in the queue (R118). -/
theorem Board.SoundBut.giveUp {b : Board} (h : b.Sound) (n : StationId) :
    ({ look := fun q => if q ∈ b.lists n then (b.look q).map TakeStanding.requeue else b.look q
       queue := b.queue, lists := Function.update b.lists n [] } : Board).SoundBut (b.lists n) := by
  obtain ⟨hnodup, hmem, hsorted, hlisted, hstations⟩ := id h
  have hout : ∀ q ∈ b.queue, q ∉ b.lists n := by
    intro q hq hl
    obtain ⟨⟨k, hk, hqueued⟩, -⟩ := (hmem q).mp hq
    refine h.not_listed hk (fun hin => ?_) n hl
    unfold TakeStanding.inList at hin
    rw [hqueued] at hin
    exact hin.elim nofun nofun
  refine ⟨hnodup, fun q => ?_, ?_, fun m => ?_, fun q k hk => ?_⟩
  · by_cases hq : q ∈ b.lists n
    · exact iff_of_false (fun hin => hout q hin hq) fun hin => hin.2 hq
    · refine (hmem q).trans ?_
      simp [Board.queued, hq]
  · refine hsorted.imp_of_mem fun {p q} hp hq hpq => ?_
    simpa only [Board.level, if_neg (hout p hp), if_neg (hout q hq)] using hpq
  · by_cases hm : m = n
    · subst hm
      simp only [Function.update_self]
      refine ⟨List.nodup_nil, fun q => iff_of_false (List.not_mem_nil) ?_⟩
      rintro ⟨k, hk, hin, hst⟩
      dsimp only at hk
      split at hk
      · obtain ⟨j, -, rfl⟩ := Option.map_eq_some_iff.mp hk
        exact nomatch hst
      · next hq => exact hq (((hlisted m).2 q).mpr ⟨k, hk, hin, hst⟩)
    · simp only [Function.update_of_ne hm]
      refine ⟨(hlisted m).1, fun q => ((hlisted m).2 q).trans ?_⟩
      unfold Board.listed
      by_cases hq : q ∈ b.lists n
      · obtain ⟨j, hj, hin, hst⟩ := ((hlisted n).2 q).mp hq
        simp only [if_pos hq, hj, Option.map_some, Option.some.injEq, exists_eq_left']
        refine iff_of_false (fun hin => hm ?_) fun hin => ?_
        · rw [hst] at hin; exact (Option.some.inj hin.2).symm
        · exact nomatch hin.2
      · simp only [if_neg hq]
  · dsimp only at hk
    split at hk
    · obtain ⟨j, -, rfl⟩ := Option.map_eq_some_iff.mp hk
      exact iff_of_false (fun hin => hin.elim nofun nofun) fun hne => hne rfl
    · exact hstations q k hk

end Sys2Proof.Machine
end

section
/-! SUPPORT. The dispatch board of a state: what each operation of dispatch makes of it. -/

namespace Sys2Proof.Machine

/-- How a take's record says it stands. -/
def Take.standing (t : Take) : TakeStanding := ⟨t.dispatch, t.station, t.takeClass.code⟩

/-- The dispatch board of a state. -/
def State.board (s : State) : Board :=
  ⟨fun r => (s.take? r).map Take.standing, s.queue, fun n => (s.stations.get n).takes⟩

theorem State.board_look {s : State} {r : TakeRef} {t : Take} (h : s.take? r = some t) :
    s.board.look r = some t.standing := congrArg (Option.map Take.standing) h

theorem State.board_level (s : State) (r : TakeRef) : s.board.level r = s.classOf r := by
  show (match (s.take? r).map Take.standing with
    | some k => k.level
    | none => TakeClass.regular.code) = _
  unfold State.classOf
  cases s.take? r <;> rfl

theorem Take.standing_inList (t : Take) : t.standing.inList ↔ t.inList := .rfl

/-! ### Looking takes up -/

theorem State.take?_eq_none {s : State} {r : TakeRef} (h : ∀ t ∈ s.takes, t.ref ≠ r) : s.take? r = none :=
  List.find?_eq_none.mpr fun t ht hp => h t ht (by
    have hname : t.session = r.session ∧ t.number = r.number := by simpa using hp
    simp [Take.ref, hname])

theorem State.mem_of_take? {s : State} {r : TakeRef} {t : Take} (h : s.take? r = some t) : t ∈ s.takes :=
  List.mem_of_find?_eq_some h

/-- Where takes carry distinct names, the one of a name is found. -/
theorem State.take?_of_mem {s : State} (hnodup : (s.takes.map Take.ref).Nodup) {t : Take} (h : t ∈ s.takes) :
    s.take? t.ref = some t := by
  have hp : ∀ u : Take, decide (u.session = t.ref.session ∧ u.number = t.ref.number) = decide (u.ref = t.ref) := by
    exact fun u => decide_eq_decide.mpr (by simp only [Take.ref, TakeRef.mk.injEq])
  unfold State.take?
  simp only [hp]
  generalize s.takes = l at hnodup h
  induction l with
  | nil => exact nomatch h
  | cons u l ih =>
    simp only [List.map_cons, List.nodup_cons] at hnodup
    by_cases hu : u.ref = t.ref
    · rcases List.mem_cons.mp h with rfl | hmem
      · exact List.find?_cons_of_pos (by simp)
      · exact absurd (hu ▸ List.mem_map_of_mem hmem) hnodup.1
    · rw [List.find?_cons_of_neg (by simpa using hu)]
      refine ih hnodup.2 ?_
      rcases List.mem_cons.mp h with rfl | hmem
      · exact absurd rfl hu
      · exact hmem

/-- The dispatch invariant, said of the board. -/
theorem State.dispatchInv_iff {s : State} : s.DispatchInv ↔ s.takesNamed ∧ s.board.Sound := by
  refine and_congr_right fun hnamed => ?_
  obtain ⟨-, -, hnodup, -⟩ := hnamed
  have hex (r : TakeRef) (P : Take → Prop) : (∃ t ∈ s.takes, t.ref = r ∧ P t) ↔ ∃ t, s.take? r = some t ∧ P t := by
    constructor
    · rintro ⟨t, ht, rfl, hP⟩
      exact ⟨t, State.take?_of_mem hnodup ht, hP⟩
    · rintro ⟨t, ht, hP⟩
      exact ⟨t, State.mem_of_take? ht, State.ref_of_take? ht, hP⟩
  have hall (P : Take → Prop) : (∀ t ∈ s.takes, P t) ↔ ∀ r t, s.take? r = some t → P t :=
    ⟨fun h r t ht => h t (State.mem_of_take? ht), fun h t ht => h t.ref t (State.take?_of_mem hnodup ht)⟩
  have hqueued (r : TakeRef) : s.board.queued r ↔ ∃ t ∈ s.takes, t.ref = r ∧ t.dispatch = .queued := by
    rw [hex]
    simp [Board.queued, State.board, Take.standing]
  have hlisted (n : StationId) (r : TakeRef) :
      s.board.listed n r ↔ ∃ t ∈ s.takes, t.ref = r ∧ t.inList ∧ t.station = some n := by
    rw [hex]
    simp [Board.listed, State.board, Take.standing, TakeStanding.inList, Take.inList]
  constructor
  · rintro ⟨⟨hqnodup, hq, hq', hsorted⟩, hl, hst⟩
    refine ⟨hqnodup, fun r => ?_, ?_, fun n => ⟨(hl n).1, fun r => ?_⟩, fun r k hk => ?_⟩
    · simp only [List.not_mem_nil, not_false_iff, and_true, hqueued]
      exact ⟨hq r, fun ⟨t, ht, hr, hd⟩ => hr ▸ hq' t ht hd⟩
    · simp only [State.board_level]; exact hsorted
    · rw [hlisted]
      exact ⟨(hl n).2.1 r, fun ⟨t, ht, hr, hin, hn⟩ => hr ▸ (hl n).2.2 t ht hin hn⟩
    · obtain ⟨t, ht, rfl⟩ := Option.map_eq_some_iff.mp hk
      exact hst t (State.mem_of_take? ht)
  · rintro ⟨hqnodup, hq, hsorted, hl, hst⟩
    simp only [List.not_mem_nil, not_false_iff, and_true, hqueued] at hq
    simp only [hlisted] at hl
    refine ⟨⟨hqnodup, fun r hr => (hq r).mp hr, fun t ht hd => (hq t.ref).mpr ⟨t, ht, rfl, hd⟩, ?_⟩, fun n => ⟨(hl n).1,
      fun r hr => ((hl n).2 r).mp hr, fun t ht hin hn => ((hl n).2 t.ref).mpr ⟨t, ht, rfl, hin, hn⟩⟩, fun t ht => ?_⟩
    · simp only [State.board_level] at hsorted; exact hsorted
    · exact hst t.ref t.standing (State.board_look (State.take?_of_mem hnodup ht))

/-! ### What moves leave of the board and of the names -/

/-- Every move but those of queue, lists and takes' dispatch leaves the board. -/
theorem Move.board {k : Kind} {s t : State} (h : Move k s t)
    (hk : k ∉ [Kind.list, .queue, .takeDispatch, .takeReturn, .takeClass, .takeTable]) : t.board = s.board := by
  have hlists {u : State} (htakes : u.takes = s.takes) (hqueue : u.queue = s.queue)
      (hl : ∀ n, (u.stations.get n).takes = (s.stations.get n).takes) : u.board = s.board := by
    simp only [State.board, hqueue, funext hl, funext (State.take?_congr htakes)]
  cases h with
  | list | queue | rotation | takeDispatch | takeReturn | takeClass | takeTable => exact absurd (by decide) hk
  | port n f h => exact hlists rfl rfl (State.modStation_view Station.takes (congrArg Station.takes h :))
  | signal n f _ htakes => exact hlists rfl rfl (State.modStation_view Station.takes htakes)
  | stationConfig n cfg => exact hlists rfl rfl (State.modStation_view Station.takes rfl)
  | takeBody f hf =>
    have hlook (r : TakeRef) : ((s.setTakes (s.takes.map f)).take? r).map Take.standing = (s.take? r).map Take.standing := by
      have hname (t : Take) : (f t).session = t.session ∧ (f t).number = t.number :=
        ⟨(congrArg Take.session (hf t) :), (congrArg Take.number (hf t) :)⟩
      have hstanding : Take.standing ∘ f = Take.standing := funext fun t => (congrArg Take.standing (hf t) :)
      rw [State.take?, State.setTakes_takes, List.find?_map, Option.map_map, hstanding]
      simp only [Function.comp_def, hname]
      rfl
    simp only [State.board, funext hlook]
    rfl
  | notice | sending | link | mask | orphan | grant | refresh | session | sessionTrim | sessionMarks | takeCount | sessionGone
    | sessionOpen | marks | ranges | toggle | keypad | channelRun | output | capture | channelConfig | unit | unitCount
    | threshold | exporter | trim | condition | storeFree | place | frame | chainOpen | lowMark => rfl

/-- A change of takes that keeps their names keeps all names. -/
theorem State.takesNamed.setTakes {s : State} (h : s.takesNamed) {f : Take → Take} (hf : ∀ t, (f t).ref = t.ref) :
    (s.setTakes (s.takes.map f)).takesNamed := by
  obtain ⟨hnodup, hroom, hrefs, hsessions⟩ := h
  refine ⟨hnodup, hroom, ?_, ?_⟩
  · simpa [List.map_map, Function.comp_def, hf] using hrefs
  · intro t ht
    obtain ⟨u, hu, rfl⟩ := List.mem_map.mp ht
    obtain ⟨x, hx, hname, hcount⟩ := hsessions u hu
    exact ⟨x, hx, hname.trans (congrArg TakeRef.session (hf u) :).symm,
      (le_of_eq (congrArg TakeRef.number (hf u) :)).trans hcount⟩

/-- A change of a session that keeps its number and lowers no take count keeps all names. -/
theorem State.takesNamed.modSession {s : State} (h : s.takesNamed) (n : Nat) {f : Session → Session}
    (hf : ∀ x, (f x).number = x.number ∧ x.takeCount ≤ (f x).takeCount) : (s.modSession n f).takesNamed := by
  obtain ⟨hnodup, hroom, hrefs, hsessions⟩ := h
  refine ⟨by rw [State.modSession_numbers s n f fun x => (hf x).1]; exact hnodup, by simpa using hroom, hrefs, ?_⟩
  intro t ht
  obtain ⟨x, hx, hname, hcount⟩ := hsessions t ht
  refine ⟨if x.number = n then f x else x, List.mem_map_of_mem hx, ?_, ?_⟩
  · split
    · exact (hf x).1.trans hname
    · exact hname
  · split
    · exact hcount.trans (hf x).2
    · exact hcount

/-- Every move but those of the tables of takes and sessions leaves every take named within its session. -/
theorem Move.takesNamed {k : Kind} {s t : State} (h : Move k s t)
    (hk : k ∉ [Kind.takeTable, .sessionGone, .sessionOpen]) (hs : s.takesNamed) : t.takesNamed := by
  have hmap {r : TakeRef} {f : Take → Take} (hf : ∀ t, (f t).ref = t.ref) : (s.modTake r f).takesNamed :=
    hs.setTakes fun t => by split; exacts [hf t, rfl]
  cases h with
  | takeTable | sessionGone | sessionOpen => exact absurd (by decide) hk
  | takeDispatch r f hf => exact hmap fun t => (congrArg Take.ref (hf t) :)
  | takeReturn r f hf => exact hmap fun t => (congrArg Take.ref (hf t) :)
  | takeClass r k => exact hmap fun _ => rfl
  | takeBody f hf => exact hs.setTakes fun t => (congrArg Take.ref (hf t) :)
  | session n f hf =>
    exact hs.modSession n fun x => by
      obtain ⟨hnumber, -, hcount⟩ := hf x
      exact ⟨hnumber, hcount.ge⟩
  | takeCount n f hf =>
    exact hs.modSession n fun x => by
      obtain ⟨hnumber, -, hcount⟩ := hf x
      exact ⟨hnumber, hcount⟩
  | sessionTrim n f hf =>
    exact hs.modSession n fun x => ⟨(congrArg Session.number (hf x) :), (congrArg Session.takeCount (hf x) :).ge⟩
  | sessionMarks n f hf =>
    exact hs.modSession n fun x => ⟨(congrArg Session.number (hf x) :), (congrArg Session.takeCount (hf x) :).ge⟩
  | notice | sending | link | mask | orphan | grant | refresh | port | list | signal | stationConfig | queue | rotation | marks
    | ranges | toggle | keypad | channelRun | output | capture | channelConfig | unit | unitCount | threshold | exporter
    | trim | condition | storeFree | place | frame | chainOpen | lowMark => exact hs

theorem Reach.board {K : List Kind} {s t : State} (h : Reach K s t)
    (hK : ∀ k ∈ K, k ∉ [Kind.list, .queue, .takeDispatch, .takeReturn, .takeClass, .takeTable]) : t.board = s.board :=
  h.keeps State.board fun k hk _ _ hm => hm.board (hK k hk)

theorem Reach.takesNamed {K : List Kind} {s t : State} (h : Reach K s t)
    (hK : ∀ k ∈ K, k ∉ [Kind.takeTable, .sessionGone, .sessionOpen]) (hs : s.takesNamed) : t.takesNamed :=
  h.preserves (fun k hk _ _ hm => hm.takesNamed (hK k hk)) hs

/-- Moves that leave the board and the names keep the dispatch invariant. -/
theorem Reach.dispatchInv {K : List Kind} {s t : State} (h : Reach K s t)
    (hK : ∀ k ∈ K, k ∉ [Kind.list, .queue, .takeDispatch, .takeReturn, .takeClass, .takeTable, .sessionGone, .sessionOpen])
    (hs : s.DispatchInv) : t.DispatchInv := by
  rw [State.dispatchInv_iff] at hs ⊢
  have hsub {k : Kind} {l : List Kind} (hl : l ⊆ [Kind.list, .queue, .takeDispatch, .takeReturn, .takeClass, .takeTable,
      .sessionGone, .sessionOpen]) (hk : k ∈ K) : k ∉ l := fun hm => hK k hk (hl hm)
  exact ⟨h.takesNamed (fun k hk => hsub (by decide) hk) hs.1, by rw [h.board fun k hk => hsub (by decide) hk]; exact hs.2⟩

/-! ### The operations on the board -/

/-- A change of one take leaves the records of other names. -/
theorem State.take?_modTake_ne {s : State} {r q : TakeRef} (f : Take → Take) (hf : ∀ u, (f u).ref = u.ref) (hq : q ≠ r) :
    (s.modTake r f).take? q = s.take? q := by
  have hname (t : Take) : (f t).session = t.session ∧ (f t).number = t.number := by simpa [Take.ref] using hf t
  have hkept : (fun t : Take => decide (t.session = q.session ∧ t.number = q.number)) ∘
      (fun t => if t.session = r.session ∧ t.number = r.number then f t else t)
      = fun t => decide (t.session = q.session ∧ t.number = q.number) := by
    funext t
    simp only [Function.comp]
    split <;> simp only [hname]
  rw [State.take?, State.take?, State.modTake_takes, List.find?_map, hkept]
  cases h : s.takes.find? fun t : Take => decide (t.session = q.session ∧ t.number = q.number) with
  | none => rfl
  | some k =>
    have hk : k.ref = q := State.ref_of_take? (s := s) h
    rw [Option.map_some, if_neg]
    rintro ⟨hsession, hnumber⟩
    exact hq (hk.symm.trans (by rw [Take.ref, hsession, hnumber]))

/-- A record changed by a function that keeps its name changes how that take stands. -/
theorem State.modTake_board {s : State} {r : TakeRef} {t : Take} (ht : s.take? r = some t) {f : Take → Take}
    (hf : ∀ u, (f u).ref = u.ref) : (s.modTake r f).board = s.board.stand r (some (f t).standing) := by
  have hlook (q : TakeRef) : ((s.modTake r f).take? q).map Take.standing
      = Function.update s.board.look r (some (f t).standing) q := by
    by_cases hq : q = r
    · subst hq
      rw [State.take?_modTake ht hf, Function.update_self]
      rfl
    · rw [Function.update_of_ne hq, State.take?_modTake_ne f hf hq]
      rfl
  simp only [State.board, Board.stand, funext hlook]
  rfl

theorem State.atClassTail_board {s : State} {r : TakeRef} {X : List TakeRef} (h : s.board.SoundBut (r :: X))
    (hr : s.board.queued r) (hX : r ∉ X) : (s.atClassTail r).board.SoundBut X := by
  obtain ⟨u, v, hsplit, hqueue, hu, hv⟩ := s.atClassTail_queue r
  have hboard : (s.atClassTail r).board = { s.board with queue := u ++ r :: v } := by
    simp only [State.board, ← hqueue]; rfl
  obtain ⟨-, -, hsorted, -⟩ := id h
  rw [hboard]
  refine h.place hr hX hsplit (fun q hq => ?_) fun q hq => ?_
  · simpa only [State.board_level] using hu q hq
  · cases hhead : v.head? with
    | none => rw [List.head?_eq_none_iff.mp hhead] at hq; exact nomatch hq
    | some p =>
      have hp := hv p hhead
      obtain ⟨v', rfl⟩ : ∃ v', v = p :: v' := ⟨v.tail, (List.cons_head?_tail hhead).symm⟩
      rw [show s.board.queue = u ++ p :: v' from hsplit] at hsorted
      obtain ⟨-, hvs, -⟩ := List.pairwise_append.mp hsorted
      simp only [State.board_level] at hvs ⊢
      rcases List.mem_cons.mp hq with rfl | hq
      · exact hp.le
      · exact hp.le.trans ((List.pairwise_cons.mp hvs).1 q hq)

theorem State.atClassHead_board {s : State} {r : TakeRef} {X : List TakeRef} (h : s.board.SoundBut (r :: X))
    (hr : s.board.queued r) (hX : r ∉ X) : (s.atClassHead r).board.SoundBut X := by
  obtain ⟨u, v, hsplit, hqueue, hu, hv⟩ := s.atClassHead_queue r
  have hboard : (s.atClassHead r).board = { s.board with queue := u ++ r :: v } := by
    simp only [State.board, ← hqueue]; rfl
  obtain ⟨-, -, hsorted, -⟩ := id h
  rw [hboard]
  refine h.place hr hX hsplit (fun q hq => ?_) fun q hq => ?_
  · simpa only [State.board_level] using (hu q hq).le
  · cases hhead : v.head? with
    | none => rw [List.head?_eq_none_iff.mp hhead] at hq; exact nomatch hq
    | some p =>
      have hp := hv p hhead
      obtain ⟨v', rfl⟩ : ∃ v', v = p :: v' := ⟨v.tail, (List.cons_head?_tail hhead).symm⟩
      rw [show s.board.queue = u ++ p :: v' from hsplit] at hsorted
      obtain ⟨-, hvs, -⟩ := List.pairwise_append.mp hsorted
      simp only [State.board_level] at hvs ⊢
      rcases List.mem_cons.mp hq with rfl | hq
      · exact hp
      · exact hp.trans ((List.pairwise_cons.mp hvs).1 q hq)

end Sys2Proof.Machine
end

section
/-! SUPPORT. What the operations keep of both invariants: the store's with the session table, and dispatch's with the take table. -/

namespace Sys2Proof.Machine

/-- From `s` to `t` both invariants are kept. -/
def Sound (s t : State) : Prop := (s.StoreInv → t.StoreInv) ∧ (s.DispatchInv → t.DispatchInv)

theorem Sound.refl {s : State} : Sound s s := ⟨id, id⟩

theorem Sound.trans {s t u : State} (h : Sound s t) (h' : Sound t u) : Sound s u :=
  ⟨fun hs => h'.1 (h.1 hs), fun hs => h'.2 (h.2 hs)⟩

theorem Sound.ite {p : Prop} [Decidable p] {s t u : State} (ht : p → Sound s t) (hu : ¬ p → Sound s u) :
    Sound s (if p then t else u) := by
  split
  · next hp => exact ht hp
  · next hp => exact hu hp

theorem Sound.thenIf {p : Prop} [Decidable p] {s t u : State} (h : Sound s t) (hu : p → Sound t u) :
    Sound s (if p then u else t) := .ite (fun hp => h.trans (hu hp)) fun _ => h

theorem Sound.foldl {α : Type} {f : State → α → State} (h : ∀ s a, Sound s (f s a)) (l : List α) (s : State) :
    Sound s (l.foldl f s) := by
  induction l generalizing s with
  | nil => exact .refl
  | cons a l ih => exact (h s a).trans (ih _)

/-- The kinds of moves that touch what the invariants speak of. -/
def busyKinds : List Kind :=
  [.list, .queue, .takeDispatch, .takeReturn, .takeClass, .takeTable, .sessionGone, .sessionOpen, .storeFree, .chainOpen]

/-- Moves of the other kinds keep both invariants. -/
theorem Reach.sound {K : List Kind} {s t : State} (h : Reach K s t) (hK : ∀ k ∈ K, k ∉ busyKinds) : Sound s t := by
  have hsub {k : Kind} {l : List Kind} (hl : l ⊆ busyKinds) (hk : k ∈ K) : k ∉ l := fun hm => hK k hk (hl hm)
  exact ⟨h.storeInv fun k hk => hsub (by decide) hk, h.dispatchInv fun k hk => hsub (by decide) hk⟩

/-- Moves of dispatch keep the store's invariant. -/
theorem Sound.of_dispatch {K : List Kind} {s t : State} (h : Reach K s t)
    (hK : ∀ k ∈ K, k ∉ [Kind.storeFree, .sessionGone, .sessionOpen, .chainOpen]) (hd : s.DispatchInv → t.DispatchInv) :
    Sound s t := ⟨h.storeInv hK, hd⟩

/-! ### Queueing and assigning -/

/-- A take may be queued: it is in no queue and no list. -/
def Take.idle (t : Take) : Prop := t.dispatch = .unqueued ∨ t.dispatch = .typed ∨ t.dispatch = .held

theorem Take.idle.not_queued {t : Take} (h : t.idle) : t.dispatch ≠ .queued := by
  rcases h with h | h | h <;> rw [h] <;> decide

theorem Take.idle.not_inList {t : Take} (h : t.idle) : ¬ t.inList := by
  rcases h with h | h | h <;> (rintro (hin | hin) <;> rw [h] at hin <;> exact nomatch hin)

/-- An idle take of a sound board stands idle on it. -/
theorem State.DispatchInv.standing_idle {s : State} (hs : s.DispatchInv) {r : TakeRef} {t : Take} (ht : s.take? r = some t)
    (hidle : t.idle) : t.standing.idle := by
  obtain ⟨-, -, -, -, -, hstation⟩ := State.dispatchInv_iff.mp hs
  refine ⟨hidle.not_queued, hidle.not_inList, ?_⟩
  by_contra hne
  exact hidle.not_inList ((hstation r _ (State.board_look ht)).mpr hne)

/-- Enqueueing a take that stands idle puts it in transit to the queue. -/
theorem State.enqueue_board {s : State} {X : List TakeRef} (hs : s.board.SoundBut X) {r : TakeRef} {t : Take}
    (ht : s.take? r = some t) (hidle : t.standing.idle) :
    (s.modTake r Take.enqueue).board.SoundBut (r :: X) ∧ (s.modTake r Take.enqueue).board.queued r := by
  rw [State.modTake_board ht (f := Take.enqueue) fun _ => rfl]
  exact ⟨hs.enqueue (State.board_look ht) hidle, _, Board.stand_look_self .., rfl⟩

theorem State.raiseTake_board (s : State) (r : TakeRef) (e : TakeEvent) : (s.raiseTake r e).board = s.board :=
  (s.raiseTake_reach (K := [.notice]) r e (by decide)).board (by decide)

theorem State.queueTail_dispatchInv {s : State} (hs : s.DispatchInv) {r : TakeRef} {t : Take} (ht : s.take? r = some t)
    (hidle : t.idle) : (s.queueTail r).DispatchInv := by
  obtain ⟨hnamed, hboard⟩ := State.dispatchInv_iff.mp hs
  obtain ⟨hsound, hqueued⟩ := State.enqueue_board hboard ht (hs.standing_idle ht hidle)
  refine State.dispatchInv_iff.mpr ⟨(s.queueTail_reach r).takesNamed (by decide) hnamed, ?_⟩
  unfold State.queueTail
  rw [State.raiseTake_board]
  exact State.atClassTail_board hsound hqueued (by simp)

/-- A take out of queue and lists is queued at its class head: what its record said of its dispatch does not matter. -/
theorem State.queueHead_board {s : State} (hs : s.board.Sound) {r : TakeRef} {t : Take} (ht : s.take? r = some t)
    (hidle : t.standing.idle) : (s.queueHead r).board.Sound := by
  obtain ⟨hsound, hqueued⟩ := State.enqueue_board hs ht hidle
  unfold State.queueHead
  rw [State.raiseTake_board]
  exact State.atClassHead_board hsound hqueued (by simp)

theorem State.assign_board {s : State} (hs : s.board.Sound) {r : TakeRef} {t : Take} (ht : s.take? r = some t)
    (hlist : ¬ t.inList) (n : StationId) : (s.assign r n).board.Sound := by
  obtain ⟨a, p, hp, hassign⟩ := s.assign_eq r n
  have htake : (s.dequeue r).take? r = some t := ht
  have hlists : (fun m => (((s.stations.set n p).get m)).takes)
      = Function.update s.board.lists n (s.board.lists n ++ [r]) := by
    funext m
    by_cases hm : m = n
    · subst hm; rw [PerStation.get_set_self, Function.update_self, hp]; rfl
    · rw [PerStation.get_set_ne _ _ hm, Function.update_of_ne hm]; rfl
  have hboard : (s.assign r n).board = { s.board.stand r (some ⟨.assigned, some n, t.standing.level⟩) with
      queue := s.board.queue.filter fun q => q ≠ r
      lists := Function.update s.board.lists n (s.board.lists n ++ [r]) } := by
    have hmod := State.modTake_board htake (f := Take.assignedTo n) fun _ => rfl
    have hlook := congrArg Board.look hmod
    rw [hassign, State.raiseTake_board, ← hlists]
    exact congrArg (fun l => (⟨l, _, _⟩ : Board)) hlook
  rw [hboard]
  exact Board.SoundBut.assign hs (State.board_look ht) hlist n

theorem State.assign_dispatchInv {s : State} (hs : s.DispatchInv) {r : TakeRef} {t : Take} (ht : s.take? r = some t)
    (hlist : ¬ t.inList) (n : StationId) : (s.assign r n).DispatchInv := by
  obtain ⟨hnamed, hboard⟩ := State.dispatchInv_iff.mp hs
  exact State.dispatchInv_iff.mpr ⟨(s.assign_reach r n).takesNamed (by decide) hnamed, State.assign_board hboard ht hlist n⟩

/-- The take a match is found for is a take of the queue. -/
theorem State.findMatch_mem {s : State} {r : TakeRef} {n : StationId} (h : s.findMatch = some (r, n)) :
    r ∈ s.queue ∧ ∃ t, s.take? r = some t ∧ s.chooseStation t = some n := by
  unfold State.findMatch at h
  obtain ⟨q, hq, hmatch⟩ := List.exists_of_findSome?_eq_some h
  split at hmatch
  · next t ht =>
    obtain ⟨m, hm, hpair⟩ := Option.map_eq_some_iff.mp hmatch
    obtain ⟨rfl, rfl⟩ := Prod.mk.inj hpair
    exact ⟨hq, t, ht, hm⟩
  · exact nomatch hmatch

theorem State.matching_dispatchInv (k : Nat) {s : State} (hs : s.DispatchInv) : (s.matching k).DispatchInv := by
  induction k generalizing s with
  | zero => exact hs
  | succ k ih =>
    unfold State.matching
    split
    · next r n hfound =>
      obtain ⟨hr, t, ht, -⟩ := State.findMatch_mem hfound
      obtain ⟨-, -, hmem, -⟩ := State.dispatchInv_iff.mp hs
      obtain ⟨⟨k, hk, hqueued⟩, -⟩ := (hmem r).mp hr
      rw [State.board_look ht] at hk
      obtain rfl := Option.some.inj hk
      have hassigned : (s.assign r n).DispatchInv := State.assign_dispatchInv hs ht (fun hin => by
        rcases hin with hin | hin <;> rw [show t.dispatch = .queued from hqueued] at hin <;> exact nomatch hin) n
      exact ih hassigned
    · exact hs

theorem State.matchingPass_sound (s : State) : Sound s s.matchingPass :=
  .of_dispatch s.matchingPass_reach (by decide) (State.matching_dispatchInv 32)

theorem State.passIfWanting_sound (s : State) (n : StationId) : Sound s (s.passIfWanting n) :=
  .ite (fun _ => s.matchingPass_sound) fun _ => .refl

/-- The table has the take, and no queue and no list holds it. -/
def State.unheld (s : State) (r : TakeRef) : Prop := ∃ t, s.take? r = some t ∧ t.idle

/-- Whether a take is held, the board says. -/
theorem State.unheld.congr {s u : State} (h : u.board = s.board) {r : TakeRef} (hr : s.unheld r) : u.unheld r := by
  obtain ⟨t, ht, hidle⟩ := hr
  have hlook : u.board.look r = some t.standing := by rw [h]; exact State.board_look ht
  obtain ⟨t', ht', hstanding⟩ := Option.map_eq_some_iff.mp hlook
  refine ⟨t', ht', ?_⟩
  unfold Take.idle
  rwa [show t'.dispatch = t.dispatch from congrArg TakeStanding.dispatch hstanding]

/-- A take handed over is unheld before, in every state the invariant holds of. -/
theorem State.handOver_sound {s : State} {r : TakeRef} (h : s.DispatchInv → s.unheld r) :
    Sound s (s.handOver r) := by
  refine .trans (.of_dispatch (s.queueTail_reach r) (by decide) fun hs => ?_) (State.matchingPass_sound _)
  obtain ⟨t, ht, hidle⟩ := h hs
  exact State.queueTail_dispatchInv hs ht hidle

end Sys2Proof.Machine
end

section
/-! SUPPORT. Takes that leave queue and lists, takes and sessions that come and go, and both invariants over them. -/

namespace Sys2Proof.Machine

/-! ### Leaving the queue and the lists -/

/-- The board after a take has left the queue and every list; its record is as it was. -/
def Board.without (b : Board) (r : TakeRef) : Board :=
  { b with queue := b.queue.filter fun q => q ≠ r, lists := fun n => (b.lists n).erase r }

theorem Board.without_of_not_queued {b : Board} {r : TakeRef} (h : r ∉ b.queue) :
    b.without r = { b with lists := fun n => (b.lists n).erase r } := by
  unfold Board.without
  rw [List.filter_eq_self.mpr fun q hq => by simpa using ne_of_mem_of_not_mem hq h]

theorem Board.without_of_not_listed {b : Board} {r : TakeRef} (h : ∀ n, r ∉ b.lists n) :
    b.without r = { b with queue := b.queue.filter fun q => q ≠ r } := by
  unfold Board.without
  simp only [fun n => List.erase_of_not_mem (h n)]

theorem State.leaveList_board (s : State) (n : StationId) (r : TakeRef) : (s.leaveList n r).board =
    { s.board with lists := Function.update s.board.lists n ((s.board.lists n).erase r) } := by
  have hleft : (s.modStation n fun st => { st with takes := st.takes.erase r, stateDue := true }).board =
      { s.board with lists := Function.update s.board.lists n ((s.board.lists n).erase r) } := by
    have hlists : (fun m => ((s.modStation n fun st =>
        { st with takes := st.takes.erase r, stateDue := true }).stations.get m).takes)
        = Function.update s.board.lists n ((s.board.lists n).erase r) := by
      funext m
      by_cases hm : m = n
      · subst hm; rw [State.modStation_get_self, Function.update_self]; rfl
      · rw [State.modStation_get_ne s _ hm, Function.update_of_ne hm]; rfl
    exact congrArg (fun l => (⟨_, _, l⟩ : Board)) hlists
  unfold State.leaveList
  simp only
  split
  · rw [((State.newCurrent_reach _ n).board (by decide)), hleft]
  · exact hleft

/-- The list of the one station that holds the take is left; no other list holds it. -/
theorem Board.SoundBut.without_listed {b : Board} (h : b.Sound) {r : TakeRef} {k : TakeStanding} (hk : b.look r = some k)
    (hin : k.inList) {n : StationId} (hn : k.station = some n) :
    b.without r = { b with lists := Function.update b.lists n ((b.lists n).erase r) } := by
  have hqueue : r ∉ b.queue := h.not_queued hk (by rcases hin with hin | hin <;> rw [hin] <;> decide)
  rw [Board.without_of_not_queued hqueue]
  have hlists : (fun m => (b.lists m).erase r) = Function.update b.lists n ((b.lists n).erase r) := by
    funext m
    by_cases hm : m = n
    · subst hm; rw [Function.update_self]
    · rw [Function.update_of_ne hm, List.erase_of_not_mem (h.not_listed_ne hk hn hm)]
  rw [hlists]

theorem State.dequeue_board (s : State) (r : TakeRef) :
    (s.dequeue r).board = { s.board with queue := s.board.queue.filter fun q => q ≠ r } := rfl

/-- A take withdrawn has left the queue and every list. -/
theorem State.withdraw_board {s : State} (hs : s.board.Sound) {r : TakeRef} {t : Take} (ht : s.take? r = some t) :
    (s.withdraw t).board = s.board.without r := by
  have hk : s.board.look t.ref = some t.standing := by rw [State.ref_of_take? ht]; exact State.board_look ht
  obtain ⟨-, -, -, -, hstation⟩ := id hs
  have hlist (hin : t.inList) {n : StationId} (hn : t.station = some n) (b : Prop) [Decidable b] :
      (if b then (s.leaveList n t.ref).setStatus n .removed none else s.leaveList n t.ref).board = s.board.without t.ref := by
    have hleft : (s.leaveList n t.ref).board = s.board.without t.ref := by
      rw [State.leaveList_board]
      exact (Board.SoundBut.without_listed hs hk hin hn).symm
    split
    · rw [((State.setStatus_reach _ n .removed none).board (by decide)), hleft]
    · exact hleft
  rw [← State.ref_of_take? ht]
  unfold State.withdraw
  split
  · next hqueued =>
    rw [Board.without_of_not_listed fun n => hs.not_listed hk (by
      rintro (hin | hin) <;> rw [show t.standing.dispatch = t.dispatch from rfl, hqueued] at hin <;> exact nomatch hin) n]
    rfl
  · next n hd hn => exact hlist (.inl hd) hn _
  · next n hd hn => exact hlist (.inr hd) hn _
  · next hq ha hw =>
    have hnone : ¬ t.standing.inList := by
      intro hin
      obtain ⟨n, hn⟩ := Option.ne_none_iff_exists'.mp ((hstation _ _ hk).mp hin)
      rcases hin with hin | hin
      · exact ha n hin hn
      · exact hw n hin hn
    rw [Board.without_of_not_listed (hs.not_listed hk hnone), List.filter_eq_self.mpr]
    exact fun q hin => by simpa using ne_of_mem_of_not_mem hin (hs.not_queued hk hq)

/-- A take that has left queue and lists and stands idle, or is gone, leaves a sound board. -/
theorem Board.SoundBut.without_stand {b : Board} (h : b.Sound) (r : TakeRef) {k : Option TakeStanding}
    (hidle : ∀ j, k = some j → j.idle) : ((b.without r).stand r k).Sound := h.lift r hidle

/-! ### The table of takes -/

/-- Where names are distinct, a record is found by its name exactly when it is in the table. -/
theorem State.take?_iff {s : State} (hnodup : (s.takes.map Take.ref).Nodup) {r : TakeRef} {t : Take} :
    s.take? r = some t ↔ t ∈ s.takes ∧ t.ref = r :=
  ⟨fun h => ⟨State.mem_of_take? h, State.ref_of_take? h⟩, fun ⟨h, hr⟩ => hr ▸ State.take?_of_mem hnodup h⟩

theorem State.dropTake_board (s : State) (r : TakeRef) : (s.dropTake r).board = s.board.stand r none := by
  have hlook (q : TakeRef) : ((s.dropTake r).take? q).map Take.standing = Function.update s.board.look r none q := by
    by_cases hq : q = r
    · subst hq
      rw [Function.update_self, State.take?_eq_none]
      · rfl
      · intro t ht
        have hout := (List.mem_filter.mp ht).2
        rintro rfl
        simp [Take.ref] at hout
    · rw [Function.update_of_ne hq]
      have hfind : (s.dropTake r).take? q = s.take? q := by
        unfold State.take? State.dropTake
        rw [State.setTakes_takes, List.find?_filter]
        congr 1
        funext t
        by_cases ht : t.session = q.session ∧ t.number = q.number
        · have hne : t.session ≠ r.session ∨ t.number ≠ r.number := by
            by_contra hand
            push Not at hand
            refine hq ?_
            cases q; cases r
            simp only at ht hand
            rw [← ht.1, ← ht.2, hand.1, hand.2]
          simp [ht.1, ht.2] at hne ⊢
          exact hne
        · simp [ht]
      rw [hfind]
      rfl
  simp only [State.board, Board.stand, funext hlook]
  rfl

theorem State.takesNamed.dropTake {s : State} (h : s.takesNamed) (r : TakeRef) : (s.dropTake r).takesNamed := by
  obtain ⟨hnodup, hroom, hrefs, hsessions⟩ := h
  exact ⟨hnodup, hroom, hrefs.sublist ((List.filter_sublist).map _), fun t ht => hsessions t (List.mem_of_mem_filter ht)⟩

/-- A take withdrawn and dropped leaves the invariant. -/
theorem State.withdraw_dropTake {s : State} (hs : s.DispatchInv) {r : TakeRef} {t : Take} (ht : s.take? r = some t) :
    ((s.withdraw t).dropTake r).DispatchInv := by
  obtain ⟨hnamed, hboard⟩ := State.dispatchInv_iff.mp hs
  refine State.dispatchInv_iff.mpr ⟨((s.withdraw_reach t).takesNamed (by decide) hnamed).dropTake r, ?_⟩
  rw [State.dropTake_board, State.withdraw_board hboard ht]
  exact Board.SoundBut.without_stand hboard r fun _ h => nomatch h

/-- A session's number, and its count of takes. -/
def Session.count (x : Session) : Nat × Nat := (x.number, x.takeCount)

/-- The entry of a session, seen through a view that shows its number, is the entry of the table so seen. -/
theorem State.session?_map {β : Type} {view : Session → β} {number : β → Nat} (hview : ∀ x, number (view x) = x.number)
    (s : State) (n : Nat) : (s.session? n).map view = (s.sessions.map view).find? fun y => number y = n := by
  rw [State.session?, List.find?_map]
  simp only [Function.comp_def, hview]

theorem State.session?_congr {β : Type} {view : Session → β} {number : β → Nat} (hview : ∀ x, number (view x) = x.number)
    {s t : State} (h : t.sessions.map view = s.sessions.map view) (n : Nat) :
    (t.session? n).map view = (s.session? n).map view := by
  rw [State.session?_map hview, State.session?_map hview, h]

theorem State.number_of_session? {s : State} {n : Nat} {x : Session} (h : s.session? n = some x) : x.number = n := by
  simpa using List.find?_some h

theorem State.mem_of_session? {s : State} {n : Nat} {x : Session} (h : s.session? n = some x) : x ∈ s.sessions :=
  List.mem_of_find?_eq_some h

/-- Every move but those that open takes and sessions leaves each session's count. -/
theorem Move.counts {k : Kind} {s t : State} (h : Move k s t) (hk : k ∉ [Kind.takeCount, .sessionGone, .sessionOpen]) :
    t.sessions.map Session.count = s.sessions.map Session.count := by
  have hmod {n : Nat} {f : Session → Session} (hf : ∀ x, (f x).count = x.count) :
      (s.modSession n f).sessions.map Session.count = s.sessions.map Session.count := by
    rw [State.modSession_sessions, List.map_map]
    refine List.map_congr_left fun x _ => ?_
    simp only [Function.comp]
    split
    · exact hf x
    · rfl
  cases h with
  | takeCount | sessionGone | sessionOpen => exact absurd (by decide) hk
  | session n f hf => exact hmod fun x => Prod.ext (hf x).1 (hf x).2.2
  | sessionTrim n f hf => exact hmod fun x => (congrArg Session.count (hf x) :)
  | sessionMarks n f hf => exact hmod fun x => (congrArg Session.count (hf x) :)
  | notice | sending | link | mask | orphan | grant | refresh | port | list | signal | stationConfig | queue | rotation
    | takeDispatch | takeReturn | takeClass | takeBody | takeTable | marks | ranges | toggle | keypad | channelRun | output
    | capture | channelConfig | unit | unitCount | threshold | exporter | trim | condition | storeFree | place | frame
    | chainOpen | lowMark => rfl

theorem Reach.counts {K : List Kind} {s t : State} (h : Reach K s t)
    (hK : ∀ k ∈ K, k ∉ [Kind.takeCount, .sessionGone, .sessionOpen]) (n : Nat) :
    (t.session? n).map Session.count = (s.session? n).map Session.count :=
  State.session?_congr (number := Prod.fst) (fun _ => rfl)
    (h.keeps (fun u => u.sessions.map Session.count) fun k hk _ _ hm => hm.counts (hK k hk)) n

/-- A take numbered past its session's count is not in the table. -/
theorem State.takesNamed.look_next {s : State} (h : s.takesNamed) {n : Nat} {x : Session} (hx : s.session? n = some x) :
    s.take? ⟨n, x.takeCount + 1⟩ = none := by
  obtain ⟨hnodup, -, -, hsessions⟩ := h
  refine State.take?_eq_none fun t ht hr => ?_
  obtain ⟨y, hy, hname, hcount⟩ := hsessions t ht
  have hsession : t.session = n := congrArg TakeRef.session hr
  have hnumber : t.number = x.takeCount + 1 := congrArg TakeRef.number hr
  have hyx : y = x := List.inj_on_of_nodup_map hnodup hy (State.mem_of_session? hx)
    (by rw [hname, hsession, State.number_of_session? hx])
  rw [hyx, hnumber] at hcount
  omega

/-- The table and the counts once a take has opened, before its notice and the trim point. -/
def State.opening (s : State) (n : Nat) (t : Take) : State :=
  (s.setTakes (insertBy Take.before t s.takes)).modSession n fun y =>
    { y with takeCount := y.takeCount + 1, openTake := some t.number, reserved := false }

theorem State.openTake_reach_opening {s : State} {n : Nat} {x : Session} (hx : s.session? n = some x) (leadIn core : Nat) :
    Reach trimKinds (s.opening n (newTake x leadIn core (s.lostFrom x leadIn))) (s.openTake n leadIn core) := by
  simp only [State.openTake, hx]
  exact (State.raiseTake_reach (hK := by decide) ..).trans (State.recomputeTrim_reach ..)

theorem State.opening_takesNamed {s : State} (h : s.takesNamed) {n : Nat} {x : Session} (hx : s.session? n = some x)
    (leadIn core lost : Nat) : (s.opening n (newTake x leadIn core lost)).takesNamed := by
  obtain ⟨hnodup, hroom, hrefs, hsessions⟩ := id h
  have hnumber := State.number_of_session? hx
  have hcounted (y : Session) (k : Nat) (hy : y ∈ s.sessions) (hk : k ≤ y.takeCount) (hnew : y.number = n → k ≤ y.takeCount + 1) :
      ∃ z ∈ (s.opening n (newTake x leadIn core lost)).sessions, z.number = y.number ∧ k ≤ z.takeCount := by
    refine ⟨_, List.mem_map_of_mem hy, ?_, ?_⟩
    · split <;> rfl
    · split
      · next hyn => exact hnew hyn
      · exact hk
  refine ⟨?_, by simpa [State.opening] using hroom, ?_, fun t ht => ?_⟩
  · have hkept := State.modSession_numbers (s.setTakes (insertBy Take.before (newTake x leadIn core lost) s.takes)) n
      (fun y => { y with takeCount := y.takeCount + 1, openTake := some (newTake x leadIn core lost).number,
                         reserved := false }) fun _ => rfl
    exact hkept ▸ hnodup
  · have hperm := (insertBy_perm Take.before (newTake x leadIn core lost) s.takes).map Take.ref
    refine (hperm.nodup_iff).mpr (List.nodup_cons.mpr ⟨?_, hrefs⟩)
    intro hmem
    obtain ⟨t, ht, hr⟩ := List.mem_map.mp hmem
    have hfound := State.take?_of_mem hrefs ht
    rw [hr, show (newTake x leadIn core lost).ref = ⟨n, x.takeCount + 1⟩ by simp [newTake, Take.ref, hnumber],
      h.look_next hx] at hfound
    exact nomatch hfound
  · rcases mem_insertBy.mp ht with rfl | ht
    · refine ⟨_, List.mem_map_of_mem (State.mem_of_session? hx), ?_, ?_⟩
      · simp only [hnumber, if_true]; exact hnumber.symm
      · simp only [hnumber, if_true]; exact le_refl _
    · obtain ⟨y, hy, hname, hcount⟩ := hsessions t ht
      obtain ⟨z, hz, hzname, hzcount⟩ := hcounted y t.number hy hcount fun _ => hcount.trans (Nat.le_succ _)
      exact ⟨z, hz, hzname.trans hname, hzcount⟩

theorem State.opening_board {s : State} (h : s.takesNamed) {n : Nat} {x : Session} (hx : s.session? n = some x)
    (leadIn core lost : Nat) : (s.opening n (newTake x leadIn core lost)).board =
      s.board.stand ⟨n, x.takeCount + 1⟩ (some ⟨.unqueued, none, x.takeClass.code⟩) := by
  obtain ⟨-, -, hrefs, -⟩ := id h
  obtain ⟨-, -, hrefs', -⟩ := State.opening_takesNamed h hx leadIn core lost
  have hname : (newTake x leadIn core lost).ref = ⟨n, x.takeCount + 1⟩ := by
    simp [newTake, Take.ref, State.number_of_session? hx]
  have hlook (q : TakeRef) : ((s.opening n (newTake x leadIn core lost)).take? q).map Take.standing
      = Function.update s.board.look ⟨n, x.takeCount + 1⟩ (some ⟨.unqueued, none, x.takeClass.code⟩) q := by
    by_cases hq : q = ⟨n, x.takeCount + 1⟩
    · have hnew : (s.opening n (newTake x leadIn core lost)).take? q = some (newTake x leadIn core lost) :=
        (State.take?_iff hrefs').mpr ⟨mem_insertBy.mpr (.inl rfl), hname.trans hq.symm⟩
      rw [hnew, hq, Function.update_self]
      rfl
    · rw [Function.update_of_ne hq]
      have hold : (s.opening n (newTake x leadIn core lost)).take? q = s.take? q := by
        refine Option.ext fun t => ?_
        rw [State.take?_iff hrefs', State.take?_iff hrefs]
        refine and_congr_left fun hr => mem_insertBy.trans (or_iff_right ?_)
        rintro rfl
        exact hq (hr.symm.trans hname)
      rw [hold]
      rfl
  simp only [State.board, Board.stand, funext hlook]
  rfl

/-- A take that has opened is unheld, and its session counts it. -/
theorem State.openTake_spec {s : State} (hs : s.DispatchInv) {n : Nat} {x : Session} (hx : s.session? n = some x)
    (leadIn core : Nat) : (s.openTake n leadIn core).DispatchInv
      ∧ (s.openTake n leadIn core).board =
        s.board.stand ⟨n, x.takeCount + 1⟩ (some ⟨.unqueued, none, x.takeClass.code⟩)
      ∧ ((s.openTake n leadIn core).session? n).map Session.count = some (n, x.takeCount + 1) := by
  obtain ⟨hnamed, hboard⟩ := State.dispatchInv_iff.mp hs
  have hreach := State.openTake_reach_opening hx leadIn core
  have hopened := State.opening_board hnamed hx leadIn core (s.lostFrom x leadIn)
  have hnone : s.board.look ⟨n, x.takeCount + 1⟩ = none := congrArg (Option.map Take.standing) (hnamed.look_next hx)
  obtain ⟨hqueue, hlists⟩ := hboard.not_mem_of_none hnone
  have hsound : (s.board.stand ⟨n, x.takeCount + 1⟩ (some ⟨.unqueued, none, x.takeClass.code⟩)).Sound := by
    have hwithout := Board.SoundBut.without_stand hboard ⟨n, x.takeCount + 1⟩
      (k := some ⟨.unqueued, none, x.takeClass.code⟩) fun j hj => by
        obtain rfl := Option.some.inj hj
        exact ⟨nofun, fun hin => hin.elim nofun nofun, rfl⟩
    rwa [Board.without_of_not_queued hqueue, show (fun m => (s.board.lists m).erase ⟨n, x.takeCount + 1⟩) = s.board.lists from
      funext fun m => List.erase_of_not_mem (hlists m)] at hwithout
  refine ⟨hreach.dispatchInv (by decide) (State.dispatchInv_iff.mpr ⟨State.opening_takesNamed hnamed hx .., ?_⟩), ?_, ?_⟩
  · rw [hopened]; exact hsound
  · rw [hreach.board (by decide), hopened]
  · rw [hreach.counts (by decide) n]
    have hname := State.number_of_session? hx
    have hfound : (s.opening n (newTake x leadIn core (s.lostFrom x leadIn))).session? n
        = some { x with takeCount := x.takeCount + 1, openTake := some (x.takeCount + 1), reserved := false } := by
      unfold State.opening
      rw [State.session?, State.modSession_sessions, List.find?_map]
      have hkept : ((fun y : Session => decide (y.number = n)) ∘ fun y : Session => if y.number = n then
          { y with takeCount := y.takeCount + 1, openTake := some (newTake x leadIn core (s.lostFrom x leadIn)).number,
                   reserved := false } else y) = fun y : Session => decide (y.number = n) := by
        funext y
        simp only [Function.comp]
        split <;> rfl
      rw [hkept]
      have hx' : (s.setTakes (insertBy Take.before (newTake x leadIn core (s.lostFrom x leadIn)) s.takes)).sessions.find?
          (fun y => decide (y.number = n)) = some x := hx
      rw [hx', Option.map_some, if_pos hname]
      rfl
    rw [hfound]
    simp [Session.count, hname]

theorem State.openTake_sound (s : State) (n leadIn core : Nat) : Sound s (s.openTake n leadIn core) := by
  refine .of_dispatch (s.openTake_reach n leadIn core) (by decide) fun hs => ?_
  cases hx : s.session? n with
  | none => simpa only [State.openTake, hx] using hs
  | some x => exact (State.openTake_spec hs hx leadIn core).1

/-- A take that stands UNQUEUED on the board is unheld. -/
theorem State.unheld_of_look {s : State} {r : TakeRef} {k : TakeStanding} (h : s.board.look r = some k)
    (hd : k.dispatch = .unqueued) : s.unheld r := by
  obtain ⟨t, ht, rfl⟩ := Option.map_eq_some_iff.mp h
  exact ⟨t, ht, .inl hd⟩

/-- The take that opening has added is unheld. -/
theorem State.openTake_unheld {s : State} (hs : s.DispatchInv) {n : Nat} {x : Session} (hx : s.session? n = some x)
    (leadIn core : Nat) : (s.openTake n leadIn core).unheld ⟨n, x.takeCount + 1⟩ := by
  obtain ⟨-, hboard, -⟩ := State.openTake_spec hs hx leadIn core
  exact State.unheld_of_look (by rw [hboard, Board.stand_look_self]) rfl

theorem State.openFirstTake_sound (s : State) (n first : Nat) : Sound s (s.openFirstTake n first) := by
  refine .of_dispatch (s.openFirstTake_reach n first) (by decide) fun hs => ?_
  have hopen := (s.openTake_sound n first first).2 hs
  unfold State.openFirstTake
  simp only
  split
  · next y hy =>
    split
    · cases hx : s.session? n with
      | none => simp only [State.openTake, hx, reduceCtorEq] at hy
      | some x =>
        obtain ⟨-, -, hcount⟩ := State.openTake_spec hs hx first first
        rw [hy] at hcount
        have htaken : y.takeCount = x.takeCount + 1 := congrArg Prod.snd (Option.some.inj hcount)
        exact (State.handOver_sound fun _ => htaken ▸ State.openTake_unheld hs hx first first).2 hopen
    · exact hopen
  · exact hopen

end Sys2Proof.Machine
end

section
/-! SUPPORT. Both invariants over the life of takes and sessions: cuts, closings, the freeing of sessions, and what follows at
once from a command. -/

namespace Sys2Proof.Machine

/-! ### Cuts -/

/-- A cut's new take is unheld, and so is the take it ends when that take stood UNQUEUED. -/
theorem State.cutOpened_spec {s : State} (hs : s.DispatchInv) {n m : Nat} {x : Session} {t : Take} (hx : s.session? n = some x)
    (ht : s.take? ⟨n, m⟩ = some t) (c : Nat) (k : CutKind) : (s.cutOpened x t n m c k).DispatchInv
      ∧ (s.cutOpened x t n m c k).unheld ⟨n, x.takeCount + 1⟩
      ∧ (t.dispatch = .unqueued → (s.cutOpened x t n m c k).unheld ⟨n, m⟩) := by
  have hreach := s.cutClosed_reach x n m c k
  have hclosed : (s.cutClosed x n m c k).DispatchInv := hreach.dispatchInv (by decide) hs
  have hboard : (s.cutClosed x n m c k).board = s.board := hreach.board (by decide)
  have hcount := hreach.counts (by decide) n
  rw [hx, Option.map_some] at hcount
  obtain ⟨y, hy, hyx⟩ := Option.map_eq_some_iff.mp hcount
  have htaken : y.takeCount = x.takeCount := congrArg Prod.snd hyx
  have hopened := State.openTake_spec hclosed hy (leadInAt c (overlapOf x.planInForce k) t.leadIn (x.firstStored.getD 0)) c
  obtain ⟨hinv, hlook, -⟩ := hopened
  refine ⟨hinv, htaken ▸ State.openTake_unheld hclosed hy .., fun hunqueued => ?_⟩
  obtain ⟨hnamed, -⟩ := State.dispatchInv_iff.mp hs
  have hne : (⟨n, m⟩ : TakeRef) ≠ ⟨n, y.takeCount + 1⟩ := by
    intro heq
    rw [heq, htaken, hnamed.look_next hx] at ht
    exact nomatch ht
  refine State.unheld_of_look (k := t.standing) ?_ hunqueued
  have hkept : (s.cutOpened x t n m c k).board.look ⟨n, m⟩ = (s.cutClosed x n m c k).board.look ⟨n, m⟩ := by
    unfold State.cutOpened
    rw [hlook, Board.stand_look_ne _ _ hne]
  rw [hkept, hboard]
  exact State.board_look ht

theorem State.makeCut_sound (s : State) (n c : Nat) (k : CutKind) : Sound s (s.makeCut n c k) := by
  refine .of_dispatch (s.makeCut_reach n c k) (by decide) fun hs => ?_
  cases hx : s.session? n with
  | none => simpa only [State.makeCut, hx] using hs
  | some x =>
    cases hm : x.openTake with
    | none => simpa only [State.makeCut, hx, hm] using hs
    | some m =>
      cases ht : s.take? ⟨n, m⟩ with
      | none => simpa only [State.makeCut, hx, hm, ht] using hs
      | some t =>
        obtain ⟨hopened, hnew, hold⟩ := State.cutOpened_spec hs hx ht c k
        rw [State.makeCut_eq c k hx hm ht]
        by_cases hlive : x.dispatchMode = .live
        · rw [if_pos hlive, if_neg (by rw [hlive]; exact fun h => nomatch h.1)]
          exact (State.handOver_sound fun _ => hnew).2 hopened
        · rw [if_neg hlive]
          split
          · next honClose => exact (State.handOver_sound fun _ => hold honClose.2).2 hopened
          · exact hopened

theorem State.cutSearch_sound (s : State) (n f quiet : Nat) : Sound s (s.cutSearch n f quiet) := by
  unfold State.cutSearch
  split
  · split
    · split
      · refine .ite (fun _ => .refl) fun _ => ?_
        split
        · exact .ite (fun _ => .refl) fun _ => .ite (fun _ => (s.extendTake_reach ..).sound (by decide)) fun _ =>
            s.makeCut_sound ..
        · exact .refl
      · exact .refl
    · exact .refl
  · exact .refl

/-! ### Takes closed and discarded -/

theorem State.passAfter_sound (s : State) (t : Take) : Sound s (s.passAfter t) := by
  unfold State.passAfter
  split
  · exact s.passIfWanting_sound _
  · exact s.passIfWanting_sound _
  · exact .refl

theorem State.modSession_reach {K : List Kind} {s : State} (n : Nat) {f : Session → Session}
    (hf : ∀ x, (f x).number = x.number ∧ (f x).channel = x.channel ∧ (f x).takeCount = x.takeCount) (hK : Kind.session ∈ K) :
    Reach K s (s.modSession n f) := .one (.session n f hf) hK

theorem State.discardTake_sound (s : State) (r : TakeRef) : Sound s (s.discardTake r) := by
  refine .of_dispatch (s.discardTake_reach r) (by decide) fun hs => ?_
  unfold State.discardTake
  cases ht : s.take? r with
  | none => exact hs
  | some t =>
    have hraise : Reach [.notice] s (s.raiseTake r .discarded) := s.raiseTake_reach r _ (by decide)
    have hfound : (s.raiseTake r .discarded).take? r = some t :=
      (State.take?_congr (hraise.takes (by decide)) r).trans ht
    have hdropped := State.withdraw_dropTake (hraise.dispatchInv (by decide) hs) hfound
    have hmod (u : State) : Reach [.session] u (u.modSession r.session fun x => { x with openTake := none }) :=
      State.modSession_reach r.session (fun _ => ⟨rfl, rfl, rfl⟩) (by decide)
    exact (State.passAfter_sound _ t).2 ((State.recomputeTrim_reach _ r.session).dispatchInv (by decide)
      ((hmod _).dispatchInv (by decide) hdropped))

/-- The open take of a session that closes, before it is handed over. -/
theorem State.closedFinal_reach (s : State) (r : TakeRef) (n e : Nat) (k : CutKind) :
    Reach [.notice, .takeBody, .session] s
      ((s.closeTake r e k).modSession n fun y => { y.clearCut with openTake := none }) :=
  .trans ((s.closeTake_reach ..).mono (by decide)) (State.modSession_reach _ (by exact fun _ => ⟨rfl, rfl, rfl⟩) (by decide))

theorem State.unheld_of_take? {s : State} {r : TakeRef} {t : Take} (h : s.take? r = some t) (hd : t.dispatch = .unqueued) :
    s.unheld r := ⟨t, h, .inl hd⟩

theorem State.closeFinalTake_sound (s : State) (n : Nat) : Sound s (s.closeFinalTake n) := by
  have hclear {u : State} {f : Session → Session}
      (hf : ∀ x, (f x).number = x.number ∧ (f x).channel = x.channel ∧ (f x).takeCount = x.takeCount) :
      Sound u (u.modSession n f) := (State.modSession_reach (K := [.session]) n hf (by decide)).sound (by decide)
  unfold State.closeFinalTake
  split
  · split
    · simp only
      split
      · next ht _ =>
        refine .ite (fun _ => (s.discardTake_sound _).trans (hclear fun _ => ⟨rfl, rfl, rfl⟩)) fun _ => ?_
        refine .thenIf ((s.closedFinal_reach ..).sound (by decide)) fun hclose => State.handOver_sound fun _ => ?_
        exact (State.unheld_of_take? ht hclose.2).congr ((s.closedFinal_reach ..).board (by decide))
      · exact (s.discardTake_sound _).trans (hclear fun _ => ⟨rfl, rfl, rfl⟩)
      · exact hclear (by exact fun _ => ⟨rfl, rfl, rfl⟩)
    · exact hclear (by exact fun _ => ⟨rfl, rfl, rfl⟩)
  · exact .refl

/-! ### Sessions -/

theorem State.startRecording_sound (s : State) (c : ChannelId) (n first : Nat) : Sound s (s.startRecording c n first) := by
  have hstart : Reach [.notice, .channelRun, .session] s (((s.modChannel c fun ch => { ch with phase := .recording, ring := [] }).modSession n
      fun x => { x with phase := .recording, firstStored := some first }).raiseSession n .recording) :=
    .trans (.trans (.one (.channelRun _ _ (by rfl)) (by decide))
      (State.modSession_reach _ (by exact fun _ => ⟨rfl, rfl, rfl⟩) (by decide))) (State.raiseSession_reach (hK := by decide) ..)
  exact (hstart.sound (by decide)).trans (State.openFirstTake_sound ..)

/-- A session without takes leaves the table. -/
theorem State.takesNamed.setSessions {s : State} (h : s.takesNamed) (n : Nat) (hnone : ∀ t ∈ s.takes, t.session ≠ n) :
    (s.setSessions (s.sessions.filter fun y => y.number ≠ n)).takesNamed := by
  obtain ⟨hnodup, hroom, hrefs, hsessions⟩ := h
  refine ⟨hnodup.sublist ((List.filter_sublist).map _), (List.length_filter_le ..).trans hroom, hrefs, fun t ht => ?_⟩
  obtain ⟨x, hx, hname, hcount⟩ := hsessions t ht
  exact ⟨x, List.mem_filter.mpr ⟨hx, by simpa [hname] using hnone t ht⟩, hname, hcount⟩

/-- Where the boards are the same, so are the sessions that have takes. -/
theorem State.session_of_board {s u : State} (hboard : u.board = s.board) (hu : u.takesNamed) {n : Nat}
    (hnone : ∀ t ∈ s.takes, t.session ≠ n) : ∀ t ∈ u.takes, t.session ≠ n := by
  intro t ht hn
  obtain ⟨-, -, hrefs, -⟩ := hu
  have hlook : s.board.look t.ref = some t.standing := hboard ▸ State.board_look (State.take?_of_mem hrefs ht)
  obtain ⟨t', ht', -⟩ := Option.map_eq_some_iff.mp hlook
  have hsession : t'.session = t.session := congrArg TakeRef.session (State.ref_of_take? ht')
  exact hnone t' (State.mem_of_take? ht') (hsession.trans hn)

theorem State.freeSession_dispatchInv {s : State} (hs : s.DispatchInv) (n : Nat) (hnone : ∀ t ∈ s.takes, t.session ≠ n) :
    (s.freeSession n).DispatchInv := by
  cases hx : s.session? n with
  | none => simpa only [State.freeSession, hx] using hs
  | some x =>
    have hfreeing : Reach (.storeFree :: freeingKinds) s (s.freeing x n) :=
      .trans (.one (.storeFree n) (by decide)) ((s.freeing_reach x n).mono (by decide))
    obtain ⟨hnamed, hboard⟩ := State.dispatchInv_iff.mp (hfreeing.dispatchInv (by decide) hs)
    refine (State.freeSession_reach_freeing hx).dispatchInv (by decide) (State.dispatchInv_iff.mpr ⟨?_, hboard⟩)
    exact hnamed.setSessions n (State.session_of_board (hfreeing.board (by decide)) hnamed hnone)

theorem State.freeIfDone_sound (s : State) (n : Nat) : Sound s (s.freeIfDone n) := by
  unfold State.freeIfDone
  split
  · refine .ite (fun hdone => ⟨s.freeSession_storeInv n, fun hs => State.freeSession_dispatchInv hs n fun t ht hn => ?_⟩)
      fun _ => .refl
    obtain ⟨-, hempty⟩ := hdone
    rw [State.takesOf, List.isEmpty_iff, List.filter_eq_nil_iff] at hempty
    exact hempty t ht (by simpa using hn)
  · exact .refl

theorem State.closeArmed_sound (s : State) (c : ChannelId) (n : Nat) (why : CloseReason) (last : Option Nat) :
    Sound s (s.closeArmed c n why last) := by
  have hclosed : Reach [.capture, .session] s ((s.modChannel c fun ch => { ch.off with assembler := [], lastFrame := last }).modSession n
      fun x => { x with phase := .closed, closeReason := some why, reserved := false, lastFrame := last }) :=
    .trans (.one (.capture _ _ (by rfl)) (by decide)) (State.modSession_reach _ (by exact fun _ => ⟨rfl, rfl, rfl⟩) (by decide))
  exact (hclosed.sound (by decide)).trans (State.freeIfDone_sound ..)

theorem State.completeSession_sound (s : State) (c : ChannelId) (n : Nat) : Sound s (s.completeSession c n) := by
  have hclosed (u : State) (e : Option Nat) : Reach [.ranges, .toggle, .notice, .session, .channelRun] u
      ((((u.closeOpenRanges n e).modSession n fun x => { x with phase := .closed }).raiseSession n .closed).modChannel c
        Channel.off) :=
    .trans (.trans (.trans ((u.closeOpenRanges_reach ..).mono (by decide))
      (State.modSession_reach _ (by exact fun _ => ⟨rfl, rfl, rfl⟩) (by decide))) (State.raiseSession_reach (hK := by decide) ..))
      (.one (.channelRun _ _ (by rfl)) (by decide))
  unfold State.completeSession
  exact .trans (.trans (.trans ((s.endGap_reach n).sound (by decide)) (State.closeFinalTake_sound ..))
    ((hclosed ..).sound (by decide))) (State.freeIfDone_sound ..)

/-! ### What follows at once -/

theorem State.settleChannel_sound (s : State) (c : ChannelId) : Sound s (s.settleChannel c) := by
  have hdrain (k : Nat) : Sound s (s.drainLost c k) := (s.drainLost_reach c k).sound (by decide)
  unfold State.settleChannel
  simp only
  split
  · exact .thenIf (hdrain _) fun _ => State.completeSession_sound ..
  · exact hdrain _

theorem State.settleOnce_sound (s : State) : Sound s s.settleOnce :=
  (((((Sound.foldl (fun s c => s.settleChannel_sound c) allChannels s : Sound s s.settleChannels).trans
    ((State.runReadbacks_reach _).sound (by decide))).trans ((State.runStations_reach _).sound (by decide))).trans
    ((State.runExport_reach _).sound (by decide))).trans ((State.transmit_reach _).sound (by decide))).trans
    ((State.runExport_reach _).sound (by decide))

theorem State.settleRounds_sound (s : State) (k : Nat) : Sound s (s.settleRounds k) := by
  induction k generalizing s with
  | zero => exact .refl
  | succ k ih =>
    rw [State.settleRounds_succ]
    exact .thenIf s.settleOnce_sound fun _ => ((State.decideGrant_reach _).sound (by decide)).trans (ih _)

theorem State.finish_sound (before s : State) : Sound s (State.finish before s) :=
  (State.finish_reach before s).sound (by decide)

theorem State.settleAll_sound (before s : State) : Sound s (State.settleAll before s) :=
  (s.settleRounds_sound _).trans (State.finish_sound ..)

end Sys2Proof.Machine
end

section
/-! SUPPORT. Both invariants over the operations of dispatch and of the stations. -/

namespace Sys2Proof.Machine

/-! ### The board, continued -/

theorem Board.stand_stand (b : Board) (r : TakeRef) (k j : Option TakeStanding) : (b.stand r k).stand r j = b.stand r j := by
  simp only [Board.stand, Function.update_idem]

/-- Which takes have yet to be placed matters, not in what order they are named. -/
theorem Board.SoundBut.congr {b : Board} {X Y : List TakeRef} (h : b.SoundBut X) (hXY : ∀ r, r ∈ Y ↔ r ∈ X) : b.SoundBut Y := by
  obtain ⟨hnodup, hqueue, hrest⟩ := h
  exact ⟨hnodup, fun r => by rw [hqueue r, hXY r], hrest⟩

/-- A take that has left queue and lists becomes QUEUED, and has yet to be placed in the queue. -/
theorem Board.SoundBut.without_queued {b : Board} (h : b.Sound) (r : TakeRef) (level : Nat) :
    ((b.without r).stand r (some ⟨.queued, none, level⟩)).SoundBut [r] := by
  have hidle : TakeStanding.idle ⟨.unqueued, none, level⟩ := ⟨nofun, fun hin => hin.elim nofun nofun, rfl⟩
  have hsound : ((b.without r).stand r (some ⟨.unqueued, none, level⟩)).Sound :=
    Board.SoundBut.without_stand h r fun j hj => Option.some.inj hj ▸ hidle
  have hqueued := hsound.enqueue (Board.stand_look_self ..) hidle
  rwa [Board.stand_stand] at hqueued

/-- The takes yet to be placed are placed at their class heads, one after another. -/
theorem State.placeAll_board (l : List TakeRef) {s : State} (h : s.board.SoundBut l) (hnodup : l.Nodup)
    (hqueued : ∀ r ∈ l, s.board.queued r) : (l.foldl (fun s r => s.atClassHead r) s).board.Sound := by
  induction l generalizing s with
  | nil => exact h
  | cons r l ih =>
    obtain ⟨hr, hl⟩ := List.nodup_cons.mp hnodup
    exact ih (State.atClassHead_board h (hqueued r (.head _)) hr) hl fun q hq => hqueued q (.tail _ hq)

/-- The takes of a list become QUEUED on the board. -/
theorem State.enqueueAll_board (l : List TakeRef) {s : State} (h : ∀ r ∈ l, s.board.look r ≠ none) :
    (l.foldl (fun s r => s.modTake r Take.enqueue) s).board =
      { s.board with look := fun q => if q ∈ l then (s.board.look q).map TakeStanding.requeue else s.board.look q } := by
  induction l generalizing s with
  | nil => simp
  | cons r l ih =>
    obtain ⟨t, ht, -⟩ := Option.map_eq_some_iff.mp (Option.ne_none_iff_exists'.mp (h r (.head _))).choose_spec
    have hone : (s.modTake r Take.enqueue).board = s.board.stand r (some t.standing.requeue) :=
      State.modTake_board ht (f := Take.enqueue) fun _ => rfl
    have hlook : s.board.look r = some t.standing := State.board_look ht
    rw [List.foldl_cons, ih, hone]
    · simp only [Board.stand, Board.mk.injEq, and_true]
      funext q
      by_cases hq : q = r
      · subst hq
        simp [hlook, TakeStanding.requeue]
      · simp [hq]
    · intro q hq
      rw [hone]
      by_cases hqr : q = r
      · subst hqr; simp [Board.stand_look_self]
      · rw [Board.stand_look_ne _ _ hqr]; exact h q (.tail _ hq)

/-- The list of a station given up: its takes are QUEUED, each class at its class head in list order (R118). -/
theorem State.reclaim_sound (s : State) (n : StationId) : Sound s (s.reclaim n) := by
  refine .of_dispatch (s.reclaim_reach n) (by decide) fun hs => ?_
  obtain ⟨hnamed, hboard⟩ := State.dispatchInv_iff.mp hs
  obtain ⟨-, -, -, hlisted, -⟩ := id hboard
  let refs := (s.stations.get n).takes
  let emptied := s.modStation n fun st => { st with takes := [] }
  let queued := refs.foldl (fun s r => s.modTake r Take.enqueue) emptied
  let placed := refs.reverse.foldl (fun s r => s.atClassHead r) queued
  have hemptied : emptied.board = { s.board with lists := Function.update s.board.lists n [] } := by
    have hlists : (fun m => (emptied.stations.get m).takes) = Function.update s.board.lists n [] := by
      funext m
      by_cases hm : m = n
      · subst hm; rw [State.modStation_get_self, Function.update_self]
      · rw [State.modStation_get_ne s _ hm, Function.update_of_ne hm]; rfl
    exact congrArg (fun l => (⟨_, _, l⟩ : Board)) hlists
  have hinTable (r : TakeRef) (hr : r ∈ refs) : ∃ k, s.board.look r = some k :=
    ((hlisted n).2 r).mp hr |>.imp fun k hk => hk.1
  have hqueued : queued.board = { look := fun q => if q ∈ refs then (s.board.look q).map TakeStanding.requeue else s.board.look q
                                  queue := s.board.queue, lists := Function.update s.board.lists n [] } := by
    have hall := State.enqueueAll_board refs (s := emptied) fun r hr => by
      obtain ⟨k, hk⟩ := hinTable r hr
      rw [hemptied]
      exact fun hnone => nomatch hk.symm.trans hnone
    rw [hemptied] at hall
    exact hall
  have hgiven : queued.board.SoundBut refs := hqueued ▸ Board.SoundBut.giveUp hboard n
  have hplaced : placed.board.Sound := by
    refine State.placeAll_board refs.reverse (hgiven.congr fun r => List.mem_reverse) (List.nodup_reverse.mpr (hlisted n).1) ?_
    intro r hr
    have hr := List.mem_reverse.mp hr
    obtain ⟨k, hk⟩ := hinTable r hr
    exact ⟨k.requeue, by rw [hqueued]; simp only [if_pos hr, hk, Option.map_some], rfl⟩
  have hplacedNamed : placed.takesNamed := by
    have hreach : Reach dispatchKinds s placed :=
      .trans (.trans (.one (.list n _ (by rfl)) (by decide)) (Reach.foldl (fun s r => s.enqueue_reach (hK := by decide) r) _ _))
        (Reach.foldl (fun s r => s.atClassHead_reach (hK := by decide) r) _ _)
    exact hreach.takesNamed (by decide) hnamed
  have hrest : Reach [.notice, .orphan, .port] placed
      (if refs.isEmpty then refs.foldl (fun s r => s.raiseTake r .dispatch) placed
        else ((refs.foldl (fun s r => s.raiseTake r .dispatch) placed).newCurrent n).setStatus n .removed none) := by
    have hraised : Reach [.notice, .orphan, .port] placed (refs.foldl (fun s r => s.raiseTake r .dispatch) placed) :=
      Reach.foldl (fun s r => s.raiseTake_reach (hK := by decide) r _) _ _
    exact .unless hraised fun _ => ((State.newCurrent_reach _ n).trans (State.setStatus_reach ..)).mono (by decide)
  exact (State.matchingPass_sound _).2 (hrest.dispatchInv (by decide) (State.dispatchInv_iff.mpr ⟨hplacedNamed, hplaced⟩))

/-! ### The current take of a station -/

/-- The take at the head of a station's list is in the table, and stands in that list. -/
theorem State.DispatchInv.of_current {s : State} (hs : s.DispatchInv) {n : StationId} {t : Take} {x : Session}
    (h : s.currentOf n = some (t, x)) : s.take? t.ref = some t ∧ t.inList ∧ t.station = some n := by
  obtain ⟨-, -, -, -, hlisted, -⟩ := State.dispatchInv_iff.mp hs
  unfold State.currentOf at h
  split at h
  · next r hl =>
    split at h
    · next t' _ ht _ =>
      obtain ⟨rfl, -⟩ := Prod.mk.inj (Option.some.inj h)
      have hmem : r ∈ s.board.lists n := List.mem_of_mem_head? hl
      obtain ⟨k, hk, hin, hn⟩ := ((hlisted n).2 r).mp hmem
      rw [State.board_look ht] at hk
      obtain rfl := Option.some.inj hk
      exact ⟨(State.ref_of_take? ht).symm ▸ ht, hin, hn⟩
    · exact nomatch h
  · exact nomatch h

/-- Leaving the list of the station a take stands in, the board loses the take. -/
theorem State.leaveList_without {s : State} (hs : s.board.Sound) {t : Take} (ht : s.take? t.ref = some t) (hin : t.inList)
    {n : StationId} (hn : t.station = some n) : (s.leaveList n t.ref).board = s.board.without t.ref := by
  rw [State.leaveList_board]
  exact (Board.SoundBut.without_listed hs (State.board_look ht) hin hn).symm

/-! ### The keys of a port -/

theorem State.typeTake_sound {s : State} {n : StationId} {t : Take}
    (h : s.DispatchInv → s.take? t.ref = some t ∧ t.inList ∧ t.station = some n) : Sound s (s.typeTake n t) := by
  have htyped : Reach dispatchKinds s (((s.modTake t.ref fun t => { t with dispatch := .typed, station := none }).leaveList n
      t.ref)) := .trans (.one (.takeDispatch _ _ (by exact fun _ => rfl)) (by decide)) ((State.leaveList_reach ..).mono (by decide))
  have hleft : Sound s ((s.modTake t.ref fun t => { t with dispatch := .typed, station := none }).leaveList n t.ref) := by
    refine .of_dispatch htyped (by decide) fun hs => ?_
    obtain ⟨ht, hin, hn⟩ := h hs
    obtain ⟨hnamed, hboard⟩ := State.dispatchInv_iff.mp hs
    refine State.dispatchInv_iff.mpr ⟨htyped.takesNamed (by decide) hnamed, ?_⟩
    rw [State.leaveList_board, State.modTake_board ht (by exact fun _ => rfl)]
    have hwithout := Board.SoundBut.without_listed hboard (State.board_look ht) hin hn
    have hsound := Board.SoundBut.without_stand hboard t.ref (k := some ⟨.typed, none, t.takeClass.code⟩) fun j hj => by
      obtain rfl := Option.some.inj hj
      exact ⟨nofun, fun hin => hin.elim nofun nofun, rfl⟩
    rw [hwithout] at hsound
    exact hsound
  exact ((hleft.trans ((State.setStatus_reach _ n .typed none).sound (by decide))).trans
    ((State.raiseTake_reach (K := [.notice]) _ _ _ (by decide)).sound (by decide))).trans (State.passIfWanting_sound ..)

theorem State.doneKey_sound (s : State) (n : StationId) : Sound s (s.doneKey n) := by
  have hstatus (e : StationStatus) : Sound s (s.setStatus n e none) := (s.setStatus_reach ..).sound (by decide)
  unfold State.doneKey
  split
  · exact hstatus _
  · next hcurrent =>
    exact .ite (fun _ => hstatus _) fun _ => .ite (fun _ => hstatus _) fun _ => State.typeTake_sound fun hs => hs.of_current hcurrent

/-- A take given back, before it is queued or held. -/
def State.returned (s : State) (n : StationId) (t : Take) : State :=
  (s.leaveList n t.ref).modTake t.ref fun u => { u with returns := min 3 (t.returns + 1), excluded := some n }

theorem State.returned_reach (s : State) (n : StationId) (t : Take) :
    Reach (.takeReturn :: dispatchKinds) s (s.returned n t) :=
  .trans ((s.leaveList_reach ..).mono (by decide)) (.one (.takeReturn _ _ fun _ => rfl) (by decide))

/-- Once given back the take is in no list; its record is yet to say so. -/
theorem State.returned_spec {s : State} (hs : s.DispatchInv) {n : StationId} {t : Take} (ht : s.take? t.ref = some t)
    (hin : t.inList) (hn : t.station = some n) : (s.returned n t).takesNamed
      ∧ (s.returned n t).board = (s.board.without t.ref).stand t.ref (some t.standing)
      ∧ ∃ u, (s.returned n t).take? t.ref = some u ∧ u.takeClass = t.takeClass := by
  obtain ⟨hnamed, hboard⟩ := State.dispatchInv_iff.mp hs
  have htake : (s.leaveList n t.ref).take? t.ref = some t :=
    (State.take?_congr ((s.leaveList_reach n t.ref).takes (by decide)) _).trans ht
  refine ⟨(s.returned_reach n t).takesNamed (by decide) hnamed, ?_, _, State.take?_modTake htake fun _ => rfl, rfl⟩
  unfold State.returned
  rw [State.modTake_board htake (by exact fun _ => rfl), State.leaveList_without hboard ht hin hn]
  rfl

theorem State.returnTake_sound {s : State} {n : StationId} {t : Take}
    (h : s.DispatchInv → s.take? t.ref = some t ∧ t.inList ∧ t.station = some n) : Sound s (s.returnTake n t) := by
  have hhead : Sound s ((s.returned n t).queueHead t.ref) := by
    refine .of_dispatch ((s.returned_reach n t).trans ((State.queueHead_reach ..).mono (by decide))) (by decide) fun hs => ?_
    obtain ⟨ht, hin, hn⟩ := h hs
    obtain ⟨hnamed, hboard, u, hu, hclass⟩ := State.returned_spec hs ht hin hn
    obtain ⟨-, hsound⟩ := State.dispatchInv_iff.mp hs
    refine State.dispatchInv_iff.mpr ⟨(State.queueHead_reach _ t.ref).takesNamed (by decide) hnamed, ?_⟩
    unfold State.queueHead
    rw [State.raiseTake_board]
    have hqueued : ((s.returned n t).modTake t.ref Take.enqueue).board
        = (s.board.without t.ref).stand t.ref (some ⟨.queued, none, u.takeClass.code⟩) := by
      rw [State.modTake_board hu (f := Take.enqueue) fun _ => rfl, hboard, Board.stand_stand]
      rfl
    exact State.atClassHead_board (hqueued ▸ Board.SoundBut.without_queued hsound t.ref _) (hqueued ▸ ⟨_, Board.stand_look_self .., rfl⟩) (by simp)
  have hheld : Sound s ((s.returned n t).modTake t.ref fun t => { t with dispatch := .held, station := none }) := by
    have hreach : Reach (.takeReturn :: dispatchKinds) s
        ((s.returned n t).modTake t.ref fun t => { t with dispatch := .held, station := none }) :=
      (s.returned_reach n t).trans (.one (.takeDispatch _ _ (by exact fun _ => rfl)) (by decide))
    refine .of_dispatch hreach (by decide) fun hs => ?_
    obtain ⟨ht, hin, hn⟩ := h hs
    obtain ⟨-, hboard, u, hu, -⟩ := State.returned_spec hs ht hin hn
    obtain ⟨hnamed, hsound⟩ := State.dispatchInv_iff.mp hs
    refine State.dispatchInv_iff.mpr ⟨hreach.takesNamed (by decide) hnamed, ?_⟩
    rw [State.modTake_board hu (by exact fun _ => rfl), hboard, Board.stand_stand]
    exact Board.SoundBut.without_stand hsound t.ref fun j hj => by
      obtain rfl := Option.some.inj hj
      exact ⟨nofun, fun hin => hin.elim nofun nofun, rfl⟩
  have hstatus (u : State) (e : StationStatus) : Sound u (u.setStatus n e none) := (u.setStatus_reach ..).sound (by decide)
  unfold State.returnTake
  exact .ite (fun _ => (hhead.trans (hstatus ..)).trans (State.matchingPass_sound _)) fun _ => ((hheld.trans
    ((State.raiseTake_reach (K := [.notice]) _ _ _ (by decide)).sound (by decide))).trans (hstatus ..)).trans
    (State.passIfWanting_sound ..)

theorem State.returnKey_sound (s : State) (n : StationId) : Sound s (s.returnKey n) := by
  unfold State.returnKey
  split
  · exact (s.setStatus_reach ..).sound (by decide)
  · next hcurrent => exact State.returnTake_sound fun hs => hs.of_current hcurrent

theorem State.readyKey_sound (s : State) (n : StationId) : Sound s (s.readyKey n) := by
  have hset : Reach [.signal, .notice] s ((s.modStation n fun st => { st with accepting := !st.accepting }).raiseStation n
      .accepting none none) := .trans (State.modSignal_reach (by rfl) (by rfl) (by rfl) (by rfl) (by decide))
    (State.raiseStation_reach (hK := by decide) ..)
  exact (hset.sound (by decide)).trans (State.passIfWanting_sound ..)

/-- The first PLAY of an ASSIGNED current take makes it IN_WORK, where it stands. -/
theorem State.startWork_sound {s : State} {t : Take} (h : s.DispatchInv → s.take? t.ref = some t) : Sound s (s.startWork t) := by
  refine .of_dispatch (s.startWork_reach (K := [.notice, .takeDispatch]) t (by decide)) (by decide) fun hs => ?_
  unfold State.startWork
  split
  · next hassigned =>
    have hwork : Reach [.takeDispatch] s (s.modTake t.ref fun t => { t with dispatch := .inWork }) :=
      .one (.takeDispatch _ _ (by exact fun _ => rfl)) (by decide)
    obtain ⟨hnamed, hboard⟩ := State.dispatchInv_iff.mp hs
    refine (State.raiseTake_reach (K := [.notice]) _ _ _ (by decide)).dispatchInv (by decide)
      (State.dispatchInv_iff.mpr ⟨hwork.takesNamed (by decide) hnamed, ?_⟩)
    rw [State.modTake_board (h hs) (by exact fun _ => rfl)]
    refine Board.SoundBut.restand hboard (State.board_look (h hs)) ?_ nofun ?_ rfl
    · rw [show t.standing.dispatch = .assigned from hassigned]; exact nofun
    · exact iff_of_true (.inr rfl) (.inl hassigned)
  · exact hs

theorem State.pedalActs_sound {s : State} {n : StationId} {t : Take} (h : s.DispatchInv → s.take? t.ref = some t)
    (governs starts : Bool) : Sound s (s.pedalActs n t governs starts) := by
  have hstart : Sound s (if starts then s.startWork t else s) := .ite (fun _ => State.startWork_sound h) fun _ => .refl
  unfold State.pedalActs
  exact .ite (fun _ => hstart) fun _ => hstart.trans ((State.applyPedals_reach _ n).sound (by decide))

theorem State.pedalEvent_sound (s : State) (n : StationId) (p : Pedal) (press : Bool) : Sound s (s.pedalEvent n p press) := by
  have hpedals : Sound s (s.modStation n fun st => { st with pedals := heldAfter (s.stations.get n).pedals p press }) :=
    (State.modSignal_reach (K := [.signal]) rfl rfl rfl rfl (by decide)).sound (by decide)
  have hstatus (u : State) : Sound u (u.setStatus n .none none) := (u.setStatus_reach ..).sound (by decide)
  have hturn (u : State) (governs starts : Bool) :
      Sound u (match u.currentOf n with | some (t, _) => u.pedalActs n t governs starts | none => u) := by
    split
    · next hcurrent => exact State.pedalActs_sound (fun hu => (State.DispatchInv.of_current hu hcurrent).1) ..
    · exact .refl
  unfold State.pedalEvent
  exact .ite (fun _ => (Sound.thenIf hpedals fun _ => hstatus _).trans (hturn ..)) fun _ => hpedals

/-! ### The link state of a port, and its configuration -/

theorem State.expireReclaim_sound (s : State) (n : StationId) : Sound s (s.expireReclaim n) := by
  have hrest (u : State) (k : Nat) : Reach [.signal, .notice] u ((u.modStation n fun st =>
      { st with reclaimTimer := none, link := .absent }).raiseStation n .absent none (some k)) :=
    .trans (State.modSignal_reach (by rfl) (by rfl) (by rfl) (by rfl) (by decide)) (State.raiseStation_reach (hK := by decide) ..)
  exact (s.reclaim_sound n).trans ((hrest ..).sound (by decide))

theorem State.stopAccepting_signal (s : State) (n : StationId) : Reach signalKinds s (s.stopAccepting n) :=
  .onlyIf fun _ => .trans (State.modSignal_reach (by rfl) (by rfl) (by rfl) (by rfl) (by decide))
    (State.raiseStation_reach (hK := by decide) ..)

theorem State.loseStation_sound (s : State) (n : StationId) : Sound s (s.loseStation n) := by
  have hstop (u : State) : Sound u (u.stopByPart n) := (u.stopByPart_reach n).sound (by decide)
  have hempty (u : State) : Sound u (u.emptyPlayout n) := (u.emptyPlayout_reach n).sound (by decide)
  have haccept (u : State) : Sound u (u.stopAccepting n) := (u.stopAccepting_signal n).sound (by decide)
  have hlost : Sound s (s.modStation n fun st =>
      { st with link := .lost, silenceTimer := some 1000, reclaimTimer := some 0, pedals := [] }) :=
    (State.modSignal_reach (K := [.signal]) rfl rfl rfl rfl (by decide)).sound (by decide)
  unfold State.loseStation
  simp only
  refine .thenIf (.trans (.trans ?_ (hempty _)) ((State.raiseStation_reach (K := [.notice]) (hK := by decide) ..).sound (by decide)))
    fun _ => State.expireReclaim_sound ..
  exact .ite (fun _ => hlost.trans (haccept _)) fun _ => (hlost.trans (haccept _)).trans (hstop _)

theorem State.disableStation_sound (s : State) (n : StationId) : Sound s (s.disableStation n) := by
  have hrest (u : State) : Reach signalKinds u ((((u.modStation n fun st => { st with pedals := [], audioWaiting := none }).setTransport
      n .stopped).emptyPlayout n).raiseStation n .disabled none none) :=
    .trans (.trans (.trans (State.modSignal_reach (by rfl) (by rfl) (by rfl) (by rfl) (by decide))
      ((State.setTransport_reach ..).mono (by decide))) ((State.emptyPlayout_reach ..).mono (by decide)))
      (State.raiseStation_reach (hK := by decide) ..)
  exact (s.reclaim_sound n).trans ((hrest _).sound (by decide))

theorem State.configureStation_sound (s : State) (n : StationId) (cfg : StationConfig) : Sound s (s.configureStation n cfg) := by
  have hset : Sound s (s.modStation n fun st => { st with config := cfg }) :=
    (Reach.one (K := [.stationConfig]) (.stationConfig n cfg) (by decide)).sound (by decide)
  have hraise (u : State) : Sound u (u.raiseStation n .enabled none none) :=
    (State.raiseStation_reach (K := [.notice]) (hK := by decide) ..).sound (by decide)
  unfold State.configureStation
  exact .trans (.thenIf (.thenIf (.thenIf hset fun _ => State.disableStation_sound ..) fun _ => hraise _) fun _ =>
    State.expireReclaim_sound ..) (State.matchingPass_sound _)

end Sys2Proof.Machine
end

section
/-! SUPPORT. Both invariants over every command and every step. -/

namespace Sys2Proof.Machine

/-! ### Outcomes -/

theorem Calm.sound {i : Instr} {s t : State} (h : Calm (quietOf i) s t) : Sound s t := by
  have hquiet : ∀ k ∈ quietOf i, k ∉ busyKinds := by
    intro k hk
    have hconfig : ∀ k ∈ [Kind.channelConfig, .stationConfig, .threshold, .lowMark, .mask], k ∉ busyKinds := by decide
    have hrest : ∀ k ∈ quietKinds, k ∉ busyKinds := by decide
    rcases List.mem_append.mp hk with hk | hk
    · refine hconfig k ?_
      unfold configKinds at hk
      split at hk <;> simp_all
    · exact hrest k hk
  rcases h with h | ⟨u, h, rfl⟩
  · exact h.sound hquiet
  · exact (h.sound hquiet).trans (State.settleAll_sound ..)

theorem State.performRequest_sound {i : Instr} {f : State → State × Answer} (s : State) (hf : ∀ u, Sound u (f u).1) :
    Sound s (s.performRequest i f) := by
  have hwith (r : Request) : Sound s (s.withRequest r) := by
    unfold State.withRequest
    split
    · exact .refl
    · exact (State.modLink_reach (K := [.link]) rfl rfl rfl rfl rfl (by decide)).sound (by decide)
  have hreply (u : State) (r : Reply) : Sound u (u.recordReply r) := (u.recordReply_reach r).sound (by decide)
  unfold State.performRequest
  split
  · split
    · simp only
      exact .ite (fun _ => (hwith _).trans (hreply ..)) fun _ => (hwith _).trans ((hf _).trans (hreply ..))
    · exact .refl
  · exact .refl

theorem State.request_sound {s : State} {i : Instr} {f : State → State × Answer} (hf : ∀ u, Sound u (f u).1) :
    Ends (Sound s) (s.request i f) := .next ((s.performRequest_sound hf).trans (State.finish_sound ..))

theorem State.requestMoving_sound {s : State} {i : Instr} {f : State → State × Answer} (hf : ∀ u, Sound u (f u).1) :
    Ends (Sound s) (s.requestMoving i f) := .next ((s.performRequest_sound hf).trans (State.settleAll_sound ..))

theorem Sound.finished {s u : State} (h : Sound s u) : Ends (Sound s) (.next (State.finish s u)) :=
  .next (h.trans (State.finish_sound ..))

theorem Sound.settled {s u : State} (h : Sound s u) : Ends (Sound s) (.next (State.settleAll s u)) :=
  .next (h.trans (State.settleAll_sound ..))

/-! ### Requests -/

theorem Store.openChain_chained (st : Store) (n : Nat) : (st.openChain n).chained = st.chained := by
  simp [Store.chained, Store.openChain]

/-- The names of sessions stay distinct and within the table when one with a number not in use is added. -/
theorem State.numbers_append {s : State} {n : Nat} (hnodup : (s.sessions.map (·.number)).Nodup) (hfree : s.session? n = none) :
    (s.sessions.map (·.number) ++ [n]).Nodup := by
  refine hnodup.append (List.nodup_singleton n) fun m hm hn => ?_
  obtain rfl := List.mem_singleton.mp hn
  obtain ⟨x, hx, hname⟩ := List.mem_map.mp hm
  exact List.find?_eq_none.mp hfree x hx (by simpa using hname)

/-- A session opened has a number not in use, an empty chain, and room in the table. -/
theorem State.openSession_sound (s : State) (c : ChannelId) (r : OpenSessionReq) (hroom : s.sessions.length < Config.sessionEntries) :
    Sound s (s.openSession c r).1 := by
  obtain ⟨hfree, -⟩ := State.issueSession_spec (Nat.le_of_lt hroom)
  have hlength : (s.openSession c r).1.sessions.length ≤ Config.sessionEntries := by
    simp only [State.openSession, State.modChannel_sessions, State.modStore_sessions, List.length_append, List.length_singleton]
    exact hroom
  refine ⟨fun hs => ?_, fun hs => ?_⟩
  · obtain ⟨hwf, hpart, howners, hnodup, -⟩ := hs
    refine ⟨hwf, ?_, ?_, ?_, hlength⟩
    · unfold Store.partitioned
      rw [show (s.openSession c r).1.store = s.store.openChain s.issueSession from rfl, Store.openChain_chained]
      exact hpart
    · rw [s.openSession_numbers c r, ← howners]
      exact List.map_append
    · rw [s.openSession_numbers c r]
      exact State.numbers_append hnodup hfree
  · obtain ⟨hnamed, hboard⟩ := State.dispatchInv_iff.mp hs
    obtain ⟨hnodup, -, hrefs, hsessions⟩ := hnamed
    refine State.dispatchInv_iff.mpr ⟨⟨?_, hlength, hrefs, fun t ht => ?_⟩, hboard⟩
    · rw [s.openSession_numbers c r]
      exact State.numbers_append hnodup hfree
    · obtain ⟨x, hx, hname⟩ := hsessions t ht
      exact ⟨x, List.mem_append_left _ hx, hname⟩

theorem execOpenSession_sound (tag : Byte) (r : OpenSessionReq) (s : State) : Ends (Sound s) (execOpenSession tag r s) := by
  refine State.request_sound fun u => ?_
  split
  · exact .refl
  · split
    · exact .refl
    · split
      · exact .refl
      · next hroom =>
        split
        · exact .refl
        · exact u.openSession_sound _ _ (Nat.lt_of_not_le hroom)

theorem State.stopTaking_sound (s : State) (c : ChannelId) (n : Nat) (why : CloseReason) : Sound s (s.stopTaking c n why) :=
  (s.stopTaking_reach ..).sound (by decide)

theorem State.closeSession_sound (s : State) (x : Session) : Sound s (s.closeSession x).1 := by
  unfold State.closeSession
  split
  · exact s.closeArmed_sound ..
  · exact s.stopTaking_sound ..
  · exact .refl
  · exact .refl

theorem execCloseSession_sound (tag : Byte) (n : Nat) (s : State) : Ends (Sound s) (execCloseSession tag n s) := by
  refine State.requestMoving_sound fun u => ?_
  split
  · exact .refl
  · exact u.closeSession_sound _

theorem State.cutNow_sound (s : State) (x : Session) (t : Take) : Sound s (s.cutNow x t).1 := by
  have hset : Sound s (s.modSession x.number fun y => { y with forcedPending := true }) :=
    (Reach.one (K := [.session]) (.session _ _ (by exact fun _ => ⟨rfl, rfl, rfl⟩)) (by decide)).sound (by decide)
  unfold State.cutNow
  split
  · exact .refl
  · split
    · exact hset
    · split
      · exact .refl
      · split
        · exact .refl
        · exact s.makeCut_sound ..

theorem execCutNow_sound (tag : Byte) (n : Nat) (s : State) : Ends (Sound s) (execCutNow tag n s) := by
  refine State.requestMoving_sound fun u => ?_
  split
  · exact .refl
  · split
    · exact .refl
    · exact u.cutNow_sound ..

/-- A take no station holds, released, leaves the queue as one withdrawn does. -/
theorem State.withdraw_of_not_inList (s : State) {t : Take} (h : ¬ t.inList) :
    (if t.dispatch = .queued then s.dequeue t.ref else s) = s.withdraw t := by
  unfold State.withdraw
  cases hd : t.dispatch with
  | assigned => exact absurd (.inl hd) h
  | inWork => exact absurd (.inr hd) h
  | queued | unqueued | typed | held => simp

theorem State.releaseTake_sound {s : State} {t : Take} (ht : s.take? t.ref = some t) (hin : ¬ t.inList) :
    Sound s (s.releaseTake t).1 := by
  have hraise (u : State) : Reach [.notice] u (u.raiseTake t.ref .released) := u.raiseTake_reach _ _ (by decide)
  have hdrop : Sound s (((s.withdraw t).raiseTake t.ref .released).dropTake t.ref) := by
    refine .of_dispatch (K := [.orphan, .port, .list, .queue, .notice, .takeTable])
      (.trans (((s.withdraw_reach t).mono (by decide)).trans ((hraise _).mono (by decide))) (.one (.takeTable _) (by decide)))
      (by decide) fun hs => ?_
    obtain ⟨hnamed, hboard⟩ := State.dispatchInv_iff.mp hs
    have hraised : Reach [.orphan, .port, .list, .queue, .notice] s ((s.withdraw t).raiseTake t.ref .released) :=
      ((s.withdraw_reach t).mono (by decide)).trans ((hraise _).mono (by decide))
    refine State.dispatchInv_iff.mpr ⟨(hraised.takesNamed (by decide) hnamed).dropTake t.ref, ?_⟩
    rw [State.dropTake_board, State.raiseTake_board, State.withdraw_board hboard ht]
    exact Board.SoundBut.without_stand hboard t.ref fun _ h => nomatch h
  unfold State.releaseTake
  simp only
  rw [State.withdraw_of_not_inList s hin]
  exact (hdrop.trans ((State.recomputeTrim_reach ..).sound (by decide))).trans (State.freeIfDone_sound ..)

theorem execReleaseTake_sound (tag : Byte) (n k : Nat) (s : State) : Ends (Sound s) (execReleaseTake tag n k s) := by
  refine State.requestMoving_sound fun u => ?_
  split
  · exact .refl
  · next t ht =>
    have href : u.take? t.ref = some t := (State.ref_of_take? ht).symm ▸ ht
    have hrelease (hd : t.dispatch ≠ .assigned ∧ t.dispatch ≠ .inWork) : Sound u (u.releaseTake t).1 :=
      State.releaseTake_sound href fun hin => hin.elim hd.1 hd.2
    split
    · exact .refl
    · split
      · exact .refl
      · exact .refl
      all_goals next hd => exact hrelease (by rw [hd]; decide)

/-! ### Requests of dispatch -/

/-- A dispatch request is sound when its rule is for the take it names. -/
theorem State.onTake_sound {s : State} {i : Instr} {n k : Nat} {f : State → Take → State × Answer}
    (hf : ∀ u t, u.take? t.ref = some t → Sound u (f u t).1) : Ends (Sound s) (s.request i fun u => u.onTake n k (f u)) := by
  refine State.request_sound fun u => ?_
  unfold State.onTake
  split
  · exact .refl
  · next t ht => exact hf u t ((State.ref_of_take? ht).symm ▸ ht)

theorem execQueueTake_sound (tag : Byte) (n k : Nat) (s : State) : Ends (Sound s) (execQueueTake tag n k s) := by
  refine State.onTake_sound fun u t ht => ?_
  split
  · next hd => exact State.handOver_sound fun _ => ⟨t, ht, .inl hd⟩
  · next hd => exact State.handOver_sound fun _ => ⟨t, ht, .inr (.inl hd)⟩
  all_goals exact .refl

/-- A take given another class, its place in the queue with it. -/
def State.reclassed (s : State) (t : Take) (k : TakeClass) : State :=
  if t.dispatch = .queued then ((s.modTake t.ref fun t => { t with takeClass := k }).dequeue t.ref).atClassTail t.ref
  else s.modTake t.ref fun t => { t with takeClass := k }

theorem State.reclassed_reach (s : State) (t : Take) (k : TakeClass) : Reach [.takeClass, .queue] s (s.reclassed t k) := by
  have hclass : Reach [.takeClass, .queue] s (s.modTake t.ref fun t => { t with takeClass := k }) := .one (.takeClass ..) (by decide)
  exact .ite (fun _ => (hclass.trans (State.dequeue_reach _ _ (by decide))).trans (State.atClassTail_reach _ _ (by decide)))
    fun _ => hclass

theorem State.reclassed_board {s : State} {t : Take} (ht : s.take? t.ref = some t) (k : TakeClass) (hs : s.board.Sound) :
    (s.reclassed t k).board.Sound := by
  have hmod : (s.modTake t.ref fun t => { t with takeClass := k }).board
      = s.board.stand t.ref (some { t.standing with level := k.code }) := State.modTake_board ht fun _ => rfl
  have hlook := State.board_look ht
  unfold State.reclassed
  split
  · next hqueued =>
    have hlist : ¬ t.standing.inList := by
      rintro (hin | hin) <;> rw [show t.standing.dispatch = .queued from hqueued] at hin <;> exact nomatch hin
    have hstation : t.standing.station = none := by
      obtain ⟨-, -, -, -, hstation⟩ := id hs
      exact Classical.not_not.mp fun hne => hlist ((hstation _ _ hlook).mpr hne)
    have hout := Board.SoundBut.without_queued hs t.ref k.code
    rw [Board.without_of_not_listed (Board.SoundBut.not_listed hs hlook hlist)] at hout
    have hdequeued : ((s.modTake t.ref fun t => { t with takeClass := k }).dequeue t.ref).board
        = ({ s.board with queue := s.board.queue.filter fun q => q ≠ t.ref } : Board).stand t.ref
          (some ⟨.queued, none, k.code⟩) := by
      rw [State.dequeue_board, hmod, show ({ t.standing with level := k.code } : TakeStanding) = ⟨.queued, none, k.code⟩ from
        TakeStanding.mk.injEq .. |>.mpr ⟨hqueued, hstation, rfl⟩]
      rfl
    exact State.atClassTail_board (hdequeued ▸ hout) (hdequeued ▸ ⟨_, Board.stand_look_self .., rfl⟩) (by simp)
  · next hqueued =>
    rw [hmod]
    exact Board.SoundBut.restand hs hlook hqueued hqueued .rfl rfl

theorem State.setClass_sound {s : State} {t : Take} (ht : s.take? t.ref = some t) (k : TakeClass) : Sound s (s.setClass t k) := by
  have hplaced : Sound s (s.reclassed t k) := by
    refine .of_dispatch (s.reclassed_reach t k) (by decide) fun hs => ?_
    obtain ⟨hnamed, hboard⟩ := State.dispatchInv_iff.mp hs
    exact State.dispatchInv_iff.mpr ⟨(s.reclassed_reach t k).takesNamed (by decide) hnamed, State.reclassed_board ht k hboard⟩
  unfold State.setClass
  exact .ite (fun _ => .refl) fun _ => (hplaced.trans ((State.raiseTake_reach (K := [.notice]) _ _ _ (by decide)).sound (by decide))).trans
    (State.matchingPass_sound _)

theorem State.recall_sound {s : State} {t : Take} (ht : s.take? t.ref = some t) : Sound s (s.recall t) := by
  have hreach : Reach [.orphan, .port, .list, .queue, .takeDispatch] s
      ((s.withdraw t).modTake t.ref fun t => { t with dispatch := .unqueued, station := none }) :=
    ((s.withdraw_reach t).mono (by decide)).trans (.one (.takeDispatch _ _ (by exact fun _ => rfl)) (by decide))
  have hfree : Sound s ((s.withdraw t).modTake t.ref fun t => { t with dispatch := .unqueued, station := none }) := by
    refine .of_dispatch hreach (by decide) fun hs => ?_
    obtain ⟨hnamed, hboard⟩ := State.dispatchInv_iff.mp hs
    have htake : (s.withdraw t).take? t.ref = some t :=
      (State.take?_congr ((s.withdraw_reach t).takes (by decide)) _).trans ht
    refine State.dispatchInv_iff.mpr ⟨hreach.takesNamed (by decide) hnamed, ?_⟩
    rw [State.modTake_board htake (by exact fun _ => rfl), State.withdraw_board hboard ht]
    exact Board.SoundBut.without_stand hboard t.ref fun j hj => by
      obtain rfl := Option.some.inj hj
      exact ⟨nofun, fun hin => hin.elim nofun nofun, rfl⟩
  exact (hfree.trans ((State.raiseTake_reach (K := [.notice]) _ _ _ (by decide)).sound (by decide))).trans
    (State.passAfter_sound ..)

theorem execRecallTake_sound (tag : Byte) (n k : Nat) (s : State) : Ends (Sound s) (execRecallTake tag n k s) := by
  refine State.onTake_sound fun u t ht => ?_
  split
  · exact .refl
  all_goals exact State.recall_sound ht

theorem State.assignTo_sound {s : State} {t : Take} (ht : s.take? t.ref = some t) (n : StationId) :
    Sound s (s.assignTo t n).1 := by
  unfold State.assignTo
  simp only
  split
  · exact .refl
  · next hlist =>
    split
    · exact .refl
    · split
      · exact .refl
      · exact .of_dispatch (s.assign_reach t.ref n) (by decide) fun hs => State.assign_dispatchInv hs ht hlist n

theorem execAssignTake_sound (tag : Byte) (n k station : Nat) (s : State) : Ends (Sound s) (execAssignTake tag n k station s) := by
  refine State.onTake_sound fun u t ht => ?_
  split
  · exact .refl
  · exact State.assignTo_sound ht _

theorem State.clearHold_sound {s : State} {t : Take} (ht : s.take? t.ref = some t) (hheld : t.dispatch = .held) :
    Sound s (s.clearHold t.ref) := by
  have hclean : Reach [.takeReturn] s (s.modTake t.ref fun t => { t with returns := 0 }) := .one (.takeReturn _ _ fun _ => rfl) (by decide)
  have hqueued : Sound s ((s.modTake t.ref fun t => { t with returns := 0 }).queueHead t.ref) := by
    refine .of_dispatch (K := .takeReturn :: dispatchKinds) ((hclean.mono (by decide)).trans ((State.queueHead_reach ..).mono
      (by decide))) (by decide) fun hs => ?_
    obtain ⟨hnamed, hboard⟩ := State.dispatchInv_iff.mp hs
    have htake : (s.modTake t.ref fun t => { t with returns := 0 }).take? t.ref = some { t with returns := 0 } :=
      State.take?_modTake ht fun _ => rfl
    have hstanding : s.board.stand t.ref (some t.standing) = s.board := by
      rw [Board.stand, ← State.board_look ht, Function.update_eq_self]
    have hsame : (s.modTake t.ref fun t => { t with returns := 0 }).board = s.board := by
      rw [State.modTake_board ht (by exact fun _ => rfl)]
      exact hstanding
    refine State.dispatchInv_iff.mpr ⟨(State.queueHead_reach _ t.ref).takesNamed (by decide) (hclean.takesNamed (by decide) hnamed), ?_⟩
    refine State.queueHead_board (hsame ▸ hboard) htake ?_
    exact State.DispatchInv.standing_idle (t := t) hs ht (.inr (.inr hheld))
  exact hqueued.trans (State.matchingPass_sound _)

theorem execClearHold_sound (tag : Byte) (n k : Nat) (s : State) : Ends (Sound s) (execClearHold tag n k s) := by
  refine State.onTake_sound fun u t ht => ?_
  split
  · next hheld => exact State.clearHold_sound ht hheld
  · exact .refl

theorem execConfigureStation_sound (tag : Byte) (r : ConfigureStationReq) (s : State) :
    Ends (Sound s) (execConfigureStation tag r s) := by
  refine State.request_sound fun u => ?_
  split
  · exact .refl
  · exact u.configureStation_sound ..

/-! ### Events -/

theorem State.armedFrame_sound (s : State) (c : ChannelId) (n f : Nat) (samples : Option (List Sample)) (onset : Bool) :
    Sound s (s.armedFrame c n f samples onset) := by
  have hring {g : Channel → Channel} (hg : (g (s.channels.get c)).still = (s.channels.get c).still) : Sound s (s.modChannel c g) :=
    (Reach.one (K := [.channelRun]) (.channelRun c g hg) (by decide)).sound (by decide)
  unfold State.armedFrame
  simp only
  exact .ite (fun _ => s.closeArmed_sound ..) fun _ => .ite (fun _ => .trans (hring rfl) (State.startRecording_sound ..)) fun _ => hring rfl

theorem State.recordingFrame_sound (s : State) (c : ChannelId) (x : Session) (f : Nat) (samples : Option (List Sample)) :
    Sound s (s.recordingFrame c x f samples) := by
  have hfirst : Sound s ((s.modSession x.number fun y => { y with firstStored := some f }).openFirstTake x.number f) :=
    .trans ((Reach.one (K := [.session]) (.session _ _ (by exact fun _ => ⟨rfl, rfl, rfl⟩)) (by decide)).sound (by decide))
      (State.openFirstTake_sound ..)
  have hjoin (u : State) : Sound u (u.modChannel c fun ch => { ch with fifo := joinFifo ch.fifo f samples }) :=
    (Reach.one (K := [.channelRun]) (.channelRun _ _ (by rfl)) (by decide)).sound (by decide)
  unfold State.recordingFrame
  simp only
  refine .thenIf (.trans ?_ (hjoin _)) fun _ => State.stopTaking_sound ..
  split
  · exact s.cutSearch_sound ..
  · exact hfirst

theorem State.frameArrives_sound (s : State) (c : ChannelId) (samples : Option (List Sample)) :
    Sound s (s.frameArrives c samples) := by
  have harrive (n f : Nat) : Sound s ((s.numberFrame c n f samples).countLevel c n f samples.isSome) :=
    ((s.numberFrame_reach ..).sound (by decide)).trans ((State.countLevel_reach ..).sound (by decide))
  unfold State.frameArrives
  simp only
  split
  · exact (harrive ..).trans (State.armedFrame_sound ..)
  · exact (harrive ..).trans (State.recordingFrame_sound ..)
  · exact .refl

theorem State.countLostFrames_sound (s : State) (c : ChannelId) (k : Nat) : Sound s (s.countLostFrames c k) := by
  induction k generalizing s with
  | zero => exact .refl
  | succ k ih =>
    unfold State.countLostFrames
    exact .ite (fun _ => (s.frameArrives_sound c none).trans (ih _)) fun _ => .refl

theorem State.pressAction_sound (s : State) (c : ChannelId) (k : KeyId) : Sound s (s.pressAction c k) := by
  unfold State.pressAction
  simp only
  split
  · exact (s.startRecording_sound ..).trans ((State.keyAction_reach ..).sound (by decide))
  · exact (s.keyAction_reach ..).sound (by decide)
  · exact .refl

theorem State.acceptKey_sound (s : State) (c : ChannelId) (k : KeyId) (b : Bool) : Sound s (s.acceptKey c k b) :=
  (s.acceptKey_reach (K := [.keypad]) c k b (by decide)).sound (by decide)

theorem State.acceptPress_sound (s : State) (c : ChannelId) (k : KeyId) : Sound s (s.acceptPress c k) :=
  (s.acceptKey_sound c k true).trans (State.pressAction_sound ..)

theorem State.sampleKey_sound (s : State) (c : ChannelId) (k : KeyId) (high : Bool) : Sound s (s.sampleKey c k high) := by
  have hcount {g : Channel → Channel} (hg : (g (s.channels.get c)).sansKeypad = (s.channels.get c).sansKeypad) :
      Sound s (s.modChannel c g) := (Reach.one (K := [.keypad]) (.keypad c g hg) (by decide)).sound (by decide)
  unfold State.sampleKey
  simp only
  exact .ite (fun _ => s.acceptKey_sound ..) fun _ => .ite (fun _ => hcount rfl) fun _ =>
    .ite (fun _ => s.acceptPress_sound ..) fun _ => s.acceptKey_sound ..

theorem State.onPacket_sound {s : State} {n : StationId} {f : State → State} (hf : ∀ u, Sound u (f u)) :
    Ends (Sound s) (s.onPacket n f) := by
  unfold State.onPacket
  split
  · exact .next .refl
  · exact Sound.finished (((s.validPacket_reach n).sound (by decide)).trans (hf _))

theorem State.onKey_sound {s : State} {n : StationId} {press : Bool} {f : State → State} (hf : ∀ u, Sound u (f u)) :
    Ends (Sound s) (s.onKey n press f) := State.onPacket_sound fun u => .ite (fun _ => hf u) fun _ => .refl

theorem State.onPedal_sound (s : State) (n : StationId) (p : Pedal) (press : Bool) : Ends (Sound s) (s.onPedal n p press) := by
  unfold State.onPedal
  split
  · exact .next .refl
  · exact Sound.settled (((s.validPacket_reach n).sound (by decide)).trans (State.pedalEvent_sound ..))

theorem execFrameCompleted_sound (c : ChannelId) (samples : List Sample) (s : State) :
    Ends (Sound s) (execFrameCompleted c samples s) := by
  have hecho {g : Channel → Channel} (hg : (g (s.channels.get c)).config = (s.channels.get c).config) :
      Sound s (s.modChannel c g) := (Reach.one (K := [.capture]) (.capture c g hg) (by decide)).sound (by decide)
  unfold execFrameCompleted
  simp only
  exact .ite (fun _ => Sound.settled ((hecho rfl).trans (State.frameArrives_sound ..))) fun _ => .next .refl

theorem execInputLossTimerExpiry_sound (c : ChannelId) (s : State) : Ends (Sound s) (execInputLossTimerExpiry c s) := by
  have hlose : Reach [.capture, .notice] s (s.loseInput c) :=
    .trans (.one (.capture _ _ (by rfl)) (by decide)) (State.raise_reach (hK := by decide) ..)
  unfold execInputLossTimerExpiry
  split
  · exact Sound.settled ((hlose.sound (by decide)).trans (State.countLostFrames_sound ..))
  · exact .next .refl

theorem execLostFrameTick_sound (c : ChannelId) (s : State) : Ends (Sound s) (execLostFrameTick c s) := by
  have htick : Sound s (s.modChannel c fun ch => { ch with lostTick := some 0 }) :=
    (Reach.one (K := [.capture]) (.capture _ _ (by rfl)) (by decide)).sound (by decide)
  unfold execLostFrameTick
  split
  · exact Sound.settled (htick.trans (State.countLostFrames_sound ..))
  · exact .next .refl

theorem execStationLinkLost_sound (n : StationId) (s : State) : Ends (Sound s) (execStationLinkLost n s) := by
  unfold execStationLinkLost
  split
  · exact Sound.finished (s.loseStation_sound n)
  · exact .next .refl

theorem execReclaimTimerExpiry_sound (n : StationId) (s : State) : Ends (Sound s) (execReclaimTimerExpiry n s) := by
  unfold execReclaimTimerExpiry
  split
  · exact Sound.finished (s.expireReclaim_sound n)
  · exact .next .refl

/-! ### All commands and steps -/

theorem exec_busy_sound {i : Instr} (s : State) (h : Instr.busy i = true) : Ends (Sound s) (exec i s) := by
  cases i with
  | openSession => exact execOpenSession_sound _ _ _
  | closeSession => exact execCloseSession_sound _ _ _
  | cutNow => exact execCutNow_sound _ _ _
  | releaseTake => exact execReleaseTake_sound _ _ _ _
  | queueTake => exact execQueueTake_sound _ _ _ _
  | setClass => exact State.onTake_sound fun _ _ ht => State.setClass_sound ht _
  | recallTake => exact execRecallTake_sound _ _ _ _
  | assignTake => exact execAssignTake_sound _ _ _ _ _
  | clearHold => exact execClearHold_sound _ _ _ _
  | configureStation => exact execConfigureStation_sound _ _ _
  | frameCompleted => exact execFrameCompleted_sound _ _ s
  | inputLossTimerExpiry => exact execInputLossTimerExpiry_sound _ s
  | lostFrameTick => exact execLostFrameTick_sound _ s
  | keypadPressAccepted c k => exact Ends.ite (fun _ => Sound.finished (s.acceptPress_sound c k)) fun _ => .next .refl
  | keySample c k high => exact Ends.ite (fun _ => Sound.finished (s.sampleKey_sound c k high)) fun _ => .next .refl
  | playPedal | fwdPedal | backPedal => exact s.onPedal_sound _ _ _
  | doneKey => exact State.onKey_sound fun u => u.doneKey_sound _
  | returnKey => exact State.onKey_sound fun u => u.returnKey_sound _
  | readyKey => exact State.onKey_sound fun u => u.readyKey_sound _
  | stationLinkLost => exact execStationLinkLost_sound _ s
  | reclaimTimerExpiry => exact execReclaimTimerExpiry_sound _ s
  | _ => exact nomatch h

/-- A command that does not reset the part keeps both invariants. -/
theorem exec_sound (i : Instr) (s : State) (h : ¬ Resets i s) : Ends (Sound s) (exec i s) := by
  cases hbusy : Instr.busy i with
  | true => exact exec_busy_sound s hbusy
  | false => exact (exec_calm s h hbusy).mono fun _ ht => ht.sound

/-- After a reset the tables are empty, and the blocks free. -/
theorem State.resetWith_storeInv (blocks rate : Nat) (cause : ResetCause) {mem : AudioMemory} (h : Memory.wf mem = true) :
    (State.resetWith blocks rate cause mem).StoreInv := by
  refine ⟨h, ?_, rfl, List.nodup_nil, Nat.zero_le _⟩
  show (List.range blocks ++ _).Perm (List.range blocks)
  rw [show Store.chained _ = [] from rfl, List.append_nil]

theorem State.resetWith_dispatchInv (blocks rate : Nat) (cause : ResetCause) (mem : AudioMemory) :
    (State.resetWith blocks rate cause mem).DispatchInv := by
  have hlists (n : StationId) : ((State.resetWith blocks rate cause mem).stations.get n).takes = [] := by fin_cases n <;> rfl
  have hout {α : Type} {a : α} {P : Prop} (h : a ∈ ([] : List α)) : P := absurd h List.not_mem_nil
  refine ⟨⟨List.nodup_nil, Nat.zero_le _, List.nodup_nil, fun _ => hout⟩,
    ⟨List.nodup_nil, fun _ => hout, fun _ => hout, List.Pairwise.nil⟩, fun n => ?_, fun _ => hout⟩
  rw [hlists n]
  exact ⟨List.nodup_nil, fun _ => hout, fun _ => hout⟩

/-- A reset keeps the memory, and so the memory's form. -/
theorem exec_reset_sound {i : Instr} {s t : State} (h : exec i s = .next t) (hr : Resets i s) : Sound s t := by
  have hreset (blocks rate : Nat) (cause : ResetCause) : Sound s (State.resetWith blocks rate cause s.store.mem) :=
    ⟨fun ⟨hwf, _⟩ => State.resetWith_storeInv blocks rate cause hwf, fun _ => State.resetWith_dispatchInv ..⟩
  have hcongr {u v : State} (hstore : v.store = u.store) (hsessions : v.sessions = u.sessions) (htakes : v.takes = u.takes)
      (hqueue : v.queue = u.queue) (hstations : v.stations = u.stations) : Sound u v := by
    constructor
    · unfold State.StoreInv; rw [hstore, hsessions]; exact id
    · unfold State.DispatchInv State.takesNamed State.queueHolds State.listsHold
      rw [hsessions, htakes, hqueue, hstations, funext fun r => show v.classOf r = u.classOf r by
        unfold State.classOf; rw [State.take?_congr htakes]]
      exact id
  rcases hr with ⟨m1, m0, l1, l0, rfl⟩ | ⟨rfl, hr⟩
  · rw [← Host.Outcome.next.inj h]
    exact (hreset (strapBlocks m1 m0) (strapRate l1 l0) .pin).trans (hcongr rfl rfl rfl rfl rfl)
  · have hline : Sound s s.freeLine := (s.freeLine_reach (K := [.link]) (by decide)).sound (by decide)
    have hfull : Sound s s.freeLine.fullReset :=
      (hreset s.store.blocks s.link.rate .full).trans (hcongr rfl rfl rfl rfl rfl)
    rcases execReplySent_reset h hr with ⟨r, -, rfl⟩ | rfl
    · exact .trans (.ite (fun _ => hline) fun _ => hfull) (State.settleAll_sound ..)
    · exact .refl

theorem State.tick_reach (s : State) : Reach [.capture, .signal, .link, .refresh] s s.tick := by
  have hports : Reach [.capture, .signal, .link, .refresh] s (allStations.foldl (fun s n => s.modStation n Station.tick)
      (allChannels.foldl (fun s c => s.modChannel c Channel.tick) s)) :=
    (Reach.foldl (fun u c => .one (.capture c _ (by rfl)) (by decide)) _ _).trans
      (Reach.foldl (fun u n => State.modSignal_reach (by rfl) (by rfl) (by rfl) (by rfl) (by decide)) _ _)
  have htimer (u : State) : Reach [.capture, .signal, .link, .refresh] u (u.modLink fun l => { l with messageTimer := advance 20 l.messageTimer }) :=
    State.modLink_reach rfl rfl rfl rfl rfl (by decide)
  have hrefresh (u : State) : Reach [.capture, .signal, .link, .refresh] u
      (u.modArbiter fun a => { a with refreshTimer := min 1 (a.refreshTimer + 1) }) := .one (.refresh _ id) (by decide)
  exact (hports.trans (htimer _)).trans (hrefresh _)

/-- Every step keeps both invariants. -/
theorem step_sound {s t : State} (h : step s = .next t) : Sound s t := by
  unfold step at h
  split at h
  · next i rest _ =>
    have hpending : Sound s { s with pending := rest } := ⟨id, id⟩
    by_cases hr : Resets i { s with pending := rest }
    · exact hpending.trans (exec_reset_sound h hr)
    · exact hpending.trans (exec_sound i _ hr t h)
  · cases h
    exact s.tick_reach.sound (by decide)

/-- Settles O5: every command is moves that keep the partition and the chains' owners, with the opening, the places and the freeing
of chains each by its own lemma. -/
theorem storeInvariantKept : Obligations.StoreInvariantKept := fun _ _ hs h => (step_sound h).1 hs

/-- Settles O7: the dispatch board stays sound under each operation of dispatch, and every other move leaves it. -/
theorem dispatchInvariantKept : Obligations.DispatchInvariantKept := fun _ _ hs h => (step_sound h).2 hs

/-- Settles O6: the tables are empty at reset, and all 2048 blocks are free. -/
theorem storeInvariantAtReset : Obligations.StoreInvariantAtReset :=
  ⟨State.resetWith_storeInv 2048 1 .pin rfl, State.resetWith_dispatchInv 2048 1 .pin []⟩

end Sys2Proof.Machine
end

section
/-! SUPPORT. The machine as a whole, its resets and its start: the queue, the millisecond, PIN_RESET, STARTUP_COMPLETE. -/

namespace Sys2Proof.Machine

/-! ### Steps -/

/-- Settles O1. -/
theorem stepRunsFrontCommand : Obligations.StepRunsFrontCommand := by
  intro c rest s h
  unfold step
  rw [h]

/-- A change made to the channels of a list in turn is made to each of them once, and to nothing else. -/
theorem State.foldChannels_spec (f : ChannelId → Channel → Channel) {l : List ChannelId} (hl : l.Nodup) (s : State) :
    (∀ c, (l.foldl (fun r c => r.modChannel c (f c)) s).channels.get c
        = if c ∈ l then f c (s.channels.get c) else s.channels.get c)
      ∧ l.foldl (fun r c => r.modChannel c (f c)) s
        = { s with channels := (l.foldl (fun r c => r.modChannel c (f c)) s).channels } := by
  induction l generalizing s with
  | nil => exact ⟨fun _ => rfl, rfl⟩
  | cons d l ih =>
    obtain ⟨hd, hl⟩ := List.nodup_cons.mp hl
    obtain ⟨hget, hrest⟩ := ih hl (s.modChannel d (f d))
    refine ⟨fun c => ?_, ?_⟩
    · rw [List.foldl_cons, hget c, State.modChannel_channels]
      by_cases hc : c = d
      · subst hc; simp [hd]
      · rw [PerChannel.get_set_ne _ _ hc]; simp [hc]
    · exact hrest

/-- A change made to the ports of a list in turn is made to each of them once, and to nothing else. -/
theorem State.foldStations_spec (f : StationId → Station → Station) {l : List StationId} (hl : l.Nodup) (s : State) :
    (∀ n, (l.foldl (fun r n => r.modStation n (f n)) s).stations.get n
        = if n ∈ l then f n (s.stations.get n) else s.stations.get n)
      ∧ l.foldl (fun r n => r.modStation n (f n)) s
        = { s with stations := (l.foldl (fun r n => r.modStation n (f n)) s).stations } := by
  induction l generalizing s with
  | nil => exact ⟨fun _ => rfl, rfl⟩
  | cons d l ih =>
    obtain ⟨hd, hl⟩ := List.nodup_cons.mp hl
    obtain ⟨hget, hrest⟩ := ih hl (s.modStation d (f d))
    refine ⟨fun n => ?_, ?_⟩
    · rw [List.foldl_cons, hget n, State.modStation_stations]
      by_cases hn : n = d
      · subst hn; simp [hd]
      · rw [PerStation.get_set_ne _ _ hn]; simp [hn]
    · exact hrest

theorem State.foldChannels_get (s : State) (f : ChannelId → Channel → Channel) (c : ChannelId) :
    (allChannels.foldl (fun r c => r.modChannel c (f c)) s).channels.get c = f c (s.channels.get c) := by
  rw [(State.foldChannels_spec f (by decide) s).1 c, if_pos (by fin_cases c <;> decide)]

theorem State.foldStations_get (s : State) (f : StationId → Station → Station) (n : StationId) :
    (allStations.foldl (fun r n => r.modStation n (f n)) s).stations.get n = f n (s.stations.get n) := by
  rw [(State.foldStations_spec f (by decide) s).1 n, if_pos (by fin_cases n <;> decide)]

/-- Settles O2: the timers of each channel and port advance by one fold each. -/
theorem emptyQueuePassesAMillisecond : Obligations.EmptyQueuePassesAMillisecond := by
  intro s h
  have hchannels (c : ChannelId) := s.foldChannels_get (fun _ => Channel.tick) c
  obtain ⟨-, hu⟩ := State.foldChannels_spec (fun _ => Channel.tick) (l := allChannels) (by decide) s
  generalize hfold : allChannels.foldl (fun r c => r.modChannel c Channel.tick) s = u at hchannels hu
  have hstations (n : StationId) := u.foldStations_get (fun _ => Station.tick) n
  obtain ⟨-, hv⟩ := State.foldStations_spec (fun _ => Station.tick) (l := allStations) (by decide) u
  generalize hfold' : allStations.foldl (fun r n => r.modStation n Station.tick) u = v at hstations hv
  have htick : s.tick = (v.modLink fun l => { l with messageTimer := advance 20 l.messageTimer }).modArbiter fun a =>
      { a with refreshTimer := min 1 (a.refreshTimer + 1) } := by
    rw [← hfold', ← hfold]; rfl
  have hvs : v = { s with channels := v.channels, stations := v.stations } := by
    rw [hv, hu]
  refine ⟨s.tick, by unfold step; rw [h], fun c => ?_, fun n => ?_, ?_, ?_, ?_⟩
  · rw [htick, State.modArbiter_channels, State.modLink_channels, show v.channels = u.channels from (congrArg State.channels hv :),
      hchannels]
    rfl
  · rw [htick, State.modArbiter_stations, State.modLink_stations, hstations,
      show u.stations = s.stations from (congrArg State.stations hu :)]
    rfl
  · rw [htick, State.modArbiter_link, State.modLink_link, show v.link = s.link from (congrArg State.link hvs :)]
    rfl
  · rw [htick, State.modArbiter_arbiter, State.modLink_arbiter, show v.arbiter = s.arbiter from (congrArg State.arbiter hvs :)]
  · rw [htick]
    exact congrArg (fun w : State => { w with
      link := { v.link with messageTimer := advance 20 v.link.messageTimer }
      arbiter := { v.arbiter with refreshTimer := min 1 (v.arbiter.refreshTimer + 1) } }) hvs

/-! ### Resets -/

theorem PerChannel.get_all {α : Type} (a : α) (c : ChannelId) : (PerChannel.all a).get c = a := by fin_cases c <;> rfl

theorem PerStation.get_all {α : Type} (a : α) (n : StationId) : (PerStation.all a).get n = a := by fin_cases n <;> rfl

/-- Settles O14. -/
theorem pinResetOfCapture : Obligations.PinResetOfCapture := by
  intro m1 m0 l1 l0 s
  refine ⟨_, rfl, fun c => PerChannel.get_all _ c, rfl, rfl, ?_, rfl, rfl, rfl, rfl, rfl, rfl⟩
  cases m1 <;> cases m0 <;> rfl

/-- Settles O15. -/
theorem pinResetOfTheRest : Obligations.PinResetOfTheRest := by
  intro m1 m0 l1 l0 s
  refine ⟨_, rfl, rfl, rfl, rfl, rfl, rfl, fun n => ?_, fun c => ?_, rfl, ?_, rfl, rfl, rfl⟩
  · have hport : (State.resetWith (strapBlocks m1 m0) (strapRate l1 l0) .pin s.store.mem).stations.get n = Station.reset :=
      PerStation.get_all _ n
    simp only [hport]
    decide
  · have hunit : (State.resetWith (strapBlocks m1 m0) (strapRate l1 l0) .pin s.store.mem).readback.get c = Readback.reset :=
      PerChannel.get_all _ c
    simp only [hunit]
    decide
  · cases l1 <;> cases l0 <;> rfl

/-! ### The start -/

/-- What a port's line is at the end of a command: where STATE was due it still is, or it has begun on the line that was free. -/
theorem Station.startPacket_due {st : Station} (h : st.stateDue = true) (body : List Byte) :
    (st.startPacket body).stateDue = true
      ∨ (st.line = none ∧ ∃ b skip, (st.startPacket body).line = some (.state b skip)) := by
  unfold Station.startPacket
  split
  · exact .inl h
  · next hline =>
    split
    · exact .inl h
    · rw [if_pos h]
      exact .inr ⟨hline, _, _, rfl⟩

/-- While READY each port's line is served at the end of a command. -/
theorem State.stationLines_get {before s : State} (h : s.link.device = .ready) (n : StationId) :
    (State.stationLines before s).stations.get n =
      { s.stations.get n with
        stateDue := (s.stations.get n).stateDue || before.stateChanged s n }.startPacket (s.stateBody n) := by
  have hall := s.foldStations_get
    (fun n st => { st with stateDue := st.stateDue || before.stateChanged s n }.startPacket (s.stateBody n)) n
  unfold State.stationLines
  rw [h]
  dsimp only
  rw [hall]

theorem State.transmit_stations (s : State) : s.transmit.stations = s.stations := by
  unfold State.transmit
  repeat' split
  all_goals rfl

theorem State.transmit_device (s : State) : s.transmit.link.device = s.link.device := by
  unfold State.transmit
  repeat' split
  all_goals rfl

/-- The ports at the end of a command. -/
theorem State.finish_get {before s : State} (h : s.link.device = .ready) (n : StationId) :
    (State.finish before s).stations.get n =
      { s.stations.get n with
        stateDue := (s.stations.get n).stateDue || before.stateChanged s.transmit n }.startPacket (s.transmit.stateBody n) := by
  unfold State.finish
  rw [State.stationLines_get (by rw [State.transmit_device, h]), State.transmit_stations]

/-- A notice in the set waits in it, or goes on the free line, at the end of a command. -/
theorem State.finish_notice (before : State) {s : State} {e : Notice} (h : e ∈ s.link.notices) :
    e ∈ (State.finish before s).link.notices ∨ (State.finish before s).link.line = some (.notice e) := by
  have hlink : (State.finish before s).link = s.transmit.link := State.stationLines_link ..
  rw [hlink]
  unfold State.transmit
  split
  · exact .inl h
  · split
    · exact .inl h
    · split
      · next n rest hn =>
        rw [hn] at h
        rcases List.mem_cons.mp h with rfl | hr
        · exact .inr rfl
        · exact .inl hr
      · next hn => rw [hn] at h; exact nomatch h

/-- A DEVICE notice that is heard is in the set, with the contents it was raised with. -/
theorem Link.raise_device_mem (l : Link) (sub : Subject) (contents : List Byte) (h : l.mask.getLsbD 0 = true) :
    ∃ e ∈ (l.raise .device sub contents).notices, e.kind = .device ∧ e.subject = sub ∧ e.contents = contents := by
  have hmerge : l.raise .device sub contents = l.merge .device sub contents := by
    unfold Link.raise
    rw [if_pos (show l.mask.getLsbD NoticeKind.device.code = true from h)]
    simp
  rw [hmerge]
  unfold Link.merge
  split
  · next hany =>
    obtain ⟨n, hn, hmatch⟩ := List.any_eq_true.mp hany
    refine ⟨_, List.mem_map_of_mem hn, ?_⟩
    have hsame : n.kind = .device ∧ n.subject = sub := by simpa using hmatch
    simp [mergeNotice, hsame]
  · exact ⟨_, List.mem_append_right _ (List.mem_singleton_self _), rfl, rfl, rfl⟩

theorem State.foldStations_offLine {f : StationId → Station → Station} (hf : ∀ n st, (f n st).offLine = st.offLine)
    (l : List StationId) (s : State) : (l.foldl (fun r n => r.modStation n (f n)) s).offLine = s.offLine := by
  induction l generalizing s with
  | nil => rfl
  | cons n l ih => rw [List.foldl_cons, ih, State.modStation_offLine _ _ _ (hf n _)]

/-- Settles O16. -/
theorem startupCompletes : Obligations.StartupCompletes := by
  refine fun s => ⟨fun hstarting => ?_, fun hready => ?_⟩
  · have hexec : exec .startupComplete s = .next (State.finish s s.startup) := by
      show execStartupComplete s = _
      unfold execStartupComplete
      rw [hstarting]
    have hstations (n : StationId) : s.startup.stations.get n = { s.stations.get n with stateDue := true } := by
      have hall (u : State) := u.foldStations_get (fun _ st => { st with stateDue := true }) n
      unfold State.startup
      dsimp only
      rw [hall]
      rfl
    have hlink : s.startup.link = { s.link with device := .ready }.raise .device .whole
        (startedContents (s.modLink fun l => { l with device := .ready })) := by
      obtain ⟨-, hfold⟩ := State.foldStations_spec (fun _ st => { st with stateDue := true }) (l := allStations) (by decide)
        ((s.modLink fun l => { l with device := .ready }).raise .device .whole
          (startedContents (s.modLink fun l => { l with device := .ready })))
      exact congrArg State.link hfold
    have hdevice : s.startup.link.device = .ready := by rw [hlink, Link.raise_device]
    refine ⟨_, hexec, ?_, fun hmask => ?_, fun n => ?_⟩
    · rw [State.finish_offLine]
      unfold State.startup
      dsimp only
      rw [State.foldStations_offLine (f := fun _ st => { st with stateDue := true }) (fun _ _ => rfl), State.raise_offLine]
      rfl
    · obtain ⟨e, he, hkind, hsub, hcontents⟩ := Link.raise_device_mem { s.link with device := .ready } .whole
        (startedContents (s.modLink fun l => { l with device := .ready })) hmask
      refine ⟨e, State.finish_notice s (hlink ▸ he), hkind, hsub, hcontents.trans ?_⟩
      unfold startedContents
      cases hcause : s.link.resetCause <;> simp [hcause, ResetCause.code]
    · rw [State.finish_get hdevice n, hstations n]
      exact Station.startPacket_due rfl _
  · show execStartupComplete s = _
    unfold execStartupComplete
    rw [hready]

end Sys2Proof.Machine
end

section
/-! SUPPORT. The forms of operands (R196): what a field reads where it was written. -/

namespace Sys2Proof.Machine

/-! ### Little-endian fields -/

@[simp] theorem le_length (k n : Nat) : (le k n).length = k := by
  induction k generalizing n with
  | zero => rfl
  | succ k ih => simp [le, ih]

theorem ofLE_le (k n : Nat) : ofLE (le k n) = n % 256 ^ k := by
  induction k generalizing n with
  | zero => simp [le, ofLE, Nat.mod_one]
  | succ k ih =>
    have hbyte : (BitVec.ofNat 8 n).toNat = n % 256 := BitVec.toNat_ofNat n 8
    rw [le, ofLE, ih, hbyte, Nat.pow_succ', Nat.mod_mul]

theorem field_here (k n : Nat) (l : List Byte) : field (le k n ++ l) 0 k = n % 256 ^ k := by
  rw [field, List.drop_zero, List.take_left' (le_length k n), ofLE_le]

theorem field_last (k n : Nat) : field (le k n) 0 k = n % 256 ^ k := by
  simpa using field_here k n []

/-- Bytes in front of a field are passed over. -/
theorem field_skip {t : List Byte} {j : Nat} (ht : t.length = j) (l : List Byte) (off k : Nat) :
    field (t ++ l) (off + j) k = field l off k := by
  rw [field, field, Nat.add_comm, ← ht, ← List.drop_drop, List.drop_left]

@[simp] theorem field_u8 (n : Nat) (l : List Byte) : field (u8 n ++ l) 0 1 = n % 256 := field_here 1 n l
@[simp] theorem field_u16 (n : Nat) (l : List Byte) : field (u16 n ++ l) 0 2 = n % 65536 := field_here 2 n l
@[simp] theorem field_u32 (n : Nat) (l : List Byte) : field (u32 n ++ l) 0 4 = n % 4294967296 := field_here 4 n l
@[simp] theorem field_u8_last (n : Nat) : field (u8 n) 0 1 = n % 256 := field_last 1 n
@[simp] theorem field_u16_last (n : Nat) : field (u16 n) 0 2 = n % 65536 := field_last 2 n
@[simp] theorem field_u32_last (n : Nat) : field (u32 n) 0 4 = n % 4294967296 := field_last 4 n

@[simp] theorem field_u8_skip (n : Nat) (l : List Byte) (off k : Nat) : field (u8 n ++ l) (off + 1) k = field l off k :=
  field_skip (le_length 1 n) l off k
@[simp] theorem field_u16_skip (n : Nat) (l : List Byte) (off k : Nat) : field (u16 n ++ l) (off + 2) k = field l off k :=
  field_skip (le_length 2 n) l off k
@[simp] theorem field_u32_skip (n : Nat) (l : List Byte) (off k : Nat) : field (u32 n ++ l) (off + 4) k = field l off k :=
  field_skip (le_length 4 n) l off k

/-- The two low bytes of a four-byte field hold a number of two bytes. -/
@[simp] theorem field_u32_low (n : Nat) (l : List Byte) : field (u32 n ++ l) 0 2 = n % 65536 := by
  have hsplit : u32 n = u16 n ++ u16 (n / 65536) := by simp [u32, u16, le, Nat.div_div_eq_div_mul]
  rw [hsplit, List.append_assoc, field_u16]

@[simp] theorem u8_length (n : Nat) : (u8 n).length = 1 := le_length 1 n
@[simp] theorem u16_length (n : Nat) : (u16 n).length = 2 := le_length 2 n
@[simp] theorem u32_length (n : Nat) : (u32 n).length = 4 := le_length 4 n
@[simp] theorem yesNo_length (b : Bool) : (yesNo b).length = 1 := le_length 1 _

theorem textAt_here {t : List Byte} {len : Nat} (ht : t.length = len) (l : List Byte) : textAt (t ++ l) 0 len = t := by
  rw [textAt, List.drop_zero, List.take_left' ht]

theorem textAt_skip {t : List Byte} {j : Nat} (ht : t.length = j) (l : List Byte) (off len : Nat) :
    textAt (t ++ l) (off + j) len = textAt l off len := by
  rw [textAt, textAt, Nat.add_comm, ← ht, ← List.drop_drop, List.drop_left]

@[simp] theorem textAt_skip_u8 (n : Nat) (l : List Byte) (off len : Nat) : textAt (u8 n ++ l) (off + 1) len = textAt l off len :=
  textAt_skip (le_length 1 n) l off len
@[simp] theorem textAt_skip_u16 (n : Nat) (l : List Byte) (off len : Nat) : textAt (u16 n ++ l) (off + 2) len = textAt l off len :=
  textAt_skip (le_length 2 n) l off len
@[simp] theorem textAt_skip_u32 (n : Nat) (l : List Byte) (off len : Nat) : textAt (u32 n ++ l) (off + 4) len = textAt l off len :=
  textAt_skip (le_length 4 n) l off len

/-! ### Presence bits (R198) -/

/-- The bits of a list of flags, from `k` up. -/
def flagBits : Nat → List Bool → Nat
  | _, [] => 0
  | k, b :: l => bitOf b k + flagBits (k + 1) l

theorem flagBits_eq (k : Nat) (l : List Bool) : flagBits k l = 2 ^ k * flagBits 0 l := by
  have hone (k : Nat) (l : List Bool) : flagBits (k + 1) l = 2 * flagBits k l := by
    induction l generalizing k with
    | nil => rfl
    | cons b l ih =>
      simp only [flagBits, ih, Nat.mul_add]
      congr 1
      unfold bitOf
      split <;> simp [Nat.pow_succ']
  induction k with
  | zero => simp
  | succ k ih => rw [hone, ih, Nat.pow_succ', Nat.mul_assoc]

theorem flagBits_testBit (l : List Bool) (j : Nat) : (flagBits 0 l).testBit j = l.getD j false := by
  induction l generalizing j with
  | nil => simp [flagBits]
  | cons b l ih =>
    have hbits : flagBits 0 (b :: l) = Nat.bit b (flagBits 0 l) := by
      rw [flagBits, flagBits_eq, Nat.bit_val]
      cases b <;> simp [bitOf, Nat.add_comm]
    rw [hbits]
    cases j with
    | zero => simp
    | succ j => rw [Nat.testBit_bit_succ, ih]; rfl

theorem flagBits_lt (l : List Bool) : flagBits 0 l < 2 ^ l.length := by
  refine Nat.lt_pow_two_of_testBit _ fun i hi => ?_
  rw [flagBits_testBit, List.getD_eq_default _ _ hi]

end Sys2Proof.Machine
end

section
/-! SUPPORT. Every request is read back from its own bytes (R197, R198). -/

namespace Sys2Proof

open Machine

/-! ### Numbers that fit, flags and optional fields -/

theorem fits8_mod {n : Nat} (h : fits8 n = true) : n % 256 = n := Nat.mod_eq_of_lt (of_decide_eq_true h)
theorem fits16_mod {n : Nat} (h : fits16 n = true) : n % 65536 = n := Nat.mod_eq_of_lt (of_decide_eq_true h)
theorem fits32_mod {n : Nat} (h : fits32 n = true) : n % 4294967296 = n := Nat.mod_eq_of_lt (of_decide_eq_true h)

@[simp] theorem yes_field_yesNo (b : Bool) (l : List Byte) : yes (field (yesNo b ++ l) 0 1) = b := by
  cases b <;> simp [yesNo, yes]

@[simp] theorem yes_field_yesNo_last (b : Bool) : yes (field (yesNo b) 0 1) = b := by
  cases b <;> simp [yesNo, yes]

@[simp] theorem field_yesNo_skip (b : Bool) (l : List Byte) (off k : Nat) : field (yesNo b ++ l) (off + 1) k = field l off k :=
  field_skip (yesNo_length b) l off k

@[simp] theorem textAt_yesNo_skip (b : Bool) (l : List Byte) (off len : Nat) :
    textAt (yesNo b ++ l) (off + 1) len = textAt l off len := textAt_skip (yesNo_length b) l off len

/-- An optional field, 0 where omitted, is present as its bit says. -/
theorem present_getD {bits bit : Nat} {o : Option Nat} (h : bits.testBit bit = o.isSome) : present bits bit (o.getD 0) = o := by
  unfold present
  cases o <;> simp_all

theorem getD_mod {m : Nat} {f : Nat → Bool} (hf : ∀ n, f n = true → n % m = n) {o : Option Nat} (h : fitsOpt f o = true) :
    o.getD 0 % m = o.getD 0 := by
  cases o with
  | none => exact Nat.zero_mod m
  | some n => exact hf n h

theorem textField_length {t : Option (List Byte)} (h : fitsText t = true) : (textField t).length = 12 := by
  cases t with
  | none => rfl
  | some l => exact of_decide_eq_true h

/-- An optional text is present as its bit says. -/
theorem text_read {bits bit : Nat} {t : Option (List Byte)} (hbit : bits.testBit bit = t.isSome) :
    (if bits.testBit bit then some (textField t) else none) = t := by
  cases t <;> simp_all [textField]

/-! ### Plans -/

@[simp] theorem planBytes_length (p : Plan) : (planBytes p).length = 10 := by simp [planBytes]

theorem planAt_planBytes {p : Plan} (h : p.wf = true) : planAt (planBytes p) 0 = p := by
  simp only [Plan.wf, Bool.and_eq_true] at h
  obtain ⟨⟨⟨⟨hn, hg⟩, hp⟩, hs⟩, hh⟩ := h
  simp [planAt, planBytes, fits32_mod hn, fits16_mod hg, fits8_mod hp, fits8_mod hs, fits16_mod hh]

/-- Bytes in front of a plan are passed over. -/
theorem planAt_skip {t : List Byte} {j : Nat} (ht : t.length = j) (l : List Byte) : planAt (t ++ l) j = planAt l 0 := by
  have hskip (off k : Nat) : field (t ++ l) (j + off) k = field l off k := by rw [Nat.add_comm]; exact field_skip ht l off k
  have hzero (k : Nat) : field (t ++ l) j k = field l 0 k := hskip 0 k
  simp only [planAt, hskip, hzero, Nat.zero_add]

theorem PlanPatch.filled_wf {p : PlanPatch} (h : p.wf = true) : p.filled.wf = true := by
  have hfill {f : Nat → Bool} (hf : f 0 = true) {o : Option Nat} (ho : fitsOpt f o = true) : f (o.getD 0) = true := by
    cases o <;> assumption
  simp only [PlanPatch.wf, Bool.and_eq_true] at h
  obtain ⟨⟨⟨⟨hn, hg⟩, hp⟩, hs⟩, hh⟩ := h
  simp only [PlanPatch.filled, Plan.wf, Bool.and_eq_true]
  exact ⟨⟨⟨⟨hfill rfl hn, hfill rfl hg⟩, hfill rfl hp⟩, hfill rfl hs⟩, hfill rfl hh⟩

/-- The five flags of a patch. -/
def PlanPatch.flags (p : PlanPatch) : List Bool :=
  [p.nominal.isSome, p.grace.isSome, p.pause.isSome, p.softOverlap.isSome, p.hardOverlap.isSome]

theorem PlanPatch.bits_eq (p : PlanPatch) (bit : Nat) : p.bits bit = flagBits bit p.flags := by
  simp only [PlanPatch.bits, PlanPatch.flags, flagBits, Nat.add_assoc, Nat.reduceAdd, Nat.add_zero]

/-- A patch is read back where its plan stands, when the bits say which of its fields are given. -/
theorem patchAt_filled {p : PlanPatch} {b : List Byte} {off bits bit : Nat} (hplan : planAt b off = p.filled)
    (hbits : ∀ j, j < 5 → bits.testBit (bit + j) = p.flags.getD j false) : patchAt b off bits bit = p := by
  have hread {j : Nat} {o : Option Nat} (hj : j < 5) (ho : p.flags.getD j false = o.isSome) :
      present bits (bit + j) (o.getD 0) = o := present_getD ((hbits j hj).trans ho)
  simp only [patchAt, hplan, PlanPatch.filled]
  have h0 := hread (j := 0) (o := p.nominal) (by decide) rfl
  have h1 := hread (j := 1) (o := p.grace) (by decide) rfl
  have h2 := hread (j := 2) (o := p.pause) (by decide) rfl
  have h3 := hread (j := 3) (o := p.softOverlap) (by decide) rfl
  have h4 := hread (j := 4) (o := p.hardOverlap) (by decide) rfl
  rw [Nat.add_zero] at h0
  rw [h0, h1, h2, h3, h4]

/-! ### The bodies of requests -/

theorem encodeOpenSession_length {r : OpenSessionReq} (h : r.wf = true) : (encodeOpenSession r).length = 29 := by
  simp only [OpenSessionReq.wf, Bool.and_eq_true] at h
  obtain ⟨⟨⟨⟨⟨⟨-, hlabel⟩, -⟩, -⟩, -⟩, -⟩, -⟩ := h
  simp [encodeOpenSession, textField_length hlabel]

/-- The flags of OPEN_SESSION. -/
def OpenSessionReq.flags (r : OpenSessionReq) : List Bool :=
  [r.label.isSome, r.startMode.isSome, r.dispatchMode.isSome, r.takeClass.isSome, r.stationChoice.isSome] ++ r.plan.flags

theorem decodeOpenSession_encode {r : OpenSessionReq} (h : r.wf = true) : decodeOpenSession (encodeOpenSession r) = r := by
  simp only [OpenSessionReq.wf, Bool.and_eq_true] at h
  obtain ⟨⟨⟨⟨⟨⟨hchannel, hlabel⟩, hstart⟩, hmode⟩, hclass⟩, hchoice⟩, hplan⟩ := h
  have hbits : bitOf r.label.isSome 0 + bitOf r.startMode.isSome 1 + bitOf r.dispatchMode.isSome 2
      + bitOf r.takeClass.isSome 3 + bitOf r.stationChoice.isSome 4 + r.plan.bits 5 = flagBits 0 r.flags := by
    rw [PlanPatch.bits_eq]
    simp only [OpenSessionReq.flags, PlanPatch.flags, List.cons_append, List.nil_append, flagBits, Nat.add_assoc, Nat.reduceAdd, Nat.add_zero]
  have hmod : flagBits 0 r.flags % 65536 = flagBits 0 r.flags :=
    Nat.mod_eq_of_lt ((flagBits_lt r.flags).trans (by decide : 2 ^ 10 < 65536))
  have hflag (j : Nat) := flagBits_testBit r.flags j
  have hskip (l : List Byte) (off k : Nat) := field_skip (textField_length hlabel) l off k
  have hall : planAt (encodeOpenSession r) 19 = r.plan.filled := by
    unfold encodeOpenSession
    rw [planAt_skip (by simp [textField_length hlabel]), planAt_planBytes (PlanPatch.filled_wf hplan)]
  have hpatch : patchAt (encodeOpenSession r) 19 (flagBits 0 r.flags) 5 = r.plan :=
    patchAt_filled hall fun j hj => (hflag _).trans (by interval_cases j <;> rfl)
  have hfields : field (encodeOpenSession r) 0 1 = r.channel ∧ field (encodeOpenSession r) 1 2 = flagBits 0 r.flags
      ∧ textAt (encodeOpenSession r) 3 12 = textField r.label ∧ field (encodeOpenSession r) 15 1 = r.startMode.getD 0
      ∧ field (encodeOpenSession r) 16 1 = r.dispatchMode.getD 0 ∧ field (encodeOpenSession r) 17 1 = r.takeClass.getD 0
      ∧ field (encodeOpenSession r) 18 1 = r.stationChoice.getD 0 := by
    simp [encodeOpenSession, hbits, hmod, fits8_mod hchannel, textAt_here (textField_length hlabel), hskip,
      getD_mod @fits8_mod hstart, getD_mod @fits8_mod hmode, getD_mod @fits8_mod hclass, getD_mod @fits8_mod hchoice]
  obtain ⟨h0, h1, h2, h3, h4, h5, h6⟩ := hfields
  simp only [decodeOpenSession, h0, h1, h2, h3, h4, h5, h6, hpatch, text_read (hflag 0), present_getD (hflag 1), present_getD (hflag 2),
    present_getD (hflag 3), present_getD (hflag 4)]

end Sys2Proof
end

section
/-! SUPPORT. The bodies of the requests, and the requests read back (R197, R198). -/

namespace Sys2Proof

open Machine

/-! ### The bodies of requests -/

theorem encodeConfigureChannel_length (r : ConfigureChannelReq) : (encodeConfigureChannel r).length = 31 := by
  unfold encodeConfigureChannel
  simp only [List.length_append, u8_length, u16_length, yesNo_length, planBytes_length]

theorem decodeConfigureChannel_encode {r : ConfigureChannelReq} (h : r.wf = true) :
    decodeConfigureChannel (encodeConfigureChannel r) = r := by
  simp only [ConfigureChannelReq.wf, Bool.and_eq_true] at h
  obtain ⟨⟨⟨⟨⟨⟨⟨⟨⟨⟨⟨⟨⟨⟨hchannel, hratio⟩, hminimum⟩, honset⟩, hhang⟩, hstart⟩, houtput⟩, hp0⟩, hp1⟩, hp2⟩, hp3⟩, hspeakers⟩,
    hplay⟩, hlevel⟩, hplan⟩ := h
  have hat : planAt (encodeConfigureChannel r) 21 = r.plan := by
    unfold encodeConfigureChannel
    rw [planAt_skip (by simp), planAt_planBytes hplan]
  unfold decodeConfigureChannel
  rw [hat]
  unfold encodeConfigureChannel
  simp [fits8_mod hchannel, fits8_mod hratio, fits16_mod hminimum, fits8_mod honset, fits8_mod hhang,
    fits8_mod hstart, fits8_mod houtput, fits8_mod hp0, fits8_mod hp1, fits8_mod hp2, fits8_mod hp3, fits8_mod hspeakers,
    fits8_mod hplay, fits8_mod hlevel]

theorem encodeListTakes_length (r : ListTakesReq) : (encodeListTakes r).length = 7 := by simp [encodeListTakes]

theorem decodeListTakes_encode {r : ListTakesReq} (h : r.wf = true) : decodeListTakes (encodeListTakes r) = r := by
  simp only [ListTakesReq.wf, Bool.and_eq_true] at h
  obtain ⟨⟨⟨⟨hsession, hscope⟩, hfirst⟩, hdispatch⟩, hcapture⟩ := h
  simp [decodeListTakes, encodeListTakes, fits16_mod hsession, fits8_mod hscope, fits16_mod hfirst, fits8_mod hdispatch,
    fits8_mod hcapture]

theorem encodeListMarks_length (r : ListMarksReq) : (encodeListMarks r).length = 10 := by simp [encodeListMarks]

theorem decodeListMarks_encode {r : ListMarksReq} (h : r.wf = true) : decodeListMarks (encodeListMarks r) = r := by
  simp only [ListMarksReq.wf, Bool.and_eq_true] at h
  obtain ⟨⟨⟨⟨hsession, hframe⟩, hmark⟩, hkind⟩, hsource⟩ := h
  simp [decodeListMarks, encodeListMarks, fits16_mod hsession, fits32_mod hframe, fits16_mod hmark, fits8_mod hkind,
    fits8_mod hsource]

theorem encodeListRanges_length (r : ListRangesReq) : (encodeListRanges r).length = 14 := by simp [encodeListRanges]

theorem decodeListRanges_encode {r : ListRangesReq} (h : r.wf = true) : decodeListRanges (encodeListRanges r) = r := by
  simp only [ListRangesReq.wf, Bool.and_eq_true] at h
  obtain ⟨⟨⟨⟨hsession, hframe⟩, hrange⟩, hstate⟩, htest⟩ := h
  have hbits : bitOf r.test.isSome 0 = flagBits 0 [r.test.isSome] := rfl
  have hmod : flagBits 0 [r.test.isSome] % 256 = flagBits 0 [r.test.isSome] :=
    Nat.mod_eq_of_lt ((flagBits_lt _).trans (by decide : 2 ^ 1 < 256))
  simp [decodeListRanges, encodeListRanges, fits16_mod hsession, fits32_mod hframe, fits16_mod hrange, fits8_mod hstate,
    hbits, hmod, getD_mod @fits32_mod htest, present_getD (flagBits_testBit [r.test.isSome] 0)]

theorem encodeAddMark_length {r : AddMarkReq} (h : r.wf = true) : (encodeAddMark r).length = 21 := by
  simp only [AddMarkReq.wf, Bool.and_eq_true] at h
  obtain ⟨⟨-, htag⟩, -⟩ := h
  simp [encodeAddMark, textField_length htag]

theorem decodeAddMark_encode {r : AddMarkReq} (h : r.wf = true) : decodeAddMark (encodeAddMark r) = r := by
  simp only [AddMarkReq.wf, Bool.and_eq_true] at h
  obtain ⟨⟨⟨⟨hsession, hframe⟩, hkind⟩, htag⟩, hspeaker⟩ := h
  have hbits : bitOf r.tag.isSome 0 + bitOf r.speaker.isSome 1 = flagBits 0 [r.tag.isSome, r.speaker.isSome] := rfl
  have hmod := Nat.mod_eq_of_lt ((flagBits_lt [r.tag.isSome, r.speaker.isSome]).trans (by decide : 2 ^ 2 < 256))
  have hflag := flagBits_testBit [r.tag.isSome, r.speaker.isSome]
  have hskip (l : List Byte) (off k : Nat) := field_skip (textField_length htag) l off k
  simp [-Nat.testBit_zero, decodeAddMark, encodeAddMark, fits16_mod hsession, fits32_mod hframe, fits8_mod hkind, hbits, hmod, hskip,
    textAt_here (textField_length htag), getD_mod @fits8_mod hspeaker, text_read (hflag 0), present_getD (hflag 1)]

theorem encodeOpenRange_length {r : OpenRangeReq} (h : r.wf = true) : (encodeOpenRange r).length = 26 := by
  simp only [OpenRangeReq.wf, Bool.and_eq_true] at h
  obtain ⟨-, hlabel⟩ := h
  simp [encodeOpenRange, textField_length hlabel]

theorem decodeOpenRange_encode {r : OpenRangeReq} (h : r.wf = true) : decodeOpenRange (encodeOpenRange r) = r := by
  simp only [OpenRangeReq.wf, Bool.and_eq_true] at h
  obtain ⟨⟨⟨⟨hsession, hstart⟩, hstop⟩, hplay⟩, hlabel⟩ := h
  have hbits : bitOf r.stop.isSome 0 + bitOf r.label.isSome 1 = flagBits 0 [r.stop.isSome, r.label.isSome] := rfl
  have hmod := Nat.mod_eq_of_lt ((flagBits_lt [r.stop.isSome, r.label.isSome]).trans (by decide : 2 ^ 2 < 256))
  have hflag := flagBits_testBit [r.stop.isSome, r.label.isSome]
  have htext : textAt (textField r.label) 0 12 = textField r.label := by
    simpa using textAt_here (textField_length hlabel) []
  simp [-Nat.testBit_zero, decodeOpenRange, encodeOpenRange, fits16_mod hsession, fits32_mod hstart, fits8_mod hplay, hbits, hmod, htext,
    getD_mod @fits32_mod hstop, present_getD (hflag 0), text_read (hflag 1)]

/-- The text SET_RANGE carries. -/
def LabelChange.field : LabelChange → List Byte
  | .replace t => t
  | .keep | .remove => List.replicate 12 0

/-- The two flags of a label in SET_RANGE. -/
def LabelChange.flags : LabelChange → List Bool
  | .keep => [false, false]
  | .replace _ => [true, false]
  | .remove => [false, true]

@[simp] theorem LabelChange.field_length {l : LabelChange}
    (h : (match l with | .replace t => decide (t.length = 12) | .keep | .remove => true) = true) : l.field.length = 12 := by
  cases l with
  | replace t => exact of_decide_eq_true h
  | keep => rfl
  | remove => rfl

/-- SET_RANGE's body, with its flags and its text named. -/
theorem encodeSetRange_eq (r : SetRangeReq) : encodeSetRange r =
    u16 r.session ++ u16 r.range
      ++ u8 (flagBits 0 ([r.play.isSome, r.readback.isSome, r.exportable.isSome] ++ r.label.flags))
      ++ u8 (r.play.getD 0) ++ yesNo (r.readback.getD false) ++ yesNo (r.exportable.getD false) ++ r.label.field := by
  cases h : r.label <;> simp [encodeSetRange, h, LabelChange.flags, LabelChange.field, flagBits, bitOf, Nat.add_assoc]

/-- An optional yes/no is present as its bit says. -/
theorem yes_read {bits bit : Nat} {o : Option Bool} (h : bits.testBit bit = o.isSome) :
    (if bits.testBit bit then some (o.getD false) else none) = o := by
  cases o <;> simp_all

theorem encodeSetRange_length {r : SetRangeReq} (h : r.wf = true) : (encodeSetRange r).length = 20 := by
  simp only [SetRangeReq.wf, Bool.and_eq_true] at h
  obtain ⟨-, hlabel⟩ := h
  simp [encodeSetRange_eq, LabelChange.field_length hlabel]

theorem decodeSetRange_encode {r : SetRangeReq} (h : r.wf = true) : decodeSetRange (encodeSetRange r) = r := by
  simp only [SetRangeReq.wf, Bool.and_eq_true] at h
  obtain ⟨⟨⟨hsession, hrange⟩, hplay⟩, hlabel⟩ := h
  have hflag := flagBits_testBit ([r.play.isSome, r.readback.isSome, r.exportable.isSome] ++ r.label.flags)
  have hcount : ([r.play.isSome, r.readback.isSome, r.exportable.isSome] ++ r.label.flags).length = 5 := by
    cases r.label <;> rfl
  have hlt := flagBits_lt ([r.play.isSome, r.readback.isSome, r.exportable.isSome] ++ r.label.flags)
  rw [hcount] at hlt
  have hmod := Nat.mod_eq_of_lt (hlt.trans (by decide : 2 ^ 5 < 256))
  have htext : textAt r.label.field 0 12 = r.label.field := by
    simpa using textAt_here (LabelChange.field_length hlabel) []
  have hchange : (if r.label.flags[1]?.getD false then .remove else if r.label.flags[0]?.getD false then
      .replace r.label.field else .keep) = r.label := by
    cases r.label <;> rfl
  rw [encodeSetRange_eq]
  generalize flagBits 0 ([r.play.isSome, r.readback.isSome, r.exportable.isSome] ++ r.label.flags) = bits at hflag hmod
  simp [-Nat.testBit_zero, decodeSetRange, fits16_mod hsession, fits16_mod hrange, getD_mod @fits8_mod hplay, hmod, htext,
    present_getD (hflag 0), yes_read (hflag 1), yes_read (hflag 2), hflag 3, hflag 4, hchange]

/-! ### Stations and read-back -/

theorem encodeConfigureStation_length {r : ConfigureStationReq} (h : r.wf = true) : (encodeConfigureStation r).length = 32 := by
  simp only [ConfigureStationReq.wf, Bool.and_eq_true] at h
  obtain ⟨-, htext⟩ := h
  simp [encodeConfigureStation, of_decide_eq_true htext]

theorem decodeConfigureStation_encode {r : ConfigureStationReq} (h : r.wf = true) :
    decodeConfigureStation (encodeConfigureStation r) = r := by
  simp only [ConfigureStationReq.wf, Bool.and_eq_true] at h
  obtain ⟨⟨⟨⟨⟨⟨⟨⟨hstation, hchannels⟩, hclasses⟩, hdepth⟩, hbackspace⟩, hplay⟩, hstride⟩, hgrace⟩, htext⟩ := h
  have hread : textAt r.text 0 20 = r.text := by simpa using textAt_here (of_decide_eq_true htext) []
  simp [decodeConfigureStation, encodeConfigureStation, fits8_mod hstation, fits8_mod hchannels, fits8_mod hclasses,
    fits8_mod hdepth, fits8_mod hbackspace, fits8_mod hplay, fits8_mod hstride, fits16_mod hgrace, hread]

theorem encodeQueueReadback_length (r : QueueReadbackReq) (chain : Bool) : (encodeQueueReadback r chain).length = 14 := by
  simp [encodeQueueReadback]

theorem encodeQueueReadback_chain (r : QueueReadbackReq) (chain : Bool) :
    yes (field (encodeQueueReadback r chain) 13 1) = chain := by
  simp [encodeQueueReadback]

theorem decodeQueueReadback_encode {r : QueueReadbackReq} (h : r.wf = true) (chain : Bool) :
    decodeQueueReadback (encodeQueueReadback r chain) = r := by
  simp only [QueueReadbackReq.wf, Bool.and_eq_true] at h
  obtain ⟨⟨⟨⟨⟨hchannel, hsession⟩, hsform⟩, heform⟩, hstart⟩, hend⟩ := h
  have hs : (if r.startForm = 0 then r.startValue % 4294967296 else r.startValue % 65536) = r.startValue := by
    split at hstart
    case isTrue hform => rw [if_pos hform, fits32_mod hstart]
    case isFalse hform => rw [if_neg hform, fits16_mod hstart]
  have he : (if r.endForm = 1 then r.endValue % 65536 else r.endValue % 4294967296) = r.endValue := by
    split at hend
    case isTrue hform => rw [if_pos hform, fits16_mod hend]
    case isFalse hform => rw [if_neg hform, fits32_mod hend]
  simp [decodeQueueReadback, encodeQueueReadback, fits8_mod hchannel, fits16_mod hsession, fits8_mod hsform, fits8_mod heform,
    hs, he]

/-- The body of SET_PLAN. -/
theorem patchAt_setPlan {p : PlanPatch} (h : p.wf = true) (n : Nat) :
    patchAt (u16 n ++ u8 (p.bits 0) ++ planBytes p.filled) 3 (field (u16 n ++ u8 (p.bits 0) ++ planBytes p.filled) 2 1) 0 = p := by
  have hmod : flagBits 0 p.flags % 256 = flagBits 0 p.flags :=
    Nat.mod_eq_of_lt ((flagBits_lt p.flags).trans (by decide : 2 ^ 5 < 256))
  have hbits : field (u16 n ++ u8 (p.bits 0) ++ planBytes p.filled) 2 1 = flagBits 0 p.flags := by
    simp [PlanPatch.bits_eq, hmod]
  rw [hbits]
  refine patchAt_filled ?_ fun j _ => (flagBits_testBit p.flags (0 + j)).trans (by rw [Nat.zero_add])
  rw [planAt_skip (by simp), planAt_planBytes (PlanPatch.filled_wf h)]

/-! ### Every request -/

/-- A request of a known KIND whose body has its length is decoded. -/
theorem answeringInstr_of_length {r : Request} (h : requestLength r.kind = some r.body.length) :
    answeringInstr r = decodeRequest r.kind r.tag r.body := by
  rw [answeringInstr, if_neg (by rw [h]; exact Option.some_ne_none _)]

/-- A request of a known KIND is answered by the command its body is decoded into. -/
theorem answered_of_decode {r : Request} {kind : Nat} {tag : Byte} {body : List Byte} {i j : Instr}
    (hr : some ⟨kind, tag, body⟩ = some r) (hlen : requestLength kind = some body.length)
    (hdecode : decodeRequest kind tag body = if requestLength kind = some body.length then some i else none) (hi : i = j) :
    answeringInstr r = some j := by
  obtain rfl := Option.some.inj hr
  rw [answeringInstr_of_length hlen, hdecode, if_pos hlen, hi]

/-- A frame number of CLOSE_RANGE, or NOW, is read back. -/
theorem opt32_read {o : Option Nat} (h : fitsOpt (fun f => decide (f < 4294967295)) o = true) :
    (if field (opt32 o) 0 4 = 0xFFFFFFFF then none else some (field (opt32 o) 0 4)) = o := by
  cases o with
  | none => simp [opt32]
  | some f =>
    have hlt : f < 4294967295 := of_decide_eq_true h
    have hmod : f % 4294967296 = f := Nat.mod_eq_of_lt (by omega)
    simp [opt32, hmod, hlt.ne]

/-- Settles O11: each KIND's body has the length R194 gives, and each field stands where R197 puts it. -/
theorem requestsReadBack : Obligations.RequestsReadBack := by
  unfold Obligations.RequestsReadBack
  intro i r hwf hrequest hunknown
  cases i with
  | requestUnknownKind tag kind body =>
    obtain rfl := Option.some.inj hrequest
    exact if_pos (hunknown tag kind body rfl)
  | identify tag | storeInfo tag | stopFetch tag => exact answered_of_decode hrequest rfl rfl rfl
  | resetFull tag => exact answered_of_decode hrequest rfl rfl rfl
  | resetLink tag scope =>
    simp only [Instr.wf, Bool.and_eq_true] at hwf
    obtain ⟨hscope, hne⟩ := hwf
    exact answered_of_decode hrequest rfl rfl (by simp [fits8_mod hscope, of_decide_eq_true hne])
  | setNoticeMask tag n | closeSession tag n | sessionInfo tag n | configureStore tag n | cutNow tag n | dispatchInfo tag n =>
    exact answered_of_decode hrequest rfl rfl (by simp [fits16_mod hwf])
  | channelInfo tag c | stationInfo tag c | readbackInfo tag c =>
    exact answered_of_decode hrequest rfl rfl (by simp [fits8_mod hwf])
  | releaseTake tag n t | takeInfo tag n t | queueTake tag n t | recallTake tag n t | clearHold tag n t | deleteMark tag n t
  | deleteRange tag n t =>
    simp only [Instr.wf, Bool.and_eq_true] at hwf
    obtain ⟨hn, ht⟩ := hwf
    exact answered_of_decode hrequest rfl rfl (by simp [fits16_mod hn, fits16_mod ht])
  | setClass tag n t k | assignTake tag n t k =>
    simp only [Instr.wf, Bool.and_eq_true] at hwf
    obtain ⟨⟨hn, ht⟩, hk⟩ := hwf
    exact answered_of_decode hrequest rfl rfl (by simp [fits16_mod hn, fits16_mod ht, fits8_mod hk])
  | openSession tag q =>
    exact answered_of_decode hrequest (congrArg some (encodeOpenSession_length hwf).symm) rfl
      (congrArg (Instr.openSession tag) (decodeOpenSession_encode hwf))
  | configureChannel tag q =>
    exact answered_of_decode hrequest (congrArg some (encodeConfigureChannel_length q).symm) rfl
      (congrArg (Instr.configureChannel tag) (decodeConfigureChannel_encode hwf))
  | setPlan tag n p =>
    simp only [Instr.wf, Bool.and_eq_true] at hwf
    obtain ⟨hn, hp⟩ := hwf
    exact answered_of_decode hrequest (by simp [requestLength]) rfl
      (congrArg₂ (Instr.setPlan tag) (by simp [fits16_mod hn]) (patchAt_setPlan hp n))
  | listTakes tag q =>
    exact answered_of_decode hrequest (congrArg some (encodeListTakes_length q).symm) rfl
      (congrArg (Instr.listTakes tag) (decodeListTakes_encode hwf))
  | addMark tag q =>
    exact answered_of_decode hrequest (congrArg some (encodeAddMark_length hwf).symm) rfl
      (congrArg (Instr.addMark tag) (decodeAddMark_encode hwf))
  | listMarks tag q =>
    exact answered_of_decode hrequest (congrArg some (encodeListMarks_length q).symm) rfl
      (congrArg (Instr.listMarks tag) (decodeListMarks_encode hwf))
  | openRange tag q =>
    exact answered_of_decode hrequest (congrArg some (encodeOpenRange_length hwf).symm) rfl
      (congrArg (Instr.openRange tag) (decodeOpenRange_encode hwf))
  | closeRange tag n g stop =>
    simp only [Instr.wf, Bool.and_eq_true] at hwf
    obtain ⟨⟨hn, hg⟩, hstop⟩ := hwf
    have hlen : (opt32 stop).length = 4 := by cases stop <;> exact u32_length _
    exact answered_of_decode hrequest (by simp [requestLength, hlen]) rfl
      (by simp [fits16_mod hn, fits16_mod hg, opt32_read hstop])
  | setRange tag q =>
    exact answered_of_decode hrequest (congrArg some (encodeSetRange_length hwf).symm) rfl
      (congrArg (Instr.setRange tag) (decodeSetRange_encode hwf))
  | listRanges tag q =>
    exact answered_of_decode hrequest (congrArg some (encodeListRanges_length q).symm) rfl
      (congrArg (Instr.listRanges tag) (decodeListRanges_encode hwf))
  | configureStation tag q =>
    exact answered_of_decode hrequest (congrArg some (encodeConfigureStation_length hwf).symm) rfl
      (congrArg (Instr.configureStation tag) (decodeConfigureStation_encode hwf))
  | queueReadbackChain tag q | queueReadbackPreempt tag q =>
    exact answered_of_decode hrequest (congrArg some (encodeQueueReadback_length q _).symm) rfl
      (by simp [encodeQueueReadback_chain, decodeQueueReadback_encode hwf])
  | cancelReadbackCurrent tag c => exact answered_of_decode hrequest rfl rfl (by simp [fits8_mod hwf])
  | cancelReadbackAll tag c scope =>
    simp only [Instr.wf, Bool.and_eq_true] at hwf
    obtain ⟨⟨hc, hscope⟩, hone⟩ := hwf
    exact answered_of_decode hrequest rfl rfl
      (by simp [fits8_mod hc, fits8_mod hscope, Nat.ne_of_gt (of_decide_eq_true hone)])
  | configureReadback tag c k =>
    simp only [Instr.wf, Bool.and_eq_true] at hwf
    obtain ⟨hc, hk⟩ := hwf
    exact answered_of_decode hrequest rfl rfl (by simp [fits8_mod hc, fits8_mod hk])
  | fetchAudio tag n p k =>
    simp only [Instr.wf, Bool.and_eq_true] at hwf
    obtain ⟨⟨hn, hp⟩, hk⟩ := hwf
    exact answered_of_decode hrequest rfl rfl (by simp [fits16_mod hn, fits32_mod hp, fits32_mod hk])
  | fetchAudioContinue tag form k =>
    simp only [Instr.wf, Bool.and_eq_true] at hwf
    obtain ⟨⟨hform, hone⟩, hk⟩ := hwf
    exact answered_of_decode hrequest rfl rfl
      (by simp [fits8_mod hform, fits32_mod hk, Nat.ne_of_gt (of_decide_eq_true hone)])
  | _ => cases hrequest

end Sys2Proof
end

section
/-! SUPPORT. Messages and station packets as received (R126, R176 to R178, R193, R201, R202). -/

namespace Sys2Proof

open Machine

/-! ### Messages -/

/-- Settles O12: LEN says where the body ends, and the check covers the bytes it was taken of. -/
theorem framedMessagesAreReceived : Obligations.FramedMessagesAreReceived := by
  unfold Obligations.FramedMessagesAreReceived
  intro s kind tag body hbody
  have hlen : ofLE (u16 (body.length + 2)) = body.length + 2 := by
    rw [u16, ofLE_le]
    exact Nat.mod_eq_of_lt (by omega)
  obtain ⟨l0, l1, hu⟩ : ∃ l0 l1, u16 (body.length + 2) = [l0, l1] := ⟨_, _, rfl⟩
  rw [hu] at hlen
  have hbytes : (messageBytes kind tag body).tail =
      l0 :: l1 :: kind :: tag :: (body ++ checkBytes (l0 :: l1 :: kind :: tag :: body)) := by
    simp [messageBytes, hu]
  have hwhole : (body ++ checkBytes (l0 :: l1 :: kind :: tag :: body)).length = ofLE [l0, l1] := by
    rw [hlen, List.length_append, checkBytes, le_length]
  have hsub : ofLE [l0, l1] - 2 = body.length := by omega
  rw [hbytes]
  simp only [State.receiveMessage, hsub, List.take_left, List.drop_left]
  rw [if_pos hwhole, if_pos trivial]

/-! ### Keys and packets -/

theorem checkBytes_length (l : List Byte) : (checkBytes l).length = 2 := le_length 2 _

/-- A packet that is not discarded and whose body its kind's length cuts out. -/
theorem decodePacket_whole {n : StationId} {kind : Byte} {body : List Byte} (hkind : packetLength kind = some body.length) :
    decodePacket n (kind :: (body ++ checkBytes (kind :: body))) = decodeBody n body := by
  have hlen : (body ++ checkBytes (kind :: body)).length = body.length + 2 := by rw [List.length_append, checkBytes_length]
  have hgood : packetBad (kind :: (body ++ checkBytes (kind :: body))) = false := by
    simp [packetBad, hkind]
  rw [decodePacket, hgood, if_neg Bool.false_ne_true]
  simp only [hkind, if_pos hlen, List.take_left]

/-- A whole packet with another check is discarded. -/
theorem decodePacket_badCheck {n : StationId} {kind : Byte} {body check : List Byte} (hkind : packetLength kind = some body.length)
    (hlen : check.length = 2) (hcheck : check ≠ checkBytes (kind :: body)) :
    decodePacket n (kind :: (body ++ check)) = some (.stationPacketInvalid ⟨n, 0xB5 :: kind :: (body ++ check)⟩ false) := by
  have hbad : packetBad (kind :: (body ++ check)) = true := by simp [packetBad, hkind, hlen, hcheck]
  rw [decodePacket, hbad, if_pos rfl]

theorem packetLength_eq_none {kind : Byte} (h1 : kind ≠ 0x11) (h2 : kind ≠ 0x12) : packetLength kind = none := by
  unfold packetLength
  split
  · exact absurd rfl h1
  · exact absurd rfl h2
  · rfl

/-- A code outside the table names no key. -/
theorem decodeKey_unlisted (n : StationId) {code action : Byte} (h : code ∉ [0x01, 0x02, 0x03, 0x10, 0x11, 0x12, 0x13]) :
    decodeKey n code action = .keyUnknown n code action := by
  unfold decodeKey
  split
  · dsimp only
    split <;> simp at h ⊢
  · rfl

/-- A key brings no invalid packet. -/
theorem decodeKey_ne_invalid (n : StationId) (code action : Byte) (line : LineBytes) (low : Bool) :
    decodeKey n code action ≠ .stationPacketInvalid line low := by
  unfold decodeKey
  split
  · dsimp only
    split <;> exact fun h => Instr.noConfusion h
  · exact fun h => Instr.noConfusion h

theorem decodeBody_ne_invalid (n : StationId) (body : List Byte) (line : LineBytes) (low : Bool) :
    decodeBody n body ≠ some (.stationPacketInvalid line low) := by
  unfold decodeBody
  split
  · exact fun h => Instr.noConfusion (Option.some.inj h)
  · exact fun h => decodeKey_ne_invalid n _ _ line low (Option.some.inj h)
  · exact fun h => nomatch h

/-- A packet is discarded exactly at a byte that makes it one to discard. -/
theorem decodePacket_invalid_iff (n : StationId) (packet : List Byte) :
    decodePacket n packet = some (.stationPacketInvalid ⟨n, 0xB5 :: packet⟩ false) ↔ packetBad packet = true := by
  constructor
  · intro h
    by_contra hgood
    unfold decodePacket at h
    rw [if_neg hgood] at h
    split at h
    · cases h
    · split at h
      · split at h
        · exact decodeBody_ne_invalid n _ _ _ h
        · cases h
      · cases h
  · intro h
    unfold decodePacket
    exact if_pos h

/-- Bytes before the first start byte are passed over. -/
theorem packetOf_noise {noise : List Byte} (h : ∀ b ∈ noise, b ≠ 0xB5) :
    packetOf noise = none ∧ ∀ packet, packetOf (noise ++ 0xB5 :: packet) = some packet := by
  have hall : ∀ b ∈ noise, decide (b ≠ 0xB5) = true := fun b hb => decide_eq_true (h b hb)
  constructor
  · rw [packetOf, List.dropWhile_eq_nil_iff.2 hall]
  · intro packet
    rw [packetOf, List.dropWhile_append_of_pos hall]
    rfl

/-- While a packet is being received. -/
theorem packetOpen_iff (packet : List Byte) : packetOpen packet = true ↔ packet = [] ∨ ∃ kind rest, packet = kind :: rest
    ∧ ((kind = 0x11 ∧ rest.length < 4) ∨ (kind = 0x12 ∧ rest.length < 3)) := by
  cases packet with
  | nil => simp [packetOpen]
  | cons kind rest =>
    by_cases h1 : kind = 0x11
    · subst h1
      simp [packetOpen, packetLength]
    · by_cases h2 : kind = 0x12
      · subst h2
        simp [packetOpen, packetLength]
      · have hopen : packetOpen (kind :: rest) = false := by simp only [packetOpen, packetLength_eq_none h1 h2]
        refine ⟨fun h => Bool.noConfusion (hopen.symm.trans h), ?_⟩
        rintro (h | ⟨k, l, h, (⟨hk, -⟩ | ⟨hk, -⟩)⟩)
        · cases h
        · exact absurd ((List.cons.inj h).1.trans hk) h1
        · exact absurd ((List.cons.inj h).1.trans hk) h2

/-- Settles O13: the kind fixes the length, the check is over what stands before it, and a start byte ends the search. -/
theorem stationPacketsAreRead : Obligations.StationPacketsAreRead := by
  unfold Obligations.StationPacketsAreRead
  refine fun n => ⟨fun model => decodePacket_whole (body := [model]) rfl,
    fun code action => decodePacket_whole (body := [code, action]) rfl, fun press => ?_, fun code action h => ?_,
    fun code action c0 c1 h => decodePacket_badCheck (body := [code, action]) rfl rfl h,
    fun model c0 c1 h => decodePacket_badCheck (body := [model]) rfl rfl h, fun kind h1 h2 => ?_, fun noise h => ?_⟩
  · exact ⟨by cases press <;> rfl, by cases press <;> rfl, by cases press <;> rfl, by cases press <;> rfl,
      by cases press <;> rfl, by cases press <;> rfl, by cases press <;> rfl, fun code hcode => decodeKey_unlisted n hcode⟩
  · have h0 : action ≠ 0 := fun h0 => by subst h0; exact absurd h (by decide)
    have h1 : action ≠ 1 := fun h1 => by subst h1; exact absurd h (by decide)
    rw [decodeKey, if_neg (not_or_intro h0 h1)]
  · have hnone := packetLength_eq_none h1 h2
    constructor
    · exact (decodePacket_invalid_iff n [kind]).2 (by simp [packetBad, hnone])
    · intro b rest
      have hgood : packetBad (kind :: b :: rest) = false := by simp [packetBad, hnone]
      rw [decodePacket, hgood, if_neg Bool.false_ne_true]
      simp only [hnone]
  · obtain ⟨hnone, hsome⟩ := packetOf_noise h
    refine ⟨by rw [receivingPacket, hnone]; rfl, by rw [receivedBad, hnone]; rfl, fun packet => ⟨?_, ?_⟩⟩
    · rw [receivingPacket, hsome]
      exact packetOpen_iff packet
    · rw [receivedBad, hsome]
      exact (decodePacket_invalid_iff n packet).symm

end Sys2Proof
end

section
/-! SUPPORT. The receiver (R175 to R178). -/

namespace Sys2Proof.Machine

/-! ### Messages received -/

theorem messageBytes_tail_length (kind tag : Byte) (body : List Byte) : (messageBytes kind tag body).tail.length = body.length + 6 := by
  simp [messageBytes, checkBytes_length]
  omega

/-- A message framed and checked is received as its request. -/
theorem exec_framed (s : State) (kind tag : Byte) {body : List Byte} (hbody : body.length ≤ 1024) :
    exec (.messageReceived (messageBytes kind tag body).tail) s =
      .next (State.finish s ((s.modLink Link.hunt).receiveRequest ⟨kind.toNat, tag, body⟩)) := by
  have hlen := messageBytes_tail_length kind tag body
  rw [← framedMessagesAreReceived s kind tag body hbody]
  exact if_pos ⟨by omega, by omega⟩

/-- The link's own answer at the taking. -/
theorem linkCheck_cases (device : DeviceState) (r : Request) :
    (linkCheck device r).map (fun status => makeReply r (refuse status)) =
      if device = .starting ∧ r.kind ≠ 1 then some (makeReply r ⟨.starting, []⟩)
      else if requestLength r.kind ≠ none ∧ requestLength r.kind ≠ some r.body.length then some (makeReply r ⟨.badLength, []⟩)
      else none := by
  unfold linkCheck
  by_cases h : device = .starting ∧ r.kind ≠ 1
  · rw [if_pos h, if_pos h]; rfl
  · rw [if_neg h, if_neg h]
    cases hlen : requestLength r.kind with
    | none => simp
    | some n =>
      by_cases hn : r.body.length = n
      · simp [hn]
      · simp [hn, Ne.symm hn, refuse]

/-- An idle link takes the head of its buffer. -/
theorem State.takeRequest_idle {s : State} {r : Request} {rest : List Request} (hidle : s.link.inProgress = none)
    (hbuffer : s.link.buffer = r :: rest) :
    s.takeRequest.offLine = (s.modLink fun l => { l with buffer := rest }).offLine
      ∧ s.takeRequest.link.inProgress =
        some ⟨r, (linkCheck s.link.device r).map fun status => makeReply r (refuse status)⟩
      ∧ s.takeRequest.link.line = s.link.line ∧ s.takeRequest.link.buffer = rest := by
  unfold State.takeRequest
  rw [hidle, hbuffer]
  dsimp only [State.modLink_link]
  cases linkCheck s.link.device r <;> exact ⟨rfl, rfl, rfl, rfl⟩

/-- A busy link takes nothing. -/
theorem State.takeRequest_busy {s : State} (h : s.link.inProgress ≠ none) : s.takeRequest = s := by
  unfold State.takeRequest
  cases hp : s.link.inProgress with
  | none => exact absurd hp h
  | some p => rfl

/-- The transmitter leaves a waiting reply waiting, or sends it. -/
theorem State.transmit_reply {s : State} {r : Reply} (h : r ∈ s.link.replies) :
    r ∈ s.transmit.link.replies ∨ s.transmit.link.line = some (.reply r) := by
  unfold State.transmit
  split
  · exact .inl h
  · split
    · next q rest hq =>
      rw [hq] at h
      rcases List.mem_cons.1 h with rfl | hr
      · exact .inr rfl
      · exact .inl hr
    · next hnone => rw [hnone] at h; cases h

/-- A discard is counted, named and reported. -/
theorem State.discardMessage_spec (before s : State) (cause : LinkCause) :
    (State.finish before (s.discardMessage cause)).link.inProgress = s.link.inProgress
      ∧ (State.finish before (s.discardMessage cause)).offLine = { s with link := { s.link with
          receive := .hunting, messageTimer := none, errorCount := min 65535 (s.link.errorCount + 1)
          lastCause := some cause } }.offLine
      ∧ (s.hears .linkError → (State.finish before (s.discardMessage cause)).told .linkError .whole) := by
  refine ⟨?_, ?_, fun h => State.finish_told before (State.raise_told ?_ _ _)⟩
  · rw [State.finish_inProgress, State.discardMessage, State.raise_link, Link.raise_inProgress]
    rfl
  · rw [State.finish_offLine, State.discardMessage, State.raise_offLine]
    rfl
  · exact h

/-- Settles O17: the four ways of R178 for a request received. -/
theorem messagesAreTakenOrAnsweredBusy : Obligations.MessagesAreTakenOrAnsweredBusy := by
  intro s kind tag body hbody
  have hexec := exec_framed s kind tag hbody
  refine ⟨fun hbusy hroom => ?_, fun hidle hempty => ?_, fun hfull hroom => ?_, fun hfull hreplies => ?_⟩
  · have hreceive : (s.modLink Link.hunt).receiveRequest ⟨kind.toNat, tag, body⟩ =
        (s.modLink Link.hunt).modLink fun l => { l with buffer := l.buffer ++ [⟨kind.toNat, tag, body⟩] } := by
      rw [State.receiveRequest, if_pos (by exact hroom), State.takeRequest_busy (by exact hbusy)]
    rw [hreceive] at hexec
    exact ⟨_, hexec, State.finish_inProgress .., State.finish_offLine ..⟩
  · have hroom : s.link.buffer.length < Config.receiveBuffer := by rw [hempty]; decide
    have hreceive : (s.modLink Link.hunt).receiveRequest ⟨kind.toNat, tag, body⟩ =
        ((s.modLink Link.hunt).modLink fun l => { l with buffer := l.buffer ++ [⟨kind.toNat, tag, body⟩] }).takeRequest :=
      if_pos hroom
    obtain ⟨hoff, hprogress, -⟩ := State.takeRequest_idle (rest := s.link.buffer)
      (s := (s.modLink Link.hunt).modLink fun l => { l with buffer := l.buffer ++ [⟨kind.toNat, tag, body⟩] }) hidle
      (by change s.link.buffer ++ _ = _; rw [hempty]; rfl)
    rw [hreceive] at hexec
    exact ⟨_, hexec, (State.finish_offLine ..).trans hoff,
      (State.finish_inProgress ..).trans (hprogress.trans (congrArg _ (congrArg _ (linkCheck_cases ..))))⟩
  · have hreceive : (s.modLink Link.hunt).receiveRequest ⟨kind.toNat, tag, body⟩ =
        (s.modLink Link.hunt).modLink fun l => { l with replies := l.replies ++ [busyReply ⟨kind.toNat, tag, body⟩] } := by
      rw [State.receiveRequest, if_neg (by exact Nat.not_lt.2 hfull), if_pos (by exact hroom)]
    rw [hreceive] at hexec
    have hlink := State.stationLines_link s ((s.modLink Link.hunt).modLink fun l =>
      { l with replies := l.replies ++ [busyReply ⟨kind.toNat, tag, body⟩] }).transmit
    have hreply := State.transmit_reply (s := (s.modLink Link.hunt).modLink fun l =>
      { l with replies := l.replies ++ [busyReply ⟨kind.toNat, tag, body⟩] })
      (List.mem_append_right _ (List.mem_singleton_self _))
    rw [← hlink] at hreply
    exact ⟨_, hexec, State.finish_offLine .., State.finish_inProgress .., hreply⟩
  · have hreceive : (s.modLink Link.hunt).receiveRequest ⟨kind.toNat, tag, body⟩ =
        (s.modLink Link.hunt).discardMessage .overrun := by
      rw [State.receiveRequest, if_neg (by exact Nat.not_lt.2 hfull), if_neg (by exact Nat.not_lt.2 hreplies)]
    obtain ⟨hprogress, hoff, htold⟩ := State.discardMessage_spec s (s.modLink Link.hunt) .overrun
    rw [← hreceive] at hprogress hoff htold
    exact ⟨_, hexec, hprogress, htold, hoff⟩

/-- Settles O18: each discard is `discardMessage` with its cause. -/
theorem receiverCollectsAndDiscards : Obligations.ReceiverCollectsAndDiscards := by
  intro s
  refine ⟨fun len h => ⟨_, if_pos h, State.discardMessage_spec s s _⟩, fun h => ?_, fun h => ?_, fun h => ?_,
    fun kind tag body c0 c1 hbody hcheck => ?_⟩
  · refine ⟨?_, ?_, ?_⟩
    · change execStartByte s = _
      unfold execStartByte; rw [h]; rfl
    · change execInvalidByte s = _
      unfold execInvalidByte; rw [h]
    · change execMessageTimeout s = _
      unfold execMessageTimeout; rw [h]
  · change execStartByte s = _
    unfold execStartByte; rw [h]
  · constructor
    · refine ⟨_, ?_, State.discardMessage_spec s s _⟩
      change execMessageTimeout s = _
      unfold execMessageTimeout; rw [h]
    · refine ⟨_, ?_, State.discardMessage_spec s s _⟩
      change execInvalidByte s = _
      unfold execInvalidByte; rw [h]
  · refine ⟨_, ?_, State.discardMessage_spec s s _⟩
    have hlen : ofLE (u16 (body.length + 2)) = body.length + 2 := by
      rw [u16, ofLE_le]
      exact Nat.mod_eq_of_lt (by omega)
    obtain ⟨l0, l1, hu⟩ : ∃ l0 l1, u16 (body.length + 2) = [l0, l1] := ⟨_, _, rfl⟩
    rw [hu] at hlen hcheck ⊢
    have hwhole : (body ++ [c0, c1]).length = ofLE [l0, l1] := by rw [hlen, List.length_append]; rfl
    have hsub : ofLE [l0, l1] - 2 = body.length := by omega
    have hreceive : s.receiveMessage (l0 :: l1 :: kind :: tag :: (body ++ [c0, c1])) = s.discardMessage .badCheck := by
      simp only [State.receiveMessage, hsub, List.take_left, List.drop_left]
      rw [if_pos hwhole, if_neg (by exact hcheck)]
    have hbytes : [l0, l1] ++ [kind, tag] ++ body ++ [c0, c1] = l0 :: l1 :: kind :: tag :: (body ++ [c0, c1]) := by simp
    rw [hbytes, ← hreceive]
    refine if_pos ?_
    simp only [List.length_cons, hwhole, hlen]
    omega

end Sys2Proof.Machine
end

section
/-! SUPPORT. Requests taken, refused and answered by the link itself (R179, R183 to R187). -/

namespace Sys2Proof.Machine

/-! ### The request a command is performed as -/

/-- No KIND of the table is read as an unknown one. -/
theorem decodeRequest_ne_unknown (kind : Nat) (tag : Byte) (b : List Byte) (tag' : Byte) (kind' : Nat) (body : List Byte) :
    decodeRequest kind tag b ≠ some (.requestUnknownKind tag' kind' body) := by
  intro h
  unfold decodeRequest at h
  repeat' split at h
  all_goals simp at h
  all_goals split at h <;> cases h

/-- A command of an unknown KIND stands for the very request it carries. -/
theorem State.requestOr_unknown {s : State} {tag : Byte} {kind : Nat} {body : List Byte}
    (h : s.admits (.requestUnknownKind tag kind body) = true) : s.requestOr ⟨kind, tag, body⟩ = ⟨kind, tag, body⟩ := by
  unfold State.admits at h
  unfold State.requestOr
  cases hp : s.link.inProgress with
  | none => rfl
  | some p =>
    rw [hp] at h
    obtain ⟨-, hanswer⟩ := (Bool.and_eq_true _ _).mp h
    have hanswer := of_decide_eq_true hanswer
    unfold answeringInstr at hanswer
    split at hanswer
    · obtain ⟨htag, hkind, hbody⟩ := Instr.requestUnknownKind.inj (Option.some.inj hanswer)
      rw [← htag, ← hkind, ← hbody]
    · exact (decodeRequest_ne_unknown _ _ _ _ _ _ hanswer).elim

/-- The state the rule of an admitted request runs on: its request is the one in progress. -/
theorem State.withRequest_eq {s : State} {i : Instr} (h : s.admits i = true) (r : Request) :
    s.withRequest (s.requestOr r) = s.modLink fun l => { l with inProgress := some ⟨s.requestOr r, none⟩ } := by
  have hprogress := State.withRequest_inProgress h r
  unfold State.withRequest at hprogress ⊢
  split at hprogress
  · unfold State.modLink
    rw [← hprogress]
  · rfl

/-- The reply of the request in progress is recorded. -/
theorem State.recordReply_inProgress {s : State} {r : Request} {rep : Option Reply} (h : s.link.inProgress = some ⟨r, rep⟩)
    (q : Reply) : (s.recordReply q).link.inProgress = some ⟨r, some q⟩ := by
  simp [State.recordReply, h]

/-! ### Unknown kinds, and the part while STARTING -/

/-- Settles O19. -/
theorem unknownKindIsRefused : Obligations.UnknownKindIsRefused := by
  intro s tag kind body i htaken hlt hunknown
  obtain ⟨hadmits, hready⟩ := htaken
  have hr := State.requestOr_unknown hadmits
  have hprogress := State.withRequest_inProgress hadmits ⟨kind, tag, body⟩
  rw [hr] at hprogress
  have hexec : exec i s = .next (State.finish s ((s.withRequest ⟨kind, tag, body⟩).recordReply (unknownReply ⟨kind, tag, body⟩))) := by
    change execRequestUnknownKind tag kind body s = _
    unfold execRequestUnknownKind
    rw [if_pos ⟨hadmits, hunknown⟩, hready, if_neg (by decide)]
  refine ⟨_, hexec, ?_, ?_⟩
  · rw [State.finish_inProgress]
    exact State.recordReply_inProgress hprogress _
  · rw [State.finish_offLine, State.recordReply_offLine, State.withRequest_offLine]

/-- A request performed while STARTING is answered STARTING. -/
theorem State.performRequest_starting {s : State} {i : Instr} {r : Request} (hr : i.request = some r)
    (hadmits : s.admits i = true) (hstarting : s.link.device = .starting) (hkind : (s.requestOr r).kind ≠ 1)
    (f : State → State × Answer) :
    (s.performRequest i f).link.inProgress = some ⟨s.requestOr r, some (makeReply (s.requestOr r) ⟨.starting, []⟩)⟩
      ∧ (s.performRequest i f).offLine = s.offLine := by
  have hperform : s.performRequest i f =
      (s.withRequest (s.requestOr r)).recordReply (makeReply (s.requestOr r) (refuse .starting)) := by
    simp [State.performRequest, hr, hadmits, hstarting, hkind]
  rw [hperform]
  exact ⟨State.recordReply_inProgress (State.withRequest_inProgress hadmits r) _, State.withRequest_offLine ..⟩

/-- Settles O20: every request command is `performRequest` of its own rule, which does not run. -/
theorem startingRefusesRequests : Obligations.StartingRefusesRequests := by
  intro i r s hr hkind hadmits hstarting hunknown
  have still {f : State → State × Answer} (hexec : exec i s = s.request i f) :
      ∃ v t, exec i s = .next t ∧ (t = State.finish s v ∨ t = State.settleAll s v)
        ∧ v.link.inProgress = some ⟨s.requestOr r, some (makeReply (s.requestOr r) ⟨.starting, []⟩)⟩ ∧ v.offLine = s.offLine :=
    ⟨_, _, hexec, .inl rfl, State.performRequest_starting hr hadmits hstarting hkind f⟩
  have moving {f : State → State × Answer} (hexec : exec i s = s.requestMoving i f) :
      ∃ v t, exec i s = .next t ∧ (t = State.finish s v ∨ t = State.settleAll s v)
        ∧ v.link.inProgress = some ⟨s.requestOr r, some (makeReply (s.requestOr r) ⟨.starting, []⟩)⟩ ∧ v.offLine = s.offLine :=
    ⟨_, _, hexec, .inr rfl, State.performRequest_starting hr hadmits hstarting hkind f⟩
  cases i with
  | requestUnknownKind tag kind body =>
    obtain rfl := Option.some.inj hr
    have hr := State.requestOr_unknown hadmits
    have hprogress := State.withRequest_inProgress hadmits ⟨kind, tag, body⟩
    rw [hr] at hprogress ⊢
    refine ⟨(s.withRequest ⟨kind, tag, body⟩).recordReply (makeReply ⟨kind, tag, body⟩ (refuse .starting)), _, ?_, .inl rfl,
      State.recordReply_inProgress hprogress _, State.withRequest_offLine ..⟩
    change execRequestUnknownKind tag kind body s = _
    unfold execRequestUnknownKind
    rw [if_pos ⟨hadmits, hunknown tag kind body rfl⟩, if_pos hstarting]
  | identify | resetLink | resetFull | setNoticeMask | openSession | sessionInfo | storeInfo | configureStore | configureChannel
  | channelInfo | setPlan | takeInfo | listTakes | queueTake | setClass | recallTake | assignTake | clearHold | dispatchInfo
  | stopFetch | addMark | deleteMark | listMarks | openRange | closeRange | setRange | deleteRange | listRanges
  | configureReadback | readbackInfo | configureStation | stationInfo => exact still rfl
  | closeSession | cutNow | releaseTake | fetchAudio | fetchAudioContinue | queueReadbackChain | queueReadbackPreempt
  | cancelReadbackCurrent | cancelReadbackAll => exact moving rfl
  | _ => cases hr

end Sys2Proof.Machine
end

section
/-! SUPPORT. Resets by request, the end of a reply and the notice mask (R178, R179, R183, R186, R187). -/

namespace Sys2Proof.Machine

/-! ### Requests that move frames -/

/-- What a request command that moves frames brings, when its rule keeps the request in progress. -/
theorem State.requestMoving_spec {s : State} {i : Instr} {r : Request} (h : Taken i s) (hr : i.request = some r)
    (f : State → State × Answer)
    (hf : (f (s.withRequest (s.requestOr r))).1.link.inProgress = (s.withRequest (s.requestOr r)).link.inProgress) :
    ∃ v q, s.requestMoving i f = .next (State.settleAll s v) ∧ v = (f (s.withRequest (s.requestOr r))).1.recordReply q
      ∧ Answered i s v (f (s.withRequest (s.requestOr r))).2 := by
  refine ⟨_, _, rfl, State.performRequest_taken h hr f, r, hr, ?_⟩
  rw [State.performRequest_taken h hr]
  exact State.recordReply_inProgress (hf.trans (State.withRequest_inProgress h.1 r)) _

/-! ### RESET FULL, and the end of a reply -/

/-- Settles O22. -/
theorem resetFullIsAnsweredFirst : Obligations.ResetFullIsAnsweredFirst := by
  intro s tag h
  obtain ⟨t, ht, hanswered, hoff⟩ := State.request_spec h rfl
    (fun s => (s.modLink fun l => { l with fullReset := true }, ⟨.ok, []⟩)) (by rfl)
  refine ⟨t, ht, hanswered, hoff.trans ?_⟩
  rw [State.withRequest_eq h.1]
  rfl

/-- What the link has to say of a request before any block sees it. -/
theorem linkCheck_eq_none (device : DeviceState) (r : Request) : linkCheck device r = none ↔
    (device = .ready ∨ r.kind = 1) ∧ (requestLength r.kind = none ∨ requestLength r.kind = some r.body.length) := by
  unfold linkCheck
  by_cases h : device = .starting ∧ r.kind ≠ 1
  · rw [if_pos h]
    obtain ⟨hdevice, hkind⟩ := h
    simp [hdevice, hkind]
  · rw [if_neg h]
    have hor : device = .ready ∨ r.kind = 1 := by
      cases device with
      | starting => exact .inr (not_not.mp fun hk => h ⟨rfl, hk⟩)
      | ready => exact .inl rfl
    cases hlen : requestLength r.kind with
    | none => simp [hor]
    | some n => simp [hor, eq_comm]

/-- Settles O23: the three ends of a reply on the line. -/
theorem replySentEndsTheRequest : Obligations.ReplySentEndsTheRequest := by
  intro s r hline
  have hexec : exec .replySent s = .next (State.settleAll s (if r.busy then s.freeLine else s.freeLine.replyDone)) := by
    change execReplySent s = _
    unfold execReplySent
    rw [hline]
  refine ⟨fun hbusy => ?_, fun hbusy hfull => ⟨fun hempty => ?_, fun q rest hbuffer => ?_⟩, fun hbusy hfull => ?_⟩
  · rw [hbusy] at hexec
    exact ⟨_, hexec, rfl⟩
  · rw [hbusy] at hexec
    refine ⟨_, hexec, ?_⟩
    have hdone : s.freeLine.replyDone = (s.freeLine.modLink fun l => { l with inProgress := none }).takeRequest := by
      unfold State.replyDone
      rw [if_neg (by exact fun h => Bool.noConfusion (hfull.symm.trans h))]
    have hidle : (s.freeLine.modLink fun l => { l with inProgress := none }).takeRequest =
        s.freeLine.modLink fun l => { l with inProgress := none } := by
      have hb : (s.freeLine.modLink fun l => { l with inProgress := none }).link.buffer = [] := hempty
      unfold State.takeRequest
      rw [hb]
      rfl
    rw [if_neg Bool.false_ne_true, hdone, hidle]
    rfl
  · rw [hbusy] at hexec
    refine ⟨_, hexec, ?_⟩
    have hdone : s.freeLine.replyDone = (s.freeLine.modLink fun l => { l with inProgress := none }).takeRequest := by
      unfold State.replyDone
      rw [if_neg (by exact fun h => Bool.noConfusion (hfull.symm.trans h))]
    obtain ⟨hoff, hprogress, hfree, hrest⟩ := State.takeRequest_idle
      (s := s.freeLine.modLink fun l => { l with inProgress := none }) rfl hbuffer
    rw [if_neg Bool.false_ne_true, hdone]
    refine ⟨hfree, hrest, hoff, _, hprogress, ?_⟩
    rw [Option.map_eq_none_iff]
    exact linkCheck_eq_none ..
  · rw [hbusy] at hexec
    refine ⟨_, hexec, ?_⟩
    have hdone : s.freeLine.replyDone = s.freeLine.fullReset := by
      unfold State.replyDone
      rw [if_pos (by exact hfull)]
    rw [if_neg Bool.false_ne_true, hdone]
    exact ⟨rfl, rfl, rfl, rfl, rfl, rfl, rfl, rfl, rfl, rfl, rfl, rfl, rfl, rfl, rfl, rfl, rfl, rfl, rfl, rfl, rfl, rfl, rfl⟩

/-! ### The notice mask -/

theorem NoticeKind.code_lt (k : NoticeKind) : k.code < 16 := by cases k <;> decide

/-- Settles O24: what is removed is what the new mask leaves out of the old one. -/
theorem noticeMaskIsReplaced : Obligations.NoticeMaskIsReplaced := by
  intro s tag mask h removed
  have hkeep (n : Notice) : (!(s.link.mask.getLsbD n.kind.code && !(BitVec.ofNat 16 (mask % 4096)).getLsbD n.kind.code)) =
      !removed n := by
    have hcode := NoticeKind.code_lt n.kind
    simp only [removed, BitVec.getLsbD_ofNat, hcode, decide_true, Bool.true_and]
  have hfilter : (s.link.notices.filter fun n =>
      !(s.link.mask.getLsbD n.kind.code && !(BitVec.ofNat 16 (mask % 4096)).getLsbD n.kind.code)) =
      s.link.notices.filter fun n => !removed n := List.filter_congr fun n _ => hkeep n
  have hw := State.withRequest_eq h.1 ⟨0x03, tag, u16 mask⟩
  obtain ⟨t, ht, hanswered, hoff⟩ := State.request_spec h rfl
    (fun s => let s := s.modLink fun l => l.setMask (BitVec.ofNat 16 (mask % 4096))
      (s, ⟨adjusted (decide (mask % 4096 ≠ mask)), u16 (mask % 4096) ++ u16 s.link.notices.length⟩)) (by rfl)
  have hnotices := State.request_notices h rfl ht
  rw [hw] at hanswered hoff hnotices
  have hset : t.link.notices = s.link.notices.filter fun n => !removed n := hnotices.trans hfilter
  refine ⟨t, ht, ?_, hoff, ?_, ?_⟩
  · have hstatus : adjusted (decide (mask % 4096 ≠ mask)) = if mask % 4096 = mask then .ok else .adjusted := by
      by_cases hm : mask % 4096 = mask <;> simp [hm, adjusted]
    rw [← hstatus, ← hfilter]
    exact hanswered
  · intro n hn
    rw [hset] at hn
    simpa using List.mem_filter.mp hn
  · intro n hn hstay
    rw [hset]
    exact .inl (List.mem_filter.mpr ⟨hn, by rw [hstay]; rfl⟩)

end Sys2Proof.Machine
end

section
/-! SUPPORT. RESET LINK (R186). -/

namespace Sys2Proof.Machine

/-! ### What a recomputed trim point tells the link -/

theorem State.checkCondition_link (s : State) :
    s.checkCondition.link = s.link ∨ ∃ contents, s.checkCondition.link = s.link.raise .store .whole contents := by
  unfold State.checkCondition
  dsimp only
  split
  · exact .inl rfl
  · exact .inr ⟨_, rfl⟩

theorem State.trimStore_link (s : State) (n : Nat) :
    (s.trimStore n).link = s.link ∨ ∃ contents, (s.trimStore n).link = s.link.raise .store .whole contents := by
  unfold State.trimStore
  split
  · split
    · exact State.checkCondition_link _
    · exact .inl rfl
  · exact .inl rfl

/-- Recomputing a trim point raises a STORE notice at most. -/
theorem State.recomputeTrim_link (s : State) (n : Nat) :
    (s.recomputeTrim n).link = s.link ∨ ∃ contents, (s.recomputeTrim n).link = s.link.raise .store .whole contents := by
  unfold State.recomputeTrim
  split
  · dsimp only
    split
    · exact s.trimStore_link n
    · split
      · exact State.trimStore_link _ n
      · exact .inl rfl
  · exact .inl rfl

/-- The bytes of the store are written by the end of a capture transfer alone. -/
theorem Move.mem {k : Kind} {s t : State} (h : Move k s t) (hk : k ≠ .frame) : t.store.mem = s.store.mem := by
  cases h with
  | place n f st b slot hn hplace => obtain ⟨-, -, hmem, -⟩ := Store.place_bounds hplace; exact hmem
  | frame => exact absurd rfl hk
  | _ => rfl

theorem Reach.mem {K : List Kind} {s t : State} (h : Reach K s t) (hK : Kind.frame ∉ K) : t.store.mem = s.store.mem :=
  h.keeps (fun u => u.store.mem) fun _ hk _ _ hm => hm.mem fun he => hK (he ▸ hk)

/-- The first notice of an empty set is the one raised. -/
theorem Link.raise_store_of_empty {l : Link} (h : l.notices = []) (contents : List Byte) :
    ∀ n ∈ (l.raise .store .whole contents).notices, n.kind = .store := by
  unfold Link.raise
  split
  · rw [h, if_pos (by decide)]
    simp [Link.merge, h]
  · rw [h]
    simp

/-! ### What the transmitter takes -/

theorem State.transmit_notices_subset (s : State) : s.transmit.link.notices ⊆ s.link.notices := by
  unfold State.transmit
  split
  · exact List.Subset.refl _
  · split
    · exact List.Subset.refl _
    · split
      · next hnotices => rw [hnotices]; exact List.subset_cons_self _ _
      · repeat' split
        all_goals exact List.Subset.refl _

theorem State.transmit_replies_subset (s : State) : s.transmit.link.replies ⊆ s.link.replies := by
  unfold State.transmit
  split
  · exact List.Subset.refl _
  · split
    · next hreplies => rw [hreplies]; exact List.subset_cons_self _ _
    · next hreplies =>
      repeat' split
      all_goals exact List.Subset.refl _

/-- An exporter at rest is none of what the transmitter moves. -/
theorem State.finish_exporter_idle (before : State) {s : State} (h : s.exporter.phase = .idle) :
    (State.finish before s).exporter = s.exporter := by
  have htransmit : s.transmit.exporter = s.exporter := by
    unfold State.transmit
    split
    · rfl
    · split
      · rfl
      · split
        · rfl
        · split
          · rfl
          · rfl
          · next hstreaming => cases h.symm.trans hstreaming
  exact ((State.stationLines_reach before s.transmit).exporter (by decide)).trans htransmit

/-! ### The effect of RESET LINK -/

/-- An exporter that runs when RESET LINK comes, ended, before its trim point is recomputed. -/
def State.exportAbandoned (s : State) : State :=
  ((((s.modExporter fun e => { e with resume := none }).killGrant .exporter).modExporter fun e =>
    { e with phase := .idle, reason := none, fifo := [], cursor := none, reader := .stopped }).modLink fun l =>
      { l with line := l.line.map Outbound.orphaned })

theorem State.abandonExport_idle {s : State} (h : s.exporter.phase = .idle) :
    s.abandonExport = s.modExporter fun e => { e with resume := none } := by
  unfold State.abandonExport
  dsimp only
  rw [if_neg (not_not.mpr h)]

theorem State.abandonExport_active {s : State} (h : s.exporter.phase ≠ .idle) :
    s.abandonExport = s.exportAbandoned.recomputeTrim s.exporter.session := by
  unfold State.abandonExport
  dsimp only
  rw [if_pos h]
  rfl

/-- The link with its buffers and its notices emptied, the first step of RESET LINK. -/
def State.linkEmptied (s : State) : State :=
  s.modLink fun l => { l with buffer := [], replies := l.replies.filter fun r => !r.busy, notices := [], dropped := 0 }

theorem State.resetLinkState_eq (s : State) : s.resetLinkState =
    s.linkEmptied.abandonExport.modLink fun l => { l with mask := defaultMask, errorCount := 0, lastCause := none } := rfl

/-- The link after RESET LINK, its line and its notices apart. -/
theorem State.resetLinkState_link (s : State) : ∃ notices dropped line,
    s.resetLinkState.link = { s.link with
      buffer := [], replies := s.link.replies.filter fun r => !r.busy, notices := notices, dropped := dropped, line := line
      mask := defaultMask, errorCount := 0, lastCause := none }
    ∧ ∀ n ∈ notices, n.kind = .store := by
  rw [State.resetLinkState_eq, State.modLink_link]
  by_cases hphase : s.exporter.phase = .idle
  · rw [State.abandonExport_idle (s := s.linkEmptied) hphase]
    exact ⟨[], 0, _, rfl, fun n hn => nomatch hn⟩
  · rw [State.abandonExport_active (s := s.linkEmptied) hphase]
    rcases State.recomputeTrim_link s.linkEmptied.exportAbandoned s.linkEmptied.exporter.session with hlink | ⟨contents, hlink⟩
    · rw [hlink]
      exact ⟨[], 0, _, rfl, fun n hn => nomatch hn⟩
    · rw [hlink]
      refine ⟨(s.linkEmptied.exportAbandoned.link.raise .store .whole contents).notices,
        (s.linkEmptied.exportAbandoned.link.raise .store .whole contents).dropped,
        s.linkEmptied.exportAbandoned.link.line, ?_, Link.raise_store_of_empty rfl contents⟩
      exact congrArg (fun l : Link => { l with mask := defaultMask, errorCount := 0, lastCause := none }) (Link.raise_eq ..)

/-- The exporter after RESET LINK. -/
theorem State.resetLinkState_exporter (s : State) : s.resetLinkState.exporter.phase = .idle
    ∧ (s.exporter.phase ≠ .idle → s.resetLinkState.exporter.fifo = []) ∧ s.resetLinkState.exporter.resume = none := by
  rw [State.resetLinkState_eq, State.modLink_exporter]
  by_cases hphase : s.exporter.phase = .idle
  · rw [State.abandonExport_idle (s := s.linkEmptied) hphase]
    exact ⟨hphase, fun h => absurd hphase h, rfl⟩
  · rw [State.abandonExport_active (s := s.linkEmptied) hphase, (State.recomputeTrim_reach _ _).exporter (by decide)]
    exact ⟨rfl, fun _ => rfl, rfl⟩

/-- Where no exporter runs RESET LINK concerns the link and the resume point alone. -/
theorem State.resetLinkState_idle {s : State} (h : s.exporter.phase = .idle) : ∃ l e,
    s.resetLinkState = { s with link := l, exporter := e } := by
  rw [State.resetLinkState_eq, State.abandonExport_idle (s := s.linkEmptied) h]
  exact ⟨_, _, rfl⟩

/-- Settles O21. -/
theorem resetLinkRestoresTheLink : Obligations.ResetLinkRestoresTheLink := by
  intro s tag
  refine ⟨fun h => ?_, fun scope h0 h1 h => ?_⟩
  · obtain ⟨notices, dropped, line, hlink, hstore⟩ := State.resetLinkState_link (s.withRequest (s.requestOr ⟨0x02, tag, u8 0⟩))
    obtain ⟨hphase, hfifo, hresume⟩ := State.resetLinkState_exporter (s.withRequest (s.requestOr ⟨0x02, tag, u8 0⟩))
    have hmoves := State.resetLinkState_reach (s.withRequest (s.requestOr ⟨0x02, tag, u8 0⟩))
    have hidle := State.resetLinkState_idle (s := s.withRequest (s.requestOr ⟨0x02, tag, u8 0⟩))
    obtain ⟨t, ht, hanswered, hoff⟩ := State.request_spec h rfl (fun s => (s.resetLinkState, ⟨.ok, []⟩)) (by
      exact (congrArg Link.inProgress hlink :))
    have hnotices := State.request_notices h rfl ht
    have hfinish : t = State.finish s ((s.withRequest (s.requestOr ⟨0x02, tag, u8 0⟩)).resetLinkState.recordReply
        (makeReply (s.requestOr ⟨0x02, tag, u8 0⟩) ⟨.ok, []⟩)) := by
      rw [State.request, State.performRequest_taken h rfl] at ht
      exact (Host.Outcome.next.inj ht).symm
    rw [State.withRequest_eq h.1] at hlink hphase hfifo hresume hmoves hidle hoff hnotices hfinish
    generalize (s.modLink fun l => { l with inProgress := some ⟨s.requestOr ⟨0x02, tag, u8 0⟩, none⟩ }).resetLinkState = u
      at hlink hphase hfifo hresume hmoves hidle hoff hnotices hfinish
    have hoffLink : t.link.offLine = u.link.offLine := congrArg State.link hoff
    rw [hlink] at hoffLink
    have hexporter : t.exporter = u.exporter := by rw [hfinish]; exact State.finish_exporter_idle s hphase
    have hport (n : StationId) : (t.stations.get n).offLine = (s.stations.get n).offLine :=
      (State.station_offLine_congr hoff n).trans
        (congrArg (fun p : PerStation Station => (p.get n).offLine) (hmoves.stations (by decide)))
    refine ⟨t, ht, hanswered, congrArg Link.buffer hoffLink, congrArg Link.mask hoffLink, congrArg Link.errorCount hoffLink,
      congrArg Link.lastCause hoffLink, (congrArg Link.receive hoffLink :), (congrArg Link.messageTimer hoffLink :), ?_, ?_,
      by rw [hexporter]; exact hphase, fun hp => by rw [hexporter]; exact hfifo hp, by rw [hexporter]; exact hresume,
      (congrArg State.channels hoff).trans (hmoves.channels (by decide)), (congrArg State.takes hoff).trans (hmoves.takes (by decide)),
      (congrArg State.queue hoff).trans (hmoves.queue (by decide)), (congrArg State.rotation hoff).trans (hmoves.rotation (by decide)),
      (congrArg State.readback hoff).trans (hmoves.readback (by decide)),
      (congrArg State.lastSession hoff).trans (hmoves.lastSession (by decide)),
      (congrArg (fun x : State => x.store.mem) hoff).trans (hmoves.mem (by decide)), hport, fun hp => ?_⟩
    · have hu : u.link.notices = notices := (congrArg Link.notices hlink :)
      rw [hnotices.trans hu]
      exact hstore
    · rw [hfinish, State.finish, State.stationLines_link]
      intro p hp
      rcases List.mem_append.mp (State.transmit_replies_subset _ hp) with hp | hp
      · have hreplies : u.link.replies = s.link.replies.filter fun r => !r.busy := congrArg Link.replies hlink
        rw [hreplies] at hp
        obtain ⟨-, hbusy⟩ := List.mem_filter.mp hp
        simpa using hbusy
      · rw [List.mem_singleton.mp hp]
        rfl
    · obtain ⟨l, e, hu⟩ := hidle hp
      rw [hu] at hoff
      exact ⟨(congrArg State.sessions hoff :), (congrArg State.store hoff :), (congrArg State.marks hoff :),
        (congrArg State.ranges hoff :), (congrArg State.arbiter hoff :)⟩
  · exact State.request_performs h rfl rfl (by simp [h0, refuse])

end Sys2Proof.Machine
end

section
/-! SUPPORT. The state the rule of a request runs on, and the requests that report (R21, R43, R44, R71, R72, R82, R103, R124,
R150, R163, R185). -/

namespace Sys2Proof.Machine

/-! ### The state a rule runs on -/

/-- The state in which the request that a command is performed as is in progress. -/
def State.taking (s : State) (r : Request) : State :=
  s.modLink fun l => { l with inProgress := some ⟨s.requestOr r, none⟩ }

theorem State.taking_offLine (s : State) (r : Request) : (s.taking r).offLine = s.offLine := rfl

/-- A request command that is taken answers, and apart from the lines it leaves what its rule leaves. -/
theorem State.request_taking {s : State} {i : Instr} {r : Request} (h : Taken i s) (hr : i.request = some r)
    {f : State → State × Answer} (hexec : exec i s = s.request i f)
    (hf : (f (s.taking r)).1.link.inProgress = (s.taking r).link.inProgress) :
    ∃ t, exec i s = .next t ∧ Answered i s t (f (s.taking r)).2 ∧ t.offLine = (f (s.taking r)).1.offLine := by
  have hw : s.withRequest (s.requestOr r) = s.taking r := State.withRequest_eq h.1 r
  rw [← hw] at hf ⊢
  rw [hexec]
  exact State.request_spec h hr f hf

/-- A request command that may move frames answers, and what its rule leaves is settled. -/
theorem State.requestMoving_taking {s : State} {i : Instr} {r : Request} (h : Taken i s) (hr : i.request = some r)
    {f : State → State × Answer} (hexec : exec i s = s.requestMoving i f)
    (hf : (f (s.taking r)).1.link.inProgress = (s.taking r).link.inProgress) :
    ∃ v q, exec i s = .next (State.settleAll s v) ∧ v = (f (s.taking r)).1.recordReply q
      ∧ Answered i s v (f (s.taking r)).2 := by
  have hw : s.withRequest (s.requestOr r) = s.taking r := State.withRequest_eq h.1 r
  rw [← hw] at hf ⊢
  rw [hexec]
  exact State.requestMoving_spec h hr f hf

/-- What a request command leaves and answers, from what its rule does. -/
theorem State.request_answers {s : State} {i : Instr} {r : Request} (h : Taken i s) (hr : i.request = some r)
    {f : State → State × Answer} (hexec : exec i s = s.request i f) {u : State} {a : Answer} (hf : f (s.taking r) = (u, a))
    (hu : u.link.inProgress = (s.taking r).link.inProgress) :
    ∃ t, exec i s = .next t ∧ Answered i s t a ∧ t.offLine = u.offLine := by
  obtain ⟨t, ht, hanswered, hoff⟩ := State.request_taking h hr hexec (by rw [hf]; exact hu)
  rw [hf] at hanswered hoff
  exact ⟨t, ht, hanswered, hoff⟩

/-- What a request command that may move frames brings and answers, from what its rule does. -/
theorem State.requestMoving_answers {s : State} {i : Instr} {r : Request} (h : Taken i s) (hr : i.request = some r)
    {f : State → State × Answer} (hexec : exec i s = s.requestMoving i f) {u : State} {a : Answer}
    (hf : f (s.taking r) = (u, a)) (hu : u.link.inProgress = (s.taking r).link.inProgress) :
    ∃ v q, exec i s = .next (State.settleAll s v) ∧ v = u.recordReply q ∧ Answered i s v a := by
  obtain ⟨v, q, ht, hv, hanswered⟩ := State.requestMoving_taking h hr hexec (by rw [hf]; exact hu)
  rw [hf] at hanswered hv
  exact ⟨v, q, ht, hv, hanswered⟩

/-- A request whose rule changes nothing. -/
theorem State.request_keeps {s : State} {i : Instr} {r : Request} (h : Taken i s) (hr : i.request = some r)
    {f : State → State × Answer} (hexec : exec i s = s.request i f) {a : Answer} (hf : f (s.taking r) = (s.taking r, a)) :
    Performs i s a s := by
  obtain ⟨t, ht, hanswered, hoff⟩ := State.request_taking h hr hexec (by rw [hf])
  rw [hf] at hanswered hoff
  exact ⟨t, ht, hanswered, hoff⟩

/-! ### IDENTIFY in both device states -/

/-- IDENTIFY is read from KIND 1 alone. -/
theorem decodeRequest_identify {kind : Nat} {tag tag' : Byte} {b : List Byte} (h : decodeRequest kind tag b = some (.identify tag')) :
    kind = 1 := by
  unfold decodeRequest at h
  repeat' split at h
  all_goals simp at h
  case h_1 => rfl
  all_goals split at h <;> cases h

theorem State.requestOr_identify {s : State} {tag : Byte} (h : s.admits (.identify tag) = true) :
    (s.requestOr ⟨0x01, tag, []⟩).kind = 1 := by
  unfold State.admits at h
  unfold State.requestOr
  cases hp : s.link.inProgress with
  | none => rfl
  | some p =>
    rw [hp] at h
    obtain ⟨-, hanswer⟩ := (Bool.and_eq_true _ _).mp h
    have hanswer := of_decide_eq_true hanswer
    unfold answeringInstr at hanswer
    split at hanswer
    · cases Option.some.inj hanswer
    · exact decodeRequest_identify hanswer

/-- IDENTIFY is performed while STARTING as well. -/
theorem State.identify_performs {s : State} {tag : Byte} (h : s.admits (.identify tag) = true) :
    Performs (.identify tag) s ⟨.ok, identifyBody s⟩ s := by
  have hw := State.withRequest_eq h ⟨0x01, tag, []⟩
  have hperform : s.performRequest (.identify tag) (reportOnly fun s => ⟨.ok, identifyBody s⟩) =
      (s.taking ⟨0x01, tag, []⟩).recordReply (makeReply (s.requestOr ⟨0x01, tag, []⟩) ⟨.ok, identifyBody s⟩) := by
    unfold State.performRequest
    rw [show (Instr.identify tag).request = some ⟨0x01, tag, []⟩ from rfl]
    dsimp only
    rw [if_pos h, if_neg fun hk => hk.2 (State.requestOr_identify h), hw]
    rfl
  refine ⟨_, rfl, ⟨_, rfl, ?_⟩, ?_⟩
  · rw [State.finish_inProgress, hperform]
    rfl
  · rw [State.finish_offLine, hperform]
    rfl

/-- A request that reports. -/
theorem State.request_reports {s : State} {i : Instr} {r : Request} (h : Taken i s) (hr : i.request = some r)
    {g : State → Answer} (hexec : exec i s = s.request i (reportOnly g)) {a : Answer} (hg : g (s.taking r) = a) :
    Performs i s a s := State.request_keeps h hr hexec (congrArg (s.taking r, ·) hg)

theorem channelOf_val (c : ChannelId) : channelOf c.val = some c := by fin_cases c <;> rfl

/-- Settles O34: every report is `reportOnly`. -/
theorem reportsChangeNothing : Obligations.ReportsChangeNothing := by
  intro s tag
  refine ⟨fun h => State.identify_performs h, fun h => State.request_reports h rfl rfl rfl,
    fun h => State.request_reports h rfl rfl rfl, fun n x hn hx h => State.request_reports h rfl rfl ?_,
    fun c h => State.request_reports h rfl rfl ?_, fun n m t ht h => State.request_reports h rfl rfl ?_,
    fun r hr h => State.request_reports h rfl rfl ?_, fun position h => State.request_reports h rfl rfl ?_,
    fun r x hx h => State.request_reports h rfl rfl ?_, fun r x hx h => State.request_reports h rfl rfl ?_,
    fun n h => State.request_reports h rfl rfl ?_, fun c h => State.request_reports h rfl rfl ?_⟩
  · rw [if_neg hn, show (s.taking _).session? n = some x from hx]
    rfl
  · rw [channelOf_val]
    rfl
  · rw [show (s.taking _).take? ⟨n, m⟩ = some t from ht]
    rfl
  · rw [if_neg fun ⟨h0, hn, hnone⟩ => hr h0 hn (Option.isNone_iff_eq_none.mp hnone)]
    rfl
  · have hreport : s.dispatchReport position = s.dispatchReport (max 1 position) := by
      unfold State.dispatchReport
      rw [← max_assoc, max_self]
    rw [← hreport]
    by_cases h0 : position = 0
    · rw [if_pos h0, decide_eq_true h0]; rfl
    · rw [if_neg h0, decide_eq_false h0]; rfl
  · have hnumber : x.number = r.session := State.number_of_session? hx
    rw [show (s.taking _).session? r.session = some x from hx, ← hnumber, Bool.decide_or]
    rfl
  · rw [show (s.taking _).session? r.session = some x from hx]
    rfl
  · rw [stationOf_val]
    rfl
  · rw [channelOf_val]
    rfl

end Sys2Proof.Machine
end

section
/-! SUPPORT. Sessions: opening and closing, the category of a frame, the slots of the store (R23 to R26, R31, R40). -/

namespace Sys2Proof.Machine

/-! ### OPEN_SESSION -/

/-- Settles O26. -/
theorem openSessionOpens : Obligations.OpenSessionOpens := by
  intro s tag r c h hc hoff hroom hfree ch mode plan
  have hmode : startModeOf r ch.config = mode := by
    rcases r with ⟨-, -, - | k, -⟩
    · rfl
    · rcases k with - | k <;> rfl
  obtain ⟨t, ht, hanswered, hleft⟩ := State.request_answers (u := ((s.taking ⟨0x10, tag, encodeOpenSession r⟩).openSession c r).1)
    (a := ((s.taking ⟨0x10, tag, encodeOpenSession r⟩).openSession c r).2) h rfl rfl (by
      rw [hc, channelOf_val]
      dsimp only
      rw [if_neg (by exact not_not.mpr hoff), if_neg (by exact Nat.not_le.mpr hroom), if_neg (by exact hfree)]) (by rfl)
  refine ⟨t, ht, newSession r s.issueSession c ch.config, rfl, rfl, rfl, rfl, rfl, ?_, ?_, ?_, ?_, rfl, rfl, rfl, rfl, rfl, rfl, rfl, rfl,
    rfl, rfl, rfl, rfl, rfl, rfl, rfl, rfl, rfl, ⟨_, hanswered, ?_⟩, hleft.trans ?_⟩
  · rw [← hmode]; rfl
  · rcases r with ⟨-, -, -, - | k, -⟩
    · rfl
    · rcases k with - | - | k <;> rfl
  · rcases r with ⟨-, -, -, -, - | k, -⟩
    · rfl
    · rcases k with - | - | k <;> rfl
  · rcases r with ⟨-, -, -, -, -, - | k, -⟩
    · rfl
    · rcases k with - | k <;> rfl
  · show adjusted _ = .ok ∨ adjusted _ = .adjusted
    cases openChanges r
    · exact .inl rfl
    · exact .inr rfl
  · rw [← hmode]
    rfl

/-! ### The category of a frame -/

theorem Store.place?_eq_none {st : Store} {n f : Nat} :
    st.place? n f = none ↔ ¬ ∃ b ∈ st.chain n, b.first ≤ f ∧ f < b.first + b.held := by
  unfold Store.place?
  cases h : (st.chain n).find? fun b => b.covers f with
  | none => simpa [ChainBlock.covers] using h
  | some b =>
    have hcovers : b.first ≤ f ∧ f < b.first + b.held := by simpa [ChainBlock.covers] using List.find?_some h
    constructor
    · exact fun he => nomatch he
    · exact fun hno => absurd ⟨b, List.mem_of_find?_eq_some h, hcovers⟩ hno

/-- The place of a frame that a block holds. -/
theorem Store.place?_of_some {st : Store} {n f : Nat} {p : Nat × Nat} (h : st.place? n f = some p) :
    ∃ b ∈ st.chain n, b.first ≤ f ∧ f < b.first + b.held ∧ st.place? n f = some (b.block, f - b.first) := by
  unfold Store.place? at h ⊢
  cases hfind : (st.chain n).find? fun b => b.covers f with
  | none => rw [hfind] at h; cases h
  | some b =>
    have hcovers : b.first ≤ f ∧ f < b.first + b.held := by simpa [ChainBlock.covers] using List.find?_some hfind
    exact ⟨b, List.mem_of_find?_eq_some hfind, hcovers.1, hcovers.2, rfl⟩

/-- Settles O30: the tests of R40 one by one. -/
theorem categoriesFollowTheFiveTests : Obligations.CategoriesFollowTheFiveTests := by
  intro s x f unstored trimmed notYet present
  have passUnstored (h : ¬ unstored) : ∃ a, x.firstStored = some a ∧ ¬ f < a := by
    cases ha : x.firstStored with
    | none => exact absurd (.inl ha) h
    | some a => exact ⟨a, rfl, fun hlt => h (.inr ⟨a, ha, hlt⟩)⟩
  have htrim (h : trimmed) : f < x.trimPoint.getD 0 := by
    obtain ⟨p, hp, hlt⟩ := h
    rw [hp]
    exact hlt
  have hfar (h : ¬ trimmed) : ¬ f < x.trimPoint.getD 0 := by
    intro hlt
    cases hp : x.trimPoint with
    | none => rw [hp] at hlt; exact absurd hlt (Nat.not_lt_zero f)
    | some p => rw [hp] at hlt; exact h ⟨p, hp, hlt⟩
  have passNotYet (h : ¬ notYet) : ∃ a, x.storedHead = some a ∧ ¬ a < f := by
    cases ha : x.storedHead with
    | none => exact absurd (.inl ha) h
    | some a => exact ⟨a, rfl, fun hlt => h (.inr ⟨a, ha, hlt⟩)⟩
  have hstored (hu : ¬ unstored) (ht : ¬ trimmed) (hn : ¬ notYet) :
      s.category x f = if (s.store.place? x.number f).isSome then .present else .lost := by
    obtain ⟨a, ha, hfa⟩ := passUnstored hu
    obtain ⟨b, hb, hfb⟩ := passNotYet hn
    simp only [State.category, ha, hfa, if_false, hfar ht, decide_false, Bool.false_eq_true, hb, hfb]
  refine ⟨fun h => ?_, fun hu ht => ?_, fun hu ht hn => ?_, fun hu ht hn hp => ?_, fun hu ht hn hp => ?_⟩
  · rcases h with h | ⟨a, ha, hlt⟩
    · simp only [State.category, h]
    · simp only [State.category, ha, hlt, if_true]
  · obtain ⟨a, ha, hfa⟩ := passUnstored hu
    simp only [State.category, ha, hfa, if_false, htrim ht, decide_true, if_true]
  · obtain ⟨a, ha, hfa⟩ := passUnstored hu
    rcases hn with h | ⟨b, hb, hlt⟩
    · simp only [State.category, ha, hfa, if_false, hfar ht, decide_false, Bool.false_eq_true, h]
    · simp only [State.category, ha, hfa, if_false, hfar ht, decide_false, Bool.false_eq_true, hb, hlt, if_true]
  · cases hplace : s.store.place? x.number f with
    | none => exact absurd hp (Store.place?_eq_none.mp hplace)
    | some p =>
      obtain ⟨b, hb, hlow, hhigh, hat⟩ := Store.place?_of_some hplace
      rw [hstored hu ht hn, hplace]
      exact ⟨rfl, b, hb, hlow, hhigh, hplace.symm.trans hat⟩
  · rw [hstored hu ht hn, Store.place?_eq_none.mpr hp]
    rfl

/-! ### The slots of the store -/

theorem samplesBytes_length (samples : List Sample) : (samplesBytes samples).length = 2 * samples.length := by
  induction samples with
  | nil => rfl
  | cons x l ih =>
    rw [samplesBytes, List.flatMap_cons, List.length_append, List.length_cons]
    have hx : (sampleBytes x).length = 2 := le_length 2 _
    have hl : (l.flatMap sampleBytes).length = 2 * l.length := ih
    omega

theorem sampleBytes_eq (x : Sample) : sampleBytes x = [x.setWidth 8, (x >>> 8).setWidth 8] := by
  have hlow : BitVec.ofNat 8 x.toNat = x.setWidth 8 := by simp
  have hhigh : BitVec.ofNat 8 (x.toNat / 256) = (x >>> 8).setWidth 8 := by
    simp [BitVec.toNat_eq, Nat.shiftRight_eq_div_pow]
  rw [sampleBytes, le, le, le, hlow, hhigh]

theorem bytesSamples_samplesBytes (samples : List Sample) : bytesSamples (samplesBytes samples) = samples := by
  induction samples with
  | nil => rfl
  | cons x l ih =>
    have hjoin : (x >>> 8).setWidth 8 ++ x.setWidth 8 = x := by
      ext i hi
      rw [BitVec.getElem_append]
      split
      · simp [BitVec.getLsbD_eq_getElem hi]
      · next hge =>
        have hback : 8 + (i - 8) = i := by omega
        simp [hback, BitVec.getLsbD_eq_getElem hi]
    rw [samplesBytes, List.flatMap_cons, sampleBytes_eq]
    simp only [List.cons_append, List.nil_append, bytesSamples]
    rw [hjoin]
    exact congrArg (x :: ·) ih

/-- Where each sample stands among the bytes. -/
theorem samplesBytes_get (samples : List Sample) (i : Nat) (h : i < samples.length) :
    (samplesBytes samples)[2 * i]? = some (samples[i].setWidth 8)
      ∧ (samplesBytes samples)[2 * i + 1]? = some ((samples[i] >>> 8).setWidth 8) := by
  induction samples generalizing i with
  | nil => exact absurd h (Nat.not_lt_zero i)
  | cons x l ih =>
    have hcons : samplesBytes (x :: l) = x.setWidth 8 :: (x >>> 8).setWidth 8 :: samplesBytes l := by
      rw [samplesBytes, List.flatMap_cons, sampleBytes_eq]; rfl
    rw [hcons]
    cases i with
    | zero => exact ⟨rfl, rfl⟩
    | succ i => exact ih i (Nat.lt_of_succ_lt_succ h)

theorem readByte_of_readBytes {m : AudioMemory} {a k : Nat} {bs : List Byte} (h : readBytes m a k = some bs) {i : Nat} {b : Byte}
    (hi : bs[i]? = some b) : readByte m (a + i) = some b := by
  induction k generalizing a bs i with
  | zero => cases h; cases hi
  | succ k ih =>
    rw [readBytes] at h
    split at h
    · next c cs hc hcs =>
      cases h
      cases i with
      | zero => rw [Nat.add_zero, hc]; exact hi
      | succ i => rw [← ih hcs hi]; congr 1; omega
    · cases h

/-- Settles O31. -/
theorem framesAreStoredInTheirSlots : Obligations.FramesAreStoredInTheirSlots := by
  intro st block slot samples hlen
  have hbytes : (samplesBytes samples).length = 512 := by rw [samplesBytes_length, hlen]
  have haddress : slotAddress block slot = block * 32768 + slot * 512 := rfl
  have hread := readBytes_writeBytes st.mem (slotAddress block slot) (samplesBytes samples)
  have hmem : (st.writeFrame block slot samples).mem = writeBytes st.mem (slotAddress block slot) (samplesBytes samples) := rfl
  rw [← hmem] at hread
  refine ⟨?_, fun i h => ?_, fun a ha => ?_⟩
  · rw [hbytes] at hread
    rw [Store.readFrame, show Config.frameBytes = 512 from rfl, hread, Option.map_some, bytesSamples_samplesBytes]
  · obtain ⟨hlow, hhigh⟩ := samplesBytes_get samples i h
    rw [← haddress]
    have hsecond := readByte_of_readBytes hread hhigh
    rw [← Nat.add_assoc] at hsecond
    exact ⟨readByte_of_readBytes hread hlow, hsecond⟩
  · rw [hmem]
    exact readByte_writeBytes_outside _ _ _ _ (by rw [hbytes, haddress]; exact ha)

end Sys2Proof.Machine
end

section
/-! SUPPORT. The end of the taking of frames (R3, R26, R28, R29, R80, R100). -/

namespace Sys2Proof.Machine

/-! ### What moves leave of sessions and of the link -/

/-- Only the link's own moves touch the request in progress. -/
theorem Move.inProgress {k : Kind} {s t : State} (h : Move k s t) (hk : k ≠ .link) (hk' : k ≠ .mask) :
    t.link.inProgress = s.link.inProgress := by
  cases h with
  | notice => exact Link.raise_inProgress ..
  | link => exact absurd rfl hk
  | mask => exact absurd rfl hk'
  | _ => rfl

theorem Reach.inProgress {K : List Kind} {s t : State} (h : Reach K s t) (hK : Kind.link ∉ K) (hK' : Kind.mask ∉ K) :
    t.link.inProgress = s.link.inProgress :=
  h.keeps (fun u => u.link.inProgress) fun _ hk _ _ hm => hm.inProgress (fun he => hK (he ▸ hk)) fun he => hK' (he ▸ hk)

/-- Only opening and freeing a session changes which numbers are in use. -/
theorem Move.numbers {k : Kind} {s t : State} (h : Move k s t) (hk : k ≠ .sessionOpen) (hk' : k ≠ .sessionGone) :
    t.sessions.map (·.number) = s.sessions.map (·.number) := by
  have hmod {n : Nat} {f : Session → Session} (hf : ∀ x, (f x).number = x.number) :
      (s.modSession n f).sessions.map (·.number) = s.sessions.map (·.number) := State.modSession_numbers s n f hf
  cases h with
  | session n f hf => exact hmod fun x => (hf x).1
  | sessionTrim n f hf => exact hmod fun x => (congrArg Session.number (hf x) :)
  | sessionMarks n f hf => exact hmod fun x => (congrArg Session.number (hf x) :)
  | takeCount n f hf => exact hmod fun x => (hf x).1
  | sessionGone => exact absurd rfl hk'
  | sessionOpen => exact absurd rfl hk
  | _ => rfl

theorem Reach.numbers {K : List Kind} {s t : State} (h : Reach K s t) (hK : Kind.sessionOpen ∉ K) (hK' : Kind.sessionGone ∉ K) :
    t.sessions.map (·.number) = s.sessions.map (·.number) :=
  h.keeps (fun u => u.sessions.map (·.number)) fun _ hk _ _ hm =>
    hm.numbers (fun he => hK (he ▸ hk)) fun he => hK' (he ▸ hk)

theorem State.session?_eq_none {s : State} {n : Nat} : s.session? n = none ↔ n ∉ s.sessions.map (·.number) := by
  simp [State.session?]

/-- The entry of a session changed, looked up. -/
theorem State.session?_modSession {s : State} {n : Nat} {x : Session} (hx : s.session? n = some x) {f : Session → Session}
    (hf : ∀ y, (f y).number = y.number) : (s.modSession n f).session? n = some (f x) := by
  have hnumber := State.number_of_session? hx
  unfold State.session? State.modSession at *
  rw [List.find?_map]
  have hsame : ((fun y : Session => decide (y.number = n)) ∘ fun y : Session => if y.number = n then f y else y) =
      fun y : Session => decide (y.number = n) := by
    funext y
    by_cases hy : y.number = n <;> simp [hy, hf]
  rw [hsame, hx, Option.map_some, if_pos hnumber]

/-! ### A session freed at once -/

theorem State.freeSession_numbers {s : State} {n : Nat} (h : s.session? n ≠ none) : (s.freeSession n).session? n = none := by
  obtain ⟨x, hx⟩ := Option.ne_none_iff_exists'.mp h
  rw [State.session?_eq_none, (State.freeSession_reach_freeing hx).numbers (by decide) (by decide)]
  simp [State.setSessions]

theorem State.freeIfDone_eq {s : State} {n : Nat} {x : Session} (hx : s.session? n = some x) (hphase : x.phase = .closed)
    (hnone : ∀ t ∈ s.takes, t.session ≠ n) : s.freeIfDone n = s.freeSession n := by
  have hempty : (s.takesOf n).isEmpty = true := by
    rw [State.takesOf, List.isEmpty_iff, List.filter_eq_nil_iff]
    exact fun t ht => by simpa using hnone t ht
  unfold State.freeIfDone
  rw [hx]
  exact if_pos ⟨hphase, hempty⟩

/-- An ARMED session's channel gone to OFF and its entry CLOSED, before it is freed. -/
def State.armedEnded (s : State) (c : ChannelId) (n : Nat) (why : CloseReason) (last : Option Nat) : State :=
  (s.modChannel c fun ch => { ch.off with assembler := [], lastFrame := last }).modSession n fun x =>
    { x with phase := .closed, closeReason := some why, reserved := false, lastFrame := last }

theorem State.armedEnded_session? {s : State} {n : Nat} {x : Session} (hx : s.session? n = some x) (c : ChannelId)
    (why : CloseReason) (last : Option Nat) : (s.armedEnded c n why last).session? n =
      some { x with phase := .closed, closeReason := some why, reserved := false, lastFrame := last } :=
  State.session?_modSession (s := s.modChannel c fun ch => { ch.off with assembler := [], lastFrame := last }) hx fun _ => rfl

/-- An ARMED session without takes is freed at its close. -/
theorem State.closeArmed_eq {s : State} {c : ChannelId} {n : Nat} {x : Session} {why : CloseReason} {last : Option Nat}
    (hx : s.session? n = some x) (hnone : ∀ t ∈ s.takes, t.session ≠ n) :
    s.closeArmed c n why last = (s.armedEnded c n why last).freeSession n :=
  State.freeIfDone_eq (State.armedEnded_session? hx c why last) rfl hnone

/-- Settles O28. -/
theorem closeSessionFreesAnArmedSession : Obligations.CloseSessionFreesAnArmedSession := by
  intro s tag n h
  refine ⟨fun x hx harmed hnone => ?_, fun hnone => ?_, fun x hx hphase => ?_⟩
  · have hnumber := State.number_of_session? hx
    have hmoves := (s.taking ⟨0x11, tag, u16 n⟩).closeArmed_reach x.channel x.number .request none
    obtain ⟨v, q, hexec, hv, hanswered⟩ := State.requestMoving_answers
      (u := (s.taking ⟨0x11, tag, u16 n⟩).closeArmed x.channel x.number .request none)
      (a := ⟨.ok, closeBody x.number .closed none⟩) h rfl rfl (by
        rw [show (s.taking _).session? n = some x from hx]
        dsimp only
        unfold State.closeSession
        rw [harmed]) (hmoves.inProgress (by decide) (by decide))
    rw [hnumber] at hanswered
    refine ⟨v, hexec, hanswered, ?_⟩
    have hclosed := State.closeArmed_eq (s := s.taking ⟨0x11, tag, u16 n⟩) (c := x.channel) (why := .request) (last := none) hx
      hnone
    have hfreed := State.freeSession_numbers (n := n) (Option.ne_none_iff_exists'.mpr
      ⟨_, State.armedEnded_session? (s := s.taking ⟨0x11, tag, u16 n⟩) hx x.channel .request none⟩)
    have hchannels := (State.freeSession_reach ((s.taking ⟨0x11, tag, u16 n⟩).armedEnded x.channel n .request none) n).channels
      (by decide)
    rw [← hclosed] at hfreed hchannels
    have hchannel : v.channels.get x.channel = { (s.channels.get x.channel).off with assembler := [], lastFrame := none } := by
      rw [hv, hnumber]
      refine (congrArg (PerChannel.get · x.channel) hchannels).trans ?_
      simp [State.taking, State.armedEnded]
    rw [hchannel, hv, hnumber]
    exact ⟨hfreed, rfl, rfl, rfl, rfl, by rw [hnumber] at hmoves; exact hmoves.mem (by decide)⟩
  · obtain ⟨v, q, hexec, hv, hanswered⟩ := State.requestMoving_answers (u := s.taking ⟨0x11, tag, u16 n⟩)
      (a := ⟨.noSuch, []⟩) h rfl rfl (by rw [show (s.taking _).session? n = none from hnone]; rfl) rfl
    exact ⟨v, hexec, hanswered, by rw [hv]; rfl⟩
  · obtain ⟨v, q, hexec, hv, hanswered⟩ := State.requestMoving_answers (u := s.taking ⟨0x11, tag, u16 n⟩)
      (a := ⟨.wrongState, []⟩) h rfl rfl (by
        rw [show (s.taking _).session? n = some x from hx]
        dsimp only
        unfold State.closeSession
        rcases hphase with hphase | hphase <;> rw [hphase] <;> rfl) rfl
    exact ⟨v, hexec, hanswered, by rw [hv]; rfl⟩

end Sys2Proof.Machine
end

section
/-! SUPPORT. A session stopped at its arrived head (R3, R26, R80, R100). -/

namespace Sys2Proof.Machine

/-! ### The toggle of a channel -/

/-- The toggle alone follows, and that of the session's own channel. -/
theorem State.keepToggle_channels {s : State} {n : Nat} {x : Session} (hx : s.session? n = some x) (keep : Nat → Bool) :
    (∀ c, c ≠ x.channel → (s.keepToggle n keep).channels.get c = s.channels.get c)
      ∧ ((s.keepToggle n keep).channels.get x.channel).sansToggle = (s.channels.get x.channel).sansToggle := by
  unfold State.keepToggle
  rw [hx]
  dsimp only
  split
  · exact ⟨fun c hc => by rw [State.modChannel_channels, PerChannel.get_set_ne _ _ hc],
      by rw [State.modChannel_channels, PerChannel.get_set_self]; rfl⟩
  · exact ⟨fun _ _ => rfl, rfl⟩

/-! ### Marks and ranges brought within the recording -/

/-- Moving marks to the last frame: nothing new stands above it, and no mark leaves but those moved. -/
theorem mem_foldl_moveMark {last : Nat} {moving l : List Mark} :
    (∀ m ∈ moving.foldl (moveMark last) l, m ∈ l ∨ m.frame = last) ∧ ∀ m ∈ l, m ∈ moving.foldl (moveMark last) l := by
  induction moving generalizing l with
  | nil => exact ⟨fun m hm => .inl hm, fun m hm => hm⟩
  | cons a moving ih =>
    obtain ⟨hin, hout⟩ := ih (l := moveMark last l a)
    have hstep : (∀ m ∈ moveMark last l a, m ∈ l ∨ m.frame = last) ∧ ∀ m ∈ l, m ∈ moveMark last l a := by
      unfold moveMark
      dsimp only
      split
      · exact ⟨fun m hm => .inl hm, fun m hm => hm⟩
      · refine ⟨fun m hm => ?_, fun m hm => mem_insertBy.mpr (.inr hm)⟩
        rcases mem_insertBy.mp hm with rfl | hm
        · exact .inr rfl
        · exact .inl hm
    rw [List.foldl_cons]
    refine ⟨fun m hm => ?_, fun m hm => hout m (hstep.2 m hm)⟩
    rcases hin m hm with hm | hm
    · exact hstep.1 m hm
    · exact .inr hm

/-- No mark of the session stands above its last frame. -/
theorem State.moveMarks_le (s : State) (n e : Nat) : ∀ m ∈ (s.moveMarks n e).marks, m.session = n → m.frame ≤ e := by
  intro m hm hn
  rcases mem_foldl_moveMark.1 m hm with hm | hm
  · have hkept := (List.mem_filter.mp hm).2
    simpa [hn] using hkept
  · exact hm.le

/-- Marks of other sessions stay. -/
theorem State.moveMarks_other (s : State) (n e : Nat) : ∀ m ∈ s.marks, m.session ≠ n → m ∈ (s.moveMarks n e).marks :=
  fun m hm hn => mem_foldl_moveMark.2 m (List.mem_filter.mpr ⟨hm, by simp [hn]⟩)

/-- Every range of the session lies within its recording. -/
theorem State.fitRanges_le (s : State) (n e : Nat) :
    ∀ g ∈ (s.fitRanges n e).ranges, g.session = n → g.start ≤ e ∧ ∀ f, g.stop = some f → f ≤ e := by
  intro g hg hn
  rw [State.fitRanges, State.syncToggle, State.keepToggle_ranges] at hg
  obtain ⟨h, -, hfit⟩ := List.mem_filterMap.mp hg
  unfold fitRange at hfit
  split at hfit
  · next hother =>
    cases hfit
    exact absurd hn hother
  · split at hfit
    · cases hfit
    · next hstart =>
      cases hfit
      refine ⟨Nat.le_of_not_lt hstart, fun f hf => ?_⟩
      obtain ⟨f', -, rfl⟩ := Option.map_eq_some_iff.mp hf
      exact Nat.min_le_right f' e

/-- Ranges of other sessions stay. -/
theorem State.fitRanges_other (s : State) (n e : Nat) : ∀ g ∈ s.ranges, g.session ≠ n → g ∈ (s.fitRanges n e).ranges := by
  intro g hg hn
  rw [State.fitRanges, State.syncToggle, State.keepToggle_ranges]
  exact List.mem_filterMap.mpr ⟨g, hg, if_pos hn⟩

/-- What bringing the marks and ranges of a session within its recording does. -/
def State.fitted (s : State) (n : Nat) (last : Option Nat) : State :=
  match last with
  | some e => (s.moveMarks n e).fitRanges n e
  | none => s

theorem State.fitted_reach (s : State) (n : Nat) (last : Option Nat) : Reach [.marks, .ranges, .toggle] s (s.fitted n last) := by
  unfold State.fitted
  split
  · exact (State.moveMarks_reach (hK := by decide) ..).trans ((State.fitRanges_reach ..).mono (by decide))
  · exact .refl

theorem State.fitted_channels {s : State} {n : Nat} {x : Session} (hx : s.session? n = some x) (last : Option Nat) :
    (∀ c, c ≠ x.channel → (s.fitted n last).channels.get c = s.channels.get c)
      ∧ ((s.fitted n last).channels.get x.channel).sansToggle = (s.channels.get x.channel).sansToggle := by
  unfold State.fitted
  split
  · next e => exact State.keepToggle_channels (s := (s.moveMarks n e).setRanges _) hx _
  · exact ⟨fun _ _ => rfl, rfl⟩

/-- Nothing of the session is above the last frame any more, and nothing of other sessions is gone. -/
theorem State.fitted_within (s : State) (n : Nat) (last : Option Nat) :
    (∀ e, last = some e → (∀ m ∈ (s.fitted n last).marks, m.session = n → m.frame ≤ e)
        ∧ ∀ g ∈ (s.fitted n last).ranges, g.session = n → g.start ≤ e ∧ ∀ f, g.stop = some f → f ≤ e)
      ∧ (∀ m ∈ s.marks, m.session ≠ n → m ∈ (s.fitted n last).marks)
      ∧ ∀ g ∈ s.ranges, g.session ≠ n → g ∈ (s.fitted n last).ranges := by
  cases last with
  | none => exact ⟨(fun e he => nomatch he), fun m hm _ => hm, fun g hg _ => hg⟩
  | some e =>
    have hmarks : (s.fitted n (some e)).marks = (s.moveMarks n e).marks := (State.fitRanges_reach ..).marks (by decide)
    rw [hmarks]
    refine ⟨fun e' he => ?_, s.moveMarks_other n e, (s.moveMarks n e).fitRanges_other n e⟩
    cases he
    exact ⟨s.moveMarks_le n e, (s.moveMarks n e).fitRanges_le n e⟩

/-- A RECORDING session's channel and entry CLOSING, before its marks and ranges are brought within it. -/
def State.takingEnded (s : State) (c : ChannelId) (n : Nat) (why : CloseReason) (last : Option Nat) : State :=
  (s.modChannel c fun ch => { ch with phase := .closing, assembler := [], lastFrame := last }).modSession n fun x =>
    { x with phase := .closing, closeReason := some why, lastFrame := last }

theorem State.stopTaking_eq (s : State) (c : ChannelId) (n : Nat) (why : CloseReason) :
    s.stopTaking c n why = ((s.takingEnded c n why (s.arrivedOf n)).fitted n (s.arrivedOf n)).raiseSession n .closing := by
  unfold State.stopTaking State.fitted
  cases s.arrivedOf n <;> rfl

theorem State.takingEnded_session? {s : State} {n : Nat} {x : Session} (hx : s.session? n = some x) (c : ChannelId)
    (why : CloseReason) (last : Option Nat) : (s.takingEnded c n why last).session? n =
      some { x with phase := .closing, closeReason := some why, lastFrame := last } :=
  State.session?_modSession
    (s := s.modChannel c fun ch => { ch with phase := .closing, assembler := [], lastFrame := last }) hx fun _ => rfl

/-- Settles O27. -/
theorem closeSessionStopsTakingFrames : Obligations.CloseSessionStopsTakingFrames := by
  intro s tag n x h hx hrecording
  have hnumber := State.number_of_session? hx
  have harrived : (s.taking ⟨0x11, tag, u16 n⟩).arrivedOf n = x.arrivedHead := by
    unfold State.arrivedOf
    rw [show (s.taking _).session? n = some x from hx]
  have hmoves := (s.taking ⟨0x11, tag, u16 n⟩).stopTaking_reach x.channel n .request
  obtain ⟨v, q, hexec, hv, hanswered⟩ := State.requestMoving_answers
    (u := (s.taking ⟨0x11, tag, u16 n⟩).stopTaking x.channel n .request)
    (a := ⟨.ok, closeBody n .closing x.arrivedHead⟩) h rfl rfl (by
      rw [show (s.taking _).session? n = some x from hx]
      dsimp only
      unfold State.closeSession
      rw [hrecording, hnumber]
      dsimp only
      rw [harrived]) (hmoves.inProgress (by decide) (by decide))
  have hended := State.takingEnded_session? (s := s.taking ⟨0x11, tag, u16 n⟩) hx x.channel .request x.arrivedHead
  have hstop := (s.taking ⟨0x11, tag, u16 n⟩).stopTaking_eq x.channel n .request
  rw [harrived] at hstop
  have hraise : Reach [.notice] _ _ := State.raiseSession_reach (K := [.notice])
    (((s.taking ⟨0x11, tag, u16 n⟩).takingEnded x.channel n .request x.arrivedHead).fitted n x.arrivedHead) n .closing (by decide)
  have hfit := ((s.taking ⟨0x11, tag, u16 n⟩).takingEnded x.channel n .request x.arrivedHead).fitted_reach n x.arrivedHead
  obtain ⟨hothers, hown⟩ := State.fitted_channels hended x.arrivedHead
  obtain ⟨hwithin, hmarks, hranges⟩ :=
    ((s.taking ⟨0x11, tag, u16 n⟩).takingEnded x.channel n .request x.arrivedHead).fitted_within n x.arrivedHead
  have hvchannels : v.channels = (((s.taking ⟨0x11, tag, u16 n⟩).takingEnded x.channel n .request x.arrivedHead).fitted n
      x.arrivedHead).channels := by rw [hv, hstop]; exact hraise.channels (by decide)
  have hvmarks : v.marks = (((s.taking ⟨0x11, tag, u16 n⟩).takingEnded x.channel n .request x.arrivedHead).fitted n
      x.arrivedHead).marks := by rw [hv, hstop]; exact hraise.marks (by decide)
  have hvranges : v.ranges = (((s.taking ⟨0x11, tag, u16 n⟩).takingEnded x.channel n .request x.arrivedHead).fitted n
      x.arrivedHead).ranges := by rw [hv, hstop]; exact hraise.ranges (by decide)
  have hvsessions : v.sessions = ((s.taking ⟨0x11, tag, u16 n⟩).takingEnded x.channel n .request x.arrivedHead).sessions := by
    rw [hv, hstop]; exact (hraise.sessions (by decide)).trans (hfit.sessions (by decide))
  have hchannel : ((s.taking ⟨0x11, tag, u16 n⟩).takingEnded x.channel n .request x.arrivedHead).channels.get x.channel =
      { s.channels.get x.channel with phase := .closing, assembler := [], lastFrame := x.arrivedHead } := by
    simp [State.takingEnded, State.taking]
  rw [hchannel] at hown
  refine ⟨v, hexec, hanswered, ?_⟩
  rw [hvchannels, hvmarks, hvranges]
  refine ⟨(congrArg Channel.phase hown :), (congrArg Channel.lastFrame hown :), (congrArg Channel.assembler hown :),
    (congrArg Channel.fifo hown :), ⟨_, ?_, rfl⟩, hwithin, hmarks, hranges, fun c hc => (hothers c hc).trans ?_, ?_, ?_, ?_, ?_⟩
  · have hlook : v.session? n = ((s.taking ⟨0x11, tag, u16 n⟩).takingEnded x.channel n .request x.arrivedHead).session? n := by
      unfold State.session?
      rw [hvsessions]
    exact hlook.trans hended
  · simp [State.takingEnded, State.taking, PerChannel.get_set_ne _ _ hc]
  · rw [hv]; exact hmoves.takes (by decide)
  · rw [hv]; exact hmoves.store (by decide)
  · rw [hv]; exact hmoves.queue (by decide)
  · rw [hv]; exact hmoves.readback (by decide)

end Sys2Proof.Machine
end

section
/-! SUPPORT. The voice detector, the configuration of a channel, the plan of a session (R9 to R13, R19, R20, R50). -/

namespace Sys2Proof.Machine

/-! ### Clamps -/

theorem clamp_eq {lo hi : Nat} (h : lo ≤ hi) (x : Nat) : clamp lo hi x = max lo (min hi x) := by
  unfold clamp
  split
  · omega
  · split <;> omega

theorem clamp_ne (lo hi x : Nat) (h : lo ≤ hi) : clamp lo hi x ≠ x ↔ x < lo ∨ hi < x := by
  rw [clamp_eq h]
  omega

/-! ### The detector -/

theorem natAbs_toInt_le (x : Sample) : x.toInt.natAbs ≤ 32768 := by
  have hlow := BitVec.le_toInt x
  have hhigh := BitVec.toInt_lt (x := x)
  norm_num at hlow hhigh
  omega

theorem sum_natAbs_le (samples : List Sample) : (samples.map fun x => x.toInt.natAbs).sum ≤ 32768 * samples.length := by
  induction samples with
  | nil => exact Nat.le_refl _
  | cons x l ih =>
    have hx := natAbs_toInt_le x
    rw [List.map_cons, List.sum_cons, List.length_cons]
    omega

/-- Stage 4: the detector is in SPEECH after an onset run, and until a hang run of quiet frames. -/
theorem Detector.runs_speech (cfg : ChannelConfig) (d : Detector) (voiced : Bool) :
    (d.runs cfg voiced).phase = .speech ↔ (d.phase = .quiet ∧ cfg.onsetRun ≤ (d.runs cfg voiced).voicedRun)
      ∨ (d.phase = .speech ∧ (d.runs cfg voiced).quietRun < cfg.hangRun) := by
  unfold Detector.runs
  dsimp only
  generalize (if voiced then min 65535 (d.voicedRun + 1) else 0) = v
  generalize (if voiced then 0 else min 65535 (d.quietRun + 1)) = q
  cases d.phase with
  | quiet => simp
  | speech => simp

/-- Settles O32. -/
theorem detectorAnalysesFrames : Obligations.DetectorAnalysesFrames := by
  intro cfg d
  refine ⟨?_, fun voiced => ⟨rfl, rfl, rfl, rfl, d.runs_speech cfg voiced⟩, rfl⟩
  intro samples hlen sum level voiced moved e
  have hsum : sum ≤ 8388608 := by
    have hle := sum_natAbs_le samples
    rw [hlen] at hle
    exact hle
  have hvoiced : isVoiced cfg d.floor (frameLevel samples) = voiced := (Bool.decide_and ..).symm
  have hfloor : nextFloor d.floor level = if moved < 8 then 8 else if 8192 < moved then 8192 else moved := by
    unfold nextFloor clamp
    rw [Nat.shiftRight_eq_div_pow]
  have he : e = { d with floor := nextFloor d.floor level, lastLevel := some level }.runs cfg voiced := by
    rw [← hvoiced]
    rfl
  refine ⟨hsum, Nat.div_le_of_le_mul hsum, rfl, hfloor, ?_, ?_, ?_⟩ <;> rw [he] <;> rfl

/-! ### CONFIGURE_CHANNEL -/

/-- The configuration a request stores, in numbers. -/
theorem storedConfig_eq (r : ConfigureChannelReq) :
    let play : PlayPermission := match r.offPlay with | 0 => .all | 1 => .cleared | _ => .none
    let polarity (n : Nat) : Polarity := if n = 0 then .activeLow else .activeHigh
    storedConfig r =
      { ratio := max 12 (min 64 r.ratio), minimum := min 4096 r.minimum, onsetRun := max 1 (min 8 r.onsetRun)
        hangRun := max 4 (min 63 r.hangRun), startMode := if r.startMode = 0 then .immediate else .onVoice
        outputMode := if r.outputMode = 0 then .echo else .quiet
        polarity := ⟨polarity r.polarity.c0, polarity r.polarity.c1, polarity r.polarity.c2, polarity r.polarity.c3⟩
        enable := r.enable, speakers := max 2 (min 31 r.speakers), offPlay := play
        offReadback := r.offReadback && decide (play ≠ .none), offExport := r.offExport
        levelPeriod := min 250 r.levelPeriod
        plan := { nominal := max 625 (min 112500 r.plan.nominal), grace := min 37500 r.plan.grace
                  pause := max 4 (min 250 r.plan.pause), softOverlap := min 250 r.plan.softOverlap
                  hardOverlap := min 625 r.plan.hardOverlap } } := by
  intro play polarity
  have hplay : PlayPermission.ofCode r.offPlay = play := by
    unfold PlayPermission.ofCode
    rcases h : r.offPlay with - | - | k <;> simp [play, h]
  simp only [storedConfig, hplay, clampPlan, clampNominal, clampGrace, clampPause, clampSoft, clampHard, clamp_zero]
  rw [clamp_eq (by decide : 12 ≤ 64), clamp_eq (by decide : 1 ≤ 8), clamp_eq (by decide : 4 ≤ 63), clamp_eq (by decide : 2 ≤ 31),
    clamp_eq (by decide : 625 ≤ 112500), clamp_eq (by decide : 4 ≤ 250)]
  rfl

/-- Settles O33. -/
theorem configureChannelReplaces : Obligations.ConfigureChannelReplaces := by
  intro s tag r h
  refine ⟨fun hno => State.request_keeps h rfl rfl ?_, fun c hc => ?_⟩
  · have hnone : channelOf r.channel = none := dif_neg (by omega)
    rw [hnone]
    rfl
  · intro ch play polarity cfg
    have hcfg : storedConfig r = cfg := storedConfig_eq r
    obtain ⟨t, ht, hanswered, hoff⟩ := State.request_answers
      (u := (s.taking ⟨0x15, tag, encodeConfigureChannel r⟩).modChannel c fun ch => ch.configure cfg)
      (a := ⟨adjusted (configChanges r), configBytes cfg⟩) h rfl rfl (by rw [hc, channelOf_val, ← hcfg]) rfl
    have hchannels : t.channels = s.channels.set c (ch.configure cfg) := (congrArg State.channels hoff :)
    have hget : t.channels.get c = ch.configure cfg := by rw [hchannels, PerChannel.get_set_self]
    refine ⟨t, ht, ⟨_, ?_, hanswered⟩, ?_, fun k => ?_, ?_, ?_, fun d hd => ?_, ?_⟩
    · cases configChanges r
      · exact .inl rfl
      · exact .inr rfl
    · rw [hget]; rfl
    · rw [hget]
      fin_cases k <;> rfl
    · rw [hget]; rfl
    · rw [hget]; rfl
    · rw [hchannels, PerChannel.get_set_ne _ _ hd]
    · exact congrArg (fun u : State => { u with channels := s.channels }) hoff

/-! ### SET_PLAN -/

theorem map_clamp_ne (lo hi : Nat) (h : lo ≤ hi) (o : Option Nat) :
    o.map (clamp lo hi) ≠ o ↔ o.any (fun k => decide (k < lo) || decide (hi < k)) = true := by
  cases o with
  | none => simp
  | some k => simp [clamp_ne lo hi k h]

/-- A patch is stored as given where none of its fields is out of range. -/
theorem clampPatch_ne (p : PlanPatch) : clampPatch p ≠ p ↔
    (p.nominal.any (fun k => k < 625 || 112500 < k) || p.grace.any (fun k => 37500 < k)
      || p.pause.any (fun k => k < 4 || 250 < k) || p.softOverlap.any (fun k => 250 < k)
      || p.hardOverlap.any (fun k => 625 < k)) = true := by
  have hzero (hi : Nat) (o : Option Nat) : o.map (clamp 0 hi) ≠ o ↔ o.any (fun k => decide (hi < k)) = true := by
    simpa using map_clamp_ne 0 hi (Nat.zero_le hi) o
  have hsame : clampPatch p = p ↔ p.nominal.map clampNominal = p.nominal ∧ p.grace.map clampGrace = p.grace
      ∧ p.pause.map clampPause = p.pause ∧ p.softOverlap.map clampSoft = p.softOverlap
      ∧ p.hardOverlap.map clampHard = p.hardOverlap := by
    obtain ⟨n, g, q, so, ho⟩ := p
    simp only [clampPatch, PlanPatch.mk.injEq]
  rw [Ne, hsame]
  simp only [Bool.or_eq_true, not_and_or]
  rw [← map_clamp_ne 625 112500 (by decide), ← hzero, ← map_clamp_ne 4 250 (by decide), ← hzero, ← hzero]
  simp only [or_assoc]
  rfl

/-- Settles O35. -/
theorem setPlanReplacesTheFieldsGiven : Obligations.SetPlanReplacesTheFieldsGiven := by
  intro s tag n p h
  refine ⟨fun hnone => State.request_keeps h rfl rfl ?_, fun x hx => ⟨fun hphase => State.request_keeps h rfl rfl ?_,
    fun hphase => ?_⟩⟩
  · rw [show (s.taking _).session? n = none from hnone]
    rfl
  · rw [show (s.taking _).session? n = some x from hx]
    dsimp only
    unfold State.setPlan
    rcases hphase with hphase | hphase <;> rw [hphase] <;> rfl
  · intro plan clamped
    have hnumber := State.number_of_session? hx
    have hstatus : adjusted (decide (clampPatch p ≠ p)) = if clamped then .adjusted else .ok := by
      unfold adjusted
      rw [show decide (clampPatch p ≠ p) = clamped from (Bool.eq_iff_iff.mpr (by rw [decide_eq_true_iff]; exact clampPatch_ne p))]
    obtain ⟨t, ht, hanswered, hoff⟩ := State.request_answers
      (u := (s.taking ⟨0x20, tag, u16 n ++ u8 (p.bits 0) ++ planBytes p.filled⟩).modSession n fun y => { y with plan := plan })
      (a := ⟨if clamped then .adjusted else .ok, planFields plan⟩) h rfl rfl (by
        rw [show (s.taking _).session? n = some x from hx, ← hstatus]
        dsimp only
        unfold State.setPlan
        rw [hnumber]
        rcases hphase with hphase | hphase <;> rw [hphase] <;> rfl) rfl
    exact ⟨t, ht, hanswered, hoff⟩

end Sys2Proof.Machine
end

section
/-! SUPPORT. CUT_NOW (R55, R57, R58). -/

namespace Sys2Proof.Machine

/-! ### What dispatch leaves of the takes -/

/-- Dispatch leaves of each take all but where it stands. -/
theorem Move.sansDispatch {k : Kind} {s t : State} (h : Move k s t) (hk : k ∉ [Kind.takeReturn, .takeClass, .takeBody, .takeTable]) :
    t.takes.map Take.sansDispatch = s.takes.map Take.sansDispatch := by
  cases h with
  | takeDispatch r f hf =>
    rw [State.modTake, List.map_map]
    refine List.map_congr_left fun t _ => ?_
    rw [Function.comp_apply]
    split
    · exact hf t
    · rfl
  | takeReturn | takeClass | takeBody | takeTable => simp at hk
  | _ => rfl

theorem Reach.sansDispatch {K : List Kind} {s t : State} (h : Reach K s t)
    (hK : ∀ k ∈ K, k ∉ [Kind.takeReturn, .takeClass, .takeBody, .takeTable]) :
    t.takes.map Take.sansDispatch = s.takes.map Take.sansDispatch :=
  h.keeps (fun u => u.takes.map Take.sansDispatch) fun k hk _ _ hm => hm.sansDispatch (hK k hk)

/-- A take looked up, but for where it stands. -/
theorem State.take?_sansDispatch {s t : State} (h : t.takes.map Take.sansDispatch = s.takes.map Take.sansDispatch) (r : TakeRef) :
    (t.take? r).map Take.sansDispatch = (s.take? r).map Take.sansDispatch := by
  have hview (u : State) : (u.take? r).map Take.sansDispatch =
      (u.takes.map Take.sansDispatch).find? fun t => t.session = r.session ∧ t.number = r.number := by
    rw [State.take?, List.find?_map]
    rfl
  rw [hview, hview, h]

theorem exists_mem_of_map_eq {α β : Type} {f : α → β} {l l' : List α} (h : l'.map f = l.map f) {a : α} (ha : a ∈ l) :
    ∃ b ∈ l', f b = f a := by
  have hmem : f a ∈ l'.map f := h ▸ List.mem_map_of_mem ha
  exact List.mem_map.mp hmem

/-! ### A cut -/

/-- The take a cut at `c` ends, as its record then stands. -/
def Take.cutAt (t : Take) (c lost : Nat) (k : CutKind) : Take :=
  { t with lostFrames := t.lostFrames - lost, stop := some (c - 1), capture := .closed, cutKind := some k }

theorem State.cutClosed_takes (s : State) (x : Session) (n m c : Nat) (k : CutKind) :
    (s.cutClosed x n m c k).takes = s.takes.map fun t =>
      if t.session = n ∧ t.number = m then t.cutAt c (if k = .soft then s.lostFrom x c else 0) k else t := by
  have hplaying (u : State) : (u.cutPlaying ⟨n, m⟩ (c - 1)).takes = u.takes := (u.cutPlaying_reach ..).takes (by decide)
  have hraise (u : State) : (u.raiseTake ⟨n, m⟩ .closed).takes = u.takes :=
    (State.raiseTake_reach (K := [.notice]) u _ _ (by decide)).takes (by decide)
  rw [State.cutClosed, hplaying, State.modSession_takes, State.closeTake, hraise, State.modTake_takes, State.modTake_takes,
    List.map_map]
  refine List.map_congr_left fun t _ => ?_
  by_cases hname : t.session = n ∧ t.number = m
  · simp only [Function.comp_apply, if_pos hname, Take.cutAt]
  · simp only [Function.comp_apply, if_neg hname]

theorem State.cutClosed_session? {s : State} {x : Session} {n : Nat} (hx : s.session? n = some x) (y : Session) (m c : Nat)
    (k : CutKind) : (s.cutClosed y n m c k).session? n = some x.clearCut := by
  have hplaying (u : State) : (u.cutPlaying ⟨n, m⟩ (c - 1)).sessions = u.sessions := (u.cutPlaying_reach ..).sessions (by decide)
  have hclose (u : State) : (u.closeTake ⟨n, m⟩ (c - 1) k).sessions = u.sessions := (u.closeTake_reach ..).sessions (by decide)
  have hset : (s.modSession n Session.clearCut).session? n = some x.clearCut := State.session?_modSession hx fun _ => rfl
  rw [← hset, State.session?, State.session?, State.cutClosed, hplaying, State.modSession_sessions, hclose]
  rfl

/-- After a cut the handing over alone follows. -/
theorem State.makeCut_reach_opened {s : State} {n m : Nat} {x : Session} {t : Take} (c : Nat) (k : CutKind)
    (hx : s.session? n = some x) (hm : x.openTake = some m) (ht : s.take? ⟨n, m⟩ = some t) :
    Reach dispatchKinds (s.cutOpened x t n m c k) (s.makeCut n c k) := by
  rw [State.makeCut_eq c k hx hm ht]
  have hhand (u : State) (r : TakeRef) : Reach dispatchKinds u (u.handOver r) := u.handOver_reach r
  exact .thenIf (.onlyIf fun _ => hhand ..) fun _ => hhand ..

/-- A record inserted is found under a name that no other record has. -/
theorem find?_insertBy {α : Type} {before : α → α → Bool} {a : α} {l : List α} {p : α → Bool} (ha : p a = true)
    (hl : l.find? p = none) : (insertBy before a l).find? p = some a := by
  obtain ⟨u, v, hsplit, hinsert, -⟩ := insertBy_split before a l
  rw [hsplit, List.find?_append] at hl
  have hu : u.find? p = none := (Option.or_eq_none_iff.mp hl).1
  rw [hinsert, List.find?_append, hu, Option.none_or, List.find?_cons_of_pos ha]

/-- What trimming leaves of each session. -/
theorem Move.sansTrim {k : Kind} {s t : State} (h : Move k s t)
    (hk : k ∉ [Kind.session, .sessionMarks, .takeCount, .sessionGone, .sessionOpen]) :
    t.sessions.map Session.sansTrim = s.sessions.map Session.sansTrim := by
  cases h with
  | sessionTrim n f hf =>
    rw [State.modSession, List.map_map]
    refine List.map_congr_left fun x _ => ?_
    rw [Function.comp_apply]
    split
    · exact hf x
    · rfl
  | session | sessionMarks | takeCount | sessionGone | sessionOpen => simp at hk
  | _ => rfl

theorem Reach.session?_sansTrim {K : List Kind} {s t : State} (h : Reach K s t)
    (hK : ∀ k ∈ K, k ∉ [Kind.session, .sessionMarks, .takeCount, .sessionGone, .sessionOpen]) (n : Nat) :
    (t.session? n).map Session.sansTrim = (s.session? n).map Session.sansTrim :=
  State.session?_congr (view := Session.sansTrim) (number := Session.number) (fun _ => rfl)
    (h.keeps (fun u => u.sessions.map Session.sansTrim) fun k hk _ _ hm => hm.sansTrim (hK k hk)) n

/-- What a cut leaves: the take it ends, the take it opens, and the session with that take open. -/
theorem State.makeCut_spec {s : State} {n m c : Nat} {k : CutKind} {x : Session} {t : Take} (hx : s.session? n = some x)
    (hm : x.openTake = some m) (ht : s.take? ⟨n, m⟩ = some t) : ∃ lost lost',
    (∃ u ∈ (s.makeCut n c k).takes, u.sansDispatch = (t.cutAt c lost k).sansDispatch)
    ∧ (∃ u ∈ (s.makeCut n c k).takes, u.sansDispatch =
        newTake x (leadInAt c (overlapOf x.planInForce k) t.leadIn (x.firstStored.getD 0)) c lost')
    ∧ (s.take? ⟨n, x.takeCount + 1⟩ = none → ((s.makeCut n c k).take? ⟨n, x.takeCount + 1⟩).map Take.sansDispatch =
        some (newTake x (leadInAt c (overlapOf x.planInForce k) t.leadIn (x.firstStored.getD 0)) c lost'))
    ∧ ∃ z, (s.makeCut n c k).session? n = some z ∧ z.sansTrim =
        { x.clearCut with takeCount := x.takeCount + 1, openTake := some (x.takeCount + 1), reserved := false }.sansTrim := by
  have hnumber := State.number_of_session? hx
  have hhanded := State.makeCut_reach_opened c k hx hm ht
  have hclosed := State.cutClosed_session? hx x m c k
  have hopening := State.openTake_reach_opening hclosed (leadInAt c (overlapOf x.planInForce k) t.leadIn (x.firstStored.getD 0)) c
  generalize hlost' : (s.cutClosed x n m c k).lostFrom x.clearCut
    (leadInAt c (overlapOf x.planInForce k) t.leadIn (x.firstStored.getD 0)) = lost' at hopening
  have htakes : (s.cutOpened x t n m c k).takes = insertBy Take.before
      (newTake x (leadInAt c (overlapOf x.planInForce k) t.leadIn (x.firstStored.getD 0)) c lost')
      (s.cutClosed x n m c k).takes := hopening.takes (by decide)
  have hviews := hhanded.sansDispatch (by decide)
  refine ⟨if k = .soft then s.lostFrom x c else 0, lost', ?_, ?_, fun hnone => ?_, ?_⟩
  · refine exists_mem_of_map_eq hviews (a := t.cutAt c _ k) ?_
    rw [htakes, State.cutClosed_takes]
    refine mem_insertBy.mpr (.inr (List.mem_map.mpr ⟨t, State.mem_of_take? ht, if_pos ?_⟩))
    have href := State.ref_of_take? ht
    exact ⟨congrArg TakeRef.session href, congrArg TakeRef.number href⟩
  · refine exists_mem_of_map_eq (f := Take.sansDispatch) hviews (a := newTake x _ c lost') ?_
    rw [htakes]
    exact mem_insertBy.mpr (.inl rfl)
  · rw [State.take?_sansDispatch hviews]
    have hfound : (s.cutOpened x t n m c k).take? ⟨n, x.takeCount + 1⟩ = some
        (newTake x (leadInAt c (overlapOf x.planInForce k) t.leadIn (x.firstStored.getD 0)) c lost') := by
      rw [State.take?, htakes]
      refine find?_insertBy (by simp [newTake, hnumber]) ?_
      rw [State.cutClosed_takes, List.find?_map, Option.map_eq_none_iff]
      refine List.find?_eq_none.mpr fun u hu hname => ?_
      have hno := List.find?_eq_none.mp hnone u hu
      refine hno ?_
      rw [Function.comp_apply] at hname
      split at hname <;> exact hname
    rw [hfound]
    rfl
  · have hset : ((s.cutClosed x n m c k).opening n
        (newTake x.clearCut (leadInAt c (overlapOf x.planInForce k) t.leadIn (x.firstStored.getD 0)) c lost')).session? n =
        some { x.clearCut with takeCount := x.takeCount + 1, openTake := some (x.takeCount + 1), reserved := false } :=
      State.session?_modSession (s := (s.cutClosed x n m c k).setTakes _) hclosed fun _ => rfl
    have hboth : Reach (trimKinds ++ dispatchKinds) _ (s.makeCut n c k) := (hopening.mono (by decide)).trans (hhanded.mono (by decide))
    have hsame := hboth.session?_sansTrim (by decide) n
    rw [hset, Option.map_some] at hsame
    obtain ⟨z, hz, hzx⟩ := Option.map_eq_some_iff.mp hsame
    exact ⟨z, hz, hzx⟩

/-- Settles O36. -/
theorem cutNowCutsOrDefers : Obligations.CutNowCutsOrDefers := by
  intro s tag n m x k h hx hrecording hm hk deferred
  have hnumber := State.number_of_session? hx
  have hkm : k.number = m := (congrArg TakeRef.number (State.ref_of_take? hk) :)
  have hopen : (s.taking ⟨0x21, tag, u16 n⟩).openTakeOf x = some k := by
    unfold State.openTakeOf
    rw [if_pos hrecording, hm, hnumber]
    exact hk
  have hrule : (match (s.taking ⟨0x21, tag, u16 n⟩).session? n with
      | none => (s.taking ⟨0x21, tag, u16 n⟩, refuse .noSuch)
      | some x =>
        match (s.taking ⟨0x21, tag, u16 n⟩).openTakeOf x with
        | none => (s.taking ⟨0x21, tag, u16 n⟩, refuse .wrongState)
        | some t => (s.taking ⟨0x21, tag, u16 n⟩).cutNow x t) = (s.taking ⟨0x21, tag, u16 n⟩).cutNow x k := by
    rw [show (s.taking _).session? n = some x from hx]
    dsimp only
    rw [hopen]
  refine ⟨fun hpending => ?_, fun hpending hshort => ?_, fun f hpending hf hlong => ?_⟩
  · obtain ⟨v, q, hexec, hv, hanswered⟩ := State.requestMoving_answers (u := s.taking ⟨0x21, tag, u16 n⟩) (a := deferred) h rfl rfl
      (hrule.trans (by rw [State.cutNow, if_pos hpending, deferredBody, hkm])) rfl
    exact ⟨v, hexec, hanswered, by rw [hv]; rfl⟩
  · have hlength : coreLength k.core x.arrivedHead < Config.forcedCore := by
      cases hf : x.arrivedHead with
      | none => exact (by decide : 0 < 32)
      | some f => exact hshort f hf
    obtain ⟨v, q, hexec, hv, hanswered⟩ := State.requestMoving_answers
      (u := (s.taking ⟨0x21, tag, u16 n⟩).modSession n fun y => { y with forcedPending := true }) (a := deferred) h rfl rfl
      (hrule.trans (by
        rw [State.cutNow, if_neg (Bool.eq_false_iff.mp hpending), if_pos hlength, deferredBody, hkm, hnumber])) rfl
    exact ⟨v, hexec, hanswered, by rw [hv]; rfl⟩
  · intro leadIn
    have hlength : ¬ coreLength k.core x.arrivedHead < Config.forcedCore := by
      rw [hf]
      exact Nat.not_lt.mpr hlong
    refine ⟨fun hfull => ?_, fun hcount hfree => ?_⟩
    · obtain ⟨v, q, hexec, hv, hanswered⟩ := State.requestMoving_answers (u := s.taking ⟨0x21, tag, u16 n⟩) (a := ⟨.full, []⟩)
        h rfl rfl (hrule.trans (by
          rw [State.cutNow, if_neg (Bool.eq_false_iff.mp hpending), if_neg hlength]
          rcases hfull with hfull | hfull
          · exact if_pos hfull
          · split
            · rfl
            · exact if_pos hfull)) rfl
      exact ⟨v, hexec, hanswered, by rw [hv]; rfl⟩
    · have hmoves := (s.taking ⟨0x21, tag, u16 n⟩).makeCut_reach n (f + 1) .forced
      obtain ⟨v, q, hexec, hv, hanswered⟩ := State.requestMoving_answers
        (u := (s.taking ⟨0x21, tag, u16 n⟩).makeCut n (f + 1) .forced)
        (a := ⟨.ok, ((s.taking ⟨0x21, tag, u16 n⟩).makeCut n (f + 1) .forced).cutBody n m f⟩) h rfl rfl (hrule.trans (by
          rw [State.cutNow, if_neg (Bool.eq_false_iff.mp hpending), if_neg hlength, if_neg (Nat.not_le.mpr hcount),
            if_neg (by exact hfree), hf, hkm, hnumber]
          rfl)) (hmoves.inProgress (by decide) (by decide))
      obtain ⟨lost, lost', ⟨u, hu, hcut⟩, ⟨w, hw, hnew⟩, hlook, z, hz, hzx⟩ :=
        State.makeCut_spec (s := s.taking ⟨0x21, tag, u16 n⟩) (c := f + 1) (k := .forced) hx hm hk
      have hzopen : z.openTake = some (x.takeCount + 1) := (congrArg Session.openTake hzx :)
      have hks : k.session = n := (congrArg TakeRef.session (State.ref_of_take? hk) :)
      refine ⟨v, hexec, ⟨u, by rw [hv]; exact hu, ?_⟩, ⟨w, by rw [hv]; exact hw, ?_⟩, fun hnone => ?_, ?_, ?_⟩
      · exact ⟨(congrArg Take.session hcut).trans hks, (congrArg Take.number hcut).trans hkm, (congrArg Take.capture hcut :),
          (congrArg Take.stop hcut :), (congrArg Take.cutKind hcut :), (congrArg Take.leadIn hcut :), (congrArg Take.core hcut :)⟩
      · exact ⟨(congrArg Take.session hnew).trans hnumber, (congrArg Take.number hnew :), (congrArg Take.capture hnew :),
          (congrArg Take.stop hnew :), (congrArg Take.core hnew :), (congrArg Take.takeClass hnew :), (congrArg Take.leadIn hnew :)⟩
      · obtain ⟨y, hy, hyx⟩ := Option.map_eq_some_iff.mp (hlook hnone)
        have hbody : ((s.taking ⟨0x21, tag, u16 n⟩).makeCut n (f + 1) .forced).cutBody n m f =
            u16 m ++ u32 f ++ u16 (x.takeCount + 1) ++ u32 leadIn ++ u32 (f + 1) := by
          unfold State.cutBody
          rw [hz, Option.bind_some, hzopen, Option.bind_some, hy]
          dsimp only
          have hynumber : y.number = x.takeCount + 1 := (congrArg Take.number hyx :)
          have hyleadIn : y.leadIn = leadIn := (congrArg Take.leadIn hyx :)
          have hycore : y.core = f + 1 := (congrArg Take.core hyx :)
          rw [hynumber, hyleadIn, hycore]
          simp only [List.append_assoc]
        rw [hbody] at hanswered
        exact hanswered
      · rw [hv]; exact hmoves.channels (by decide)
      · rw [hv]; exact hmoves.readback (by decide)

end Sys2Proof.Machine
end

section
/-! SUPPORT. RELEASE_TAKE (R41, R69). -/

namespace Sys2Proof.Machine

/-! ### The trim point after a recomputation -/

theorem State.trimStore_sessions (s : State) (n : Nat) : (s.trimStore n).sessions = s.sessions :=
  (s.trimStore_reach n).sessions (by decide)

/-- A recomputed trim point is the one R41 gives. -/
theorem State.trimOf_recomputeTrim (s : State) (n : Nat) :
    (s.recomputeTrim n).trimOf n = (s.session? n).bind fun x => s.trimPointOf x := by
  have hstore (u : State) : (u.trimStore n).trimOf n = u.trimOf n := by
    rw [State.trimOf, State.trimOf, State.session?, State.session?, State.trimStore_sessions]
  unfold State.recomputeTrim
  cases hx : s.session? n with
  | none =>
    dsimp only
    rw [State.trimOf, hx]
    rfl
  | some x =>
    dsimp only
    rw [Option.bind_some]
    split
    · next hsame =>
      rw [hstore, State.trimOf, hx]
      exact hsame.symm
    · have hset : (s.modSession n fun y => { y with trimPoint := s.trimPointOf x }).session? n =
          some { x with trimPoint := s.trimPointOf x } := State.session?_modSession hx fun _ => rfl
      cases hp : s.trimPointOf x with
      | none =>
        dsimp only
        rw [hp] at hset
        rw [State.trimOf, hset]
        rfl
      | some p =>
        dsimp only
        rw [hp] at hset
        rw [hstore, State.trimOf]
        have hmarks := State.session?_modSession hset
          (f := fun x => { x with gapRun := x.gapRun.map fun g => if g.first < p then { g with mark := none } else g })
          fun _ => rfl
        have htrimmed : (((s.modSession n fun y => { y with trimPoint := some p }).trimMarks n p).trimRanges n p).session? n = _ :=
          hmarks
        rw [htrimmed]
        rfl

/-! ### What a release leaves of the take table -/

/-- The names of the takes stand through all but the opening and the freeing of a record. -/
theorem Move.refs {k : Kind} {s t : State} (h : Move k s t) (hk : k ≠ .takeTable) :
    t.takes.map Take.ref = s.takes.map Take.ref := by
  have hmod {r : TakeRef} {f : Take → Take} (hf : ∀ t, (f t).ref = t.ref) :
      (s.modTake r f).takes.map Take.ref = s.takes.map Take.ref := by
    rw [State.modTake, List.map_map]
    refine List.map_congr_left fun t _ => ?_
    rw [Function.comp_apply]
    split
    · exact hf t
    · rfl
  cases h with
  | takeDispatch r f hf => exact hmod fun t => (congrArg Take.ref (hf t) :)
  | takeReturn r f hf => exact hmod fun t => (congrArg Take.ref (hf t) :)
  | takeClass => exact hmod fun _ => rfl
  | takeBody f hf =>
    rw [State.setTakes, List.map_map]
    exact List.map_congr_left fun t _ => (congrArg Take.ref (hf t) :)
  | takeTable => exact absurd rfl hk
  | _ => rfl

theorem Reach.refs {K : List Kind} {s t : State} (h : Reach K s t) (hK : Kind.takeTable ∉ K) :
    t.takes.map Take.ref = s.takes.map Take.ref :=
  h.keeps (fun u => u.takes.map Take.ref) fun _ hk _ _ hm => hm.refs fun he => hK (he ▸ hk)

theorem State.dropTake_refs (s : State) (r : TakeRef) :
    (s.dropTake r).takes.map Take.ref = (s.takes.map Take.ref).filter fun q => q ≠ r := by
  rw [State.dropTake, State.setTakes, List.filter_map]
  refine congrArg (List.map Take.ref) (List.filter_congr fun t _ => ?_)
  obtain ⟨n, m⟩ := r
  simp [Take.ref]

/-- The state in which a released take is off the queue and out of the table. -/
def State.released (s : State) (t : Take) : State :=
  ((if t.dispatch = .queued then s.dequeue t.ref else s).raiseTake t.ref .released).dropTake t.ref

theorem State.released_reach (s : State) (t : Take) : Reach [.queue, .notice, .takeTable] s (s.released t) :=
  .trans (.trans (.ite (fun _ => State.dequeue_reach (hK := by decide) ..) fun _ => .refl)
    (State.raiseTake_reach (hK := by decide) ..)) (.one (.takeTable _) (by decide))

theorem State.released_takes (s : State) (t : Take) : (s.released t).takes = (s.dropTake t.ref).takes := by
  have hraise (u : State) : (u.raiseTake t.ref .released).takes = u.takes :=
    (State.raiseTake_reach (K := [.notice]) u _ _ (by decide)).takes (by decide)
  unfold State.released
  rw [State.dropTake, State.setTakes_takes, hraise]
  split <;> rfl

theorem State.released_queue (s : State) (t : Take) :
    (s.released t).queue = if t.dispatch = .queued then (s.dequeue t.ref).queue else s.queue := by
  have hraise (u : State) : (u.raiseTake t.ref .released).queue = u.queue :=
    (State.raiseTake_reach (K := [.notice]) u _ _ (by decide)).queue (by decide)
  unfold State.released
  rw [State.dropTake, State.setTakes_queue, hraise]
  split <;> rfl

/-- The frames that hold the trim point of the session once the take is released. -/
theorem State.released_trimInputs {s : State} {t : Take} {x : Session} {n m : Nat} (ht : t.ref = ⟨n, m⟩) (hx : x.number = n) :
    (s.released t).trimInputs x = (s.takes.filter fun t => t.session = n ∧ t.number ≠ m).map (·.leadIn)
      ++ (match (s.readback.get x.channel).current with
        | some e => if e.entry.session = n then (s.readback.get x.channel).fetch.toList else []
        | none => [])
      ++ if s.exporter.phase = .streaming ∧ s.exporter.session = n then s.exporter.cursor.toList else [] := by
  have htakes : (s.released t).takesOf x.number = s.takes.filter fun t => t.session = n ∧ t.number ≠ m := by
    rw [State.takesOf, State.released_takes, ht, hx, State.dropTake, State.setTakes_takes, List.filter_filter]
    refine List.filter_congr fun u _ => ?_
    by_cases hu : u.session = n <;> simp [hu]
  unfold State.trimInputs
  rw [htakes, (s.released_reach t).readback (by decide), (s.released_reach t).exporter (by decide), hx] <;> rfl

/-- The trim point of R41 without the take released. -/
theorem State.released_trimPointOf (s : State) (t : Take) (x : Session) : (s.released t).trimPointOf x =
    x.firstStored.bind fun _ => match (s.released t).trimInputs x with
      | [] => some (match x.arrivedHead with | some h => h + 1 | none => 0)
      | a :: rest => some (rest.foldl min a) := by
  unfold State.trimPointOf
  cases x.firstStored with
  | none => rfl
  | some _ => rfl

theorem State.released_rotation (s : State) (t : Take) : (s.released t).rotation = s.rotation := by
  have hraise (u : State) : (u.raiseTake t.ref .released).rotation = u.rotation :=
    (State.raiseTake_reach (K := [.notice]) u _ _ (by decide)).rotation (by decide)
  unfold State.released
  rw [State.dropTake, State.setTakes_rotation, hraise]
  split <;> rfl

/-- Settles O37. -/
theorem releaseTakeFreesTheRecord : Obligations.ReleaseTakeFreesTheRecord := by
  intro s tag n m h i refused held trim
  refine ⟨fun hnone => ?_, fun k hk => ⟨fun hopened => ?_, fun hclosed hheld => ?_, fun hclosed hassigned hinWork => ?_⟩⟩
  · obtain ⟨v, q, hexec, hv, hanswered⟩ := State.requestMoving_answers (u := s.taking ⟨0x22, tag, u16 n ++ u16 m⟩)
      (a := ⟨.noSuch, []⟩) h rfl rfl (by rw [show (s.taking _).take? ⟨n, m⟩ = none from hnone]; rfl) rfl
    exact ⟨v, hexec, hanswered, by rw [hv]; rfl⟩
  · obtain ⟨v, q, hexec, hv, hanswered⟩ := State.requestMoving_answers (u := s.taking ⟨0x22, tag, u16 n ++ u16 m⟩)
      (a := ⟨.wrongState, []⟩) h rfl rfl (by
        rw [show (s.taking _).take? ⟨n, m⟩ = some k from hk]
        exact if_pos hopened) rfl
    exact ⟨v, hexec, hanswered, by rw [hv]; rfl⟩
  · obtain ⟨v, q, hexec, hv, hanswered⟩ := State.requestMoving_answers (u := s.taking ⟨0x22, tag, u16 n ++ u16 m⟩)
      (a := ⟨.inUse, []⟩) h rfl rfl (by
        rw [show (s.taking _).take? ⟨n, m⟩ = some k from hk]
        dsimp only
        rw [hclosed, if_neg (by decide)]
        rcases hheld with hheld | hheld <;> rw [hheld] <;> rfl) rfl
    exact ⟨v, hexec, hanswered, by rw [hv]; rfl⟩
  · have href : k.ref = ⟨n, m⟩ := State.ref_of_take? hk
    have hks : k.session = n := (congrArg TakeRef.session href :)
    have hkm : k.number = m := (congrArg TakeRef.number href :)
    have hstart := (s.taking ⟨0x22, tag, u16 n ++ u16 m⟩).released_reach k
    have htrimmed := ((s.taking ⟨0x22, tag, u16 n ++ u16 m⟩).released k).recomputeTrim_reach n
    have hfreed := (((s.taking ⟨0x22, tag, u16 n ++ u16 m⟩).released k).recomputeTrim n).freeIfDone_reach n
    have hafter : Reach (trimKinds ++ freeKinds) _ _ := (htrimmed.mono (by decide)).trans (hfreed.mono (by decide))
    have hall : Reach ([.queue, .notice, .takeTable] ++ (trimKinds ++ freeKinds)) _ _ :=
      (hstart.mono (by decide)).trans (hafter.mono (by decide))
    have htrim : (((s.taking ⟨0x22, tag, u16 n ++ u16 m⟩).released k).recomputeTrim n).trimOf n = trim := by
      have hlook : ((s.taking ⟨0x22, tag, u16 n ++ u16 m⟩).released k).session? n = s.session? n := by
        rw [State.session?, hstart.sessions (by decide)]
        rfl
      rw [State.trimOf_recomputeTrim, hlook]
      refine Option.bind_congr fun x hx => ?_
      rw [State.released_trimPointOf, State.released_trimInputs href (State.number_of_session? hx)]
      rfl
    have hrule : (s.taking ⟨0x22, tag, u16 n ++ u16 m⟩).releaseTake k =
        ((((s.taking ⟨0x22, tag, u16 n ++ u16 m⟩).released k).recomputeTrim n).freeIfDone n,
          ⟨.ok, u16 n ++ u16 m ++ opt32 trim
            ++ u16 ((((s.taking ⟨0x22, tag, u16 n ++ u16 m⟩).released k).recomputeTrim n).freeIfDone n).takesFree⟩) := by
      rw [← htrim, ← hks, ← hkm]
      rfl
    obtain ⟨v, q, hexec, hv, hanswered⟩ := State.requestMoving_answers h rfl rfl ((by
        rw [show (s.taking _).take? ⟨n, m⟩ = some k from hk]
        dsimp only
        rw [hclosed, if_neg (by decide), ← hrule]
        cases hd : k.dispatch with
        | assigned => exact absurd hd hassigned
        | inWork => exact absurd hd hinWork
        | _ => rfl)) (hall.inProgress (by decide) (by decide))
    have hqueue : v.queue = if k.dispatch = .queued then (s.dequeue k.ref).queue else s.queue := by
      rw [hv]
      exact (hafter.queue (by decide)).trans (State.released_queue ..)
    refine ⟨v, hexec, ?_, ?_, fun hd => ?_, fun hd => ?_, ?_, ?_⟩
    · have hfree : v.takesFree = ((((s.taking ⟨0x22, tag, u16 n ++ u16 m⟩).released k).recomputeTrim n).freeIfDone n).takesFree := by
        rw [hv]
        rfl
      rw [hfree]
      exact hanswered
    · rw [hv]
      refine (hafter.refs (by decide)).trans ?_
      rw [State.released_takes, State.dropTake_refs, href]
      rfl
    · rw [hqueue, if_pos hd, href]
      rfl
    · rw [hqueue, if_neg hd]
    · rw [hv]
      exact (hafter.rotation (by decide)).trans (State.released_rotation ..)
    · rw [hv]
      exact hall.mem (by decide)

end Sys2Proof.Machine
end

section
/-! SUPPORT. The matching pass as the requests of dispatch see it (R111 to R115). -/

namespace Sys2Proof.Machine

/-! ### The lists of the stations -/

theorem Move.stationTakes {k : Kind} {s t : State} (h : Move k s t) (hk : k ≠ .list) (n : StationId) :
    (t.stations.get n).takes = (s.stations.get n).takes := by
  have hmod {o : StationId} {f : Station → Station} (hf : (f (s.stations.get o)).takes = (s.stations.get o).takes) :
      ((s.modStation o f).stations.get n).takes = (s.stations.get n).takes := by
    rw [State.modStation_stations]
    by_cases hn : n = o
    · subst hn
      rw [PerStation.get_set_self]
      exact hf
    · rw [PerStation.get_set_ne _ _ hn]
  cases h with
  | port o f hf => exact hmod (congrArg Station.takes hf :)
  | list => exact absurd rfl hk
  | signal o f _ htakes => exact hmod htakes
  | stationConfig o cfg => exact hmod rfl
  | _ => rfl

theorem Reach.stationTakes {K : List Kind} {s t : State} (h : Reach K s t) (hK : Kind.list ∉ K) (n : StationId) :
    (t.stations.get n).takes = (s.stations.get n).takes :=
  h.keeps (fun u => (u.stations.get n).takes) fun _ hk _ _ hm => hm.stationTakes (fun he => hK (he ▸ hk)) n

theorem State.leaveList_lists (s : State) (n : StationId) (r : TakeRef) (o : StationId) :
    ((s.leaveList n r).stations.get o).takes = if o = n then (s.stations.get o).takes.erase r else (s.stations.get o).takes := by
  have hmod : ((s.modStation n fun st => { st with takes := st.takes.erase r, stateDue := true }).stations.get o).takes =
      if o = n then (s.stations.get o).takes.erase r else (s.stations.get o).takes := by
    rw [State.modStation_stations]
    by_cases ho : o = n
    · subst ho
      rw [PerStation.get_set_self, if_pos rfl]
    · rw [PerStation.get_set_ne _ _ ho, if_neg ho]
  rw [← hmod]
  unfold State.leaveList
  dsimp only
  split
  · exact (State.newCurrent_reach _ n).stationTakes (by decide) o
  · rfl

theorem State.assign_lists (s : State) (r : TakeRef) (n o : StationId) : ((s.assign r n).stations.get o).takes =
    (s.stations.get o).takes ++ if o = n then [r] else [] := by
  by_cases ho : o = n
  · subst ho
    rw [if_pos rfl, State.assign_list]
  · obtain ⟨a, p, -, hassign⟩ := s.assign_eq r n
    rw [hassign, if_neg ho, List.append_nil, (State.raiseTake_reach (K := [.notice]) _ _ _ (by decide)).stations (by decide),
      State.modArbiter_stations, State.modStation_stations, PerStation.get_set_ne _ _ ho]
    rfl

/-! ### The matching pass -/

/-- What a matching pass may do from `s` to `t`: it takes names out of the queue, puts them at the tails of lists, and makes their
takes ASSIGNED there. -/
structure Matched (s t : State) : Prop where
  reach : Reach dispatchKinds s t
  queue : t.queue.Sublist s.queue
  lists : ∀ o, ∃ more, (t.stations.get o).takes = (s.stations.get o).takes ++ more ∧ ∀ q ∈ more, q ∈ s.queue
  takes : ∀ q, t.take? q = s.take? q ∨ q ∈ s.queue ∧ ∃ u n, s.take? q = some u ∧ t.take? q = some (Take.assignedTo n u)

theorem Matched.refl (s : State) : Matched s s :=
  ⟨.refl, List.Sublist.refl _, fun _ => ⟨[], (List.append_nil _).symm, fun _ hq => nomatch hq⟩, fun _ => .inl rfl⟩

theorem Matched.trans {s t u : State} (h : Matched s t) (h' : Matched t u) : Matched s u := by
  refine ⟨h.reach.trans h'.reach, h'.queue.trans h.queue, fun o => ?_, fun q => ?_⟩
  · obtain ⟨more, hmore, hin⟩ := h.lists o
    obtain ⟨more', hmore', hin'⟩ := h'.lists o
    refine ⟨more ++ more', by rw [hmore', hmore, List.append_assoc], fun q hq => ?_⟩
    rcases List.mem_append.mp hq with hq | hq
    · exact hin q hq
    · exact h.queue.subset (hin' q hq)
  · rcases h.takes q with hsame | ⟨hq, k, n, hk, hassigned⟩
    · rcases h'.takes q with hsame' | ⟨hq', k, n, hk, hassigned⟩
      · exact .inl (hsame'.trans hsame)
      · exact .inr ⟨h.queue.subset hq', k, n, hsame ▸ hk, hassigned⟩
    · rcases h'.takes q with hsame' | ⟨-, k', n', hk', hassigned'⟩
      · exact .inr ⟨hq, k, n, hk, hsame'.trans hassigned⟩
      · rw [hassigned] at hk'
        obtain rfl := Option.some.inj hk'
        exact .inr ⟨hq, k, n', hk, hassigned'⟩

theorem State.assign_matched {s : State} {r : TakeRef} {u : Take} (n : StationId) (hr : r ∈ s.queue) (hu : s.take? r = some u) :
    Matched s { s.assign r n with rotation := n } := by
  have hqueue : (s.assign r n).queue = s.queue.filter fun q => q ≠ r := by
    obtain ⟨a, p, -, hassign⟩ := s.assign_eq r n
    rw [hassign]
    exact (State.raiseTake_reach (K := [.notice]) _ _ _ (by decide)).queue (by decide)
  have htakes (q : TakeRef) : (s.assign r n).take? q = ((s.dequeue r).modTake r (Take.assignedTo n)).take? q := by
    obtain ⟨a, p, -, hassign⟩ := s.assign_eq r n
    refine State.take?_congr ?_ q
    rw [hassign]
    exact (State.raiseTake_reach (K := [.notice]) _ _ _ (by decide)).takes (by decide)
  refine ⟨(s.assign_reach r n).trans (.one (.rotation n) (by decide)), ?_, fun o => ?_, fun q => ?_⟩
  · show List.Sublist (s.assign r n).queue s.queue
    rw [hqueue]
    exact List.filter_sublist
  · refine ⟨if o = n then [r] else [], s.assign_lists r n o, fun q hq => ?_⟩
    split at hq
    · rw [List.mem_singleton.mp hq]
      exact hr
    · cases hq
  · show (s.assign r n).take? q = s.take? q ∨ _ ∧ ∃ u n', s.take? q = some u ∧ (s.assign r n).take? q = _
    rw [htakes]
    by_cases hq : q = r
    · subst hq
      exact .inr ⟨hr, u, n, hu, State.take?_modTake (s := s.dequeue q) hu fun _ => rfl⟩
    · exact .inl (State.take?_modTake_ne _ (fun _ => rfl) hq)

theorem State.matching_matched (s : State) (k : Nat) : Matched s (s.matching k) := by
  induction k generalizing s with
  | zero => exact .refl s
  | succ k ih =>
    unfold State.matching
    split
    · next r n hfound =>
      obtain ⟨hr, u, hu, -⟩ := State.findMatch_mem hfound
      exact (State.assign_matched n hr hu).trans (ih _)
    · exact .refl s

theorem State.matchingPass_matched (s : State) : Matched s s.matchingPass := s.matching_matched 32

/-- No station wants work. -/
def State.sated (s : State) : Prop := ∀ n, (s.stations.get n).wanting = false

/-- A matching pass without a wanting station assigns nothing. -/
theorem State.matchingPass_sated {s : State} (h : s.sated) : s.matchingPass = s := by
  have hnone : s.findMatch = none := by
    cases hfound : s.findMatch with
    | none => rfl
    | some p =>
      obtain ⟨r, n⟩ := p
      obtain ⟨-, u, -, hchosen⟩ := State.findMatch_mem hfound
      have hno : (rotationOrder s.rotation).find? (fun n => s.mayReceive u n) = none :=
        List.find?_eq_none.mpr fun n _ => by simp [State.mayReceive, h n]
      unfold State.chooseStation at hchosen
      rw [hno] at hchosen
      cases hchosen
  unfold State.matchingPass State.matching
  rw [hnone]

theorem State.passIfWanting_matched (s : State) (n : StationId) : Matched s (s.passIfWanting n) := by
  unfold State.passIfWanting
  split
  · exact s.matchingPass_matched
  · exact .refl s

end Sys2Proof.Machine
end

section
/-! SUPPORT. QUEUE_TAKE, CLEAR_HOLD, SET_CLASS and RECALL_TAKE (R119 to R121, R123). -/

namespace Sys2Proof.Machine

/-! ### Placing in the queue (R104, R105) -/

/-- The list `l` is `q` with `r` put behind references of the classes `ahead` and ahead of one of the classes `behind`, classes as
they stand in `s`. -/
def State.Places (s : State) (q l : List TakeRef) (r : TakeRef) (ahead behind : Nat → Prop) : Prop :=
  ∃ a b, q = a ++ b ∧ l = a ++ r :: b ∧ (∀ p ∈ a, ahead (s.classOf p)) ∧ ∀ p, b.head? = some p → behind (s.classOf p)

/-- A matching pass after a placing. -/
theorem State.Places.matched {s w v : State} {q : List TakeRef} {r : TakeRef} {ahead behind : Nat → Prop}
    (h : s.Places q w.queue r ahead behind) (hv : Matched w v) (hidle : s.sated → v = w) {l : List TakeRef} (hl : l = v.queue) :
    ∃ a b, q = a ++ b ∧ List.Sublist l (a ++ r :: b) ∧ (s.sated → l = a ++ r :: b) ∧ (∀ p ∈ a, ahead (s.classOf p))
      ∧ ∀ p, b.head? = some p → behind (s.classOf p) := by
  obtain ⟨a, b, hq, hw, hahead, hbehind⟩ := h
  subst hl
  exact ⟨a, b, hq, hw ▸ hv.queue, fun hs => by rw [hidle hs, hw], hahead, hbehind⟩

theorem State.classOf_of_take? {s : State} {r : TakeRef} {k : Take} (hk : s.take? r = some k) : s.classOf r = k.takeClass.code := by
  rw [State.classOf, hk]

theorem State.classOf_modTake {s : State} {r : TakeRef} {k : Take} (hk : s.take? r = some k) {f : Take → Take}
    (hf : ∀ t, (f t).ref = t.ref) (q : TakeRef) :
    (s.modTake r f).classOf q = if q = r then (f k).takeClass.code else s.classOf q := by
  by_cases hq : q = r
  · subst hq
    rw [if_pos rfl, State.classOf_of_take? (State.take?_modTake hk hf)]
  · rw [if_neg hq, State.classOf, State.take?_modTake_ne f hf hq, State.classOf]

theorem State.classOf_enqueue {s : State} {r : TakeRef} {k : Take} (hk : s.take? r = some k) (q : TakeRef) :
    (s.modTake r Take.enqueue).classOf q = s.classOf q := by
  rw [State.classOf_modTake hk (f := Take.enqueue) fun _ => rfl]
  split
  · next hq =>
    rw [hq, State.classOf_of_take? hk]
    rfl
  · rfl

theorem State.raiseTake_queue (s : State) (r : TakeRef) (e : TakeEvent) : (s.raiseTake r e).queue = s.queue :=
  (State.raiseTake_reach (K := [.notice]) _ _ _ (by decide)).queue (by decide)

theorem State.raiseTake_take? (s : State) (r : TakeRef) (e : TakeEvent) (q : TakeRef) : (s.raiseTake r e).take? q = s.take? q :=
  State.take?_congr ((State.raiseTake_reach (K := [.notice]) _ _ _ (by decide)).takes (by decide)) q

/-- A take queued at its class tail (R105). -/
theorem State.queueTail_places {s : State} {r : TakeRef} {k : Take} (hk : s.take? r = some k) :
    s.Places s.queue (s.queueTail r).queue r (fun c => c ≤ k.takeClass.code) (fun c => k.takeClass.code < c) := by
  obtain ⟨a, b, hq, hplaced, hahead, hbehind⟩ := (s.modTake r Take.enqueue).atClassTail_queue r
  have hself : (s.modTake r Take.enqueue).classOf r = k.takeClass.code :=
    (State.classOf_enqueue hk r).trans (State.classOf_of_take? hk)
  refine ⟨a, b, hq, (State.raiseTake_queue ..).trans hplaced, fun p hp => ?_, fun p hp => ?_⟩
  · rw [← State.classOf_enqueue hk p, ← hself]
    exact hahead p hp
  · rw [← State.classOf_enqueue hk p, ← hself]
    exact hbehind p hp

/-- A take queued at its class head (R105). -/
theorem State.queueHead_places {s : State} {r : TakeRef} {k : Take} (hk : s.take? r = some k) :
    s.Places s.queue (s.queueHead r).queue r (fun c => c < k.takeClass.code) (fun c => k.takeClass.code ≤ c) := by
  obtain ⟨a, b, hq, hplaced, hahead, hbehind⟩ := (s.modTake r Take.enqueue).atClassHead_queue r
  have hself : (s.modTake r Take.enqueue).classOf r = k.takeClass.code :=
    (State.classOf_enqueue hk r).trans (State.classOf_of_take? hk)
  refine ⟨a, b, hq, (State.raiseTake_queue ..).trans hplaced, fun p hp => ?_, fun p hp => ?_⟩
  · rw [← State.classOf_enqueue hk p, ← hself]
    exact hahead p hp
  · rw [← State.classOf_enqueue hk p, ← hself]
    exact hbehind p hp

theorem State.queueTail_take? {s : State} {r : TakeRef} {k : Take} (hk : s.take? r = some k) :
    (s.queueTail r).take? r = some k.enqueue :=
  (State.raiseTake_take? ..).trans (State.take?_modTake (s := s) hk fun _ => rfl)

theorem State.queueHead_take? {s : State} {r : TakeRef} {k : Take} (hk : s.take? r = some k) :
    (s.queueHead r).take? r = some k.enqueue :=
  (State.raiseTake_take? ..).trans (State.take?_modTake (s := s) hk fun _ => rfl)

theorem State.queueTail_stations (s : State) (r : TakeRef) : (s.queueTail r).stations = s.stations := State.raiseTake_stations ..

theorem State.queueHead_stations (s : State) (r : TakeRef) : (s.queueHead r).stations = s.stations := State.raiseTake_stations ..

/-! ### What stands after the pass -/

theorem State.sated_congr {s t : State} (h : t.stations = s.stations) : t.sated ↔ s.sated := by
  rw [State.sated, State.sated, h]

/-- A record after a matching pass: as it was, or ASSIGNED. -/
theorem Matched.record {w v : State} (h : Matched w v) {r : TakeRef} {k : Take} (hk : w.take? r = some k) :
    ∃ u, v.take? r = some u ∧ u.takeClass = k.takeClass ∧ u.returns = k.returns ∧ u.excluded = k.excluded
      ∧ (u.dispatch = k.dispatch ∨ u.dispatch = .assigned) := by
  rcases h.takes r with hsame | ⟨-, u, n, hu, hassigned⟩
  · exact ⟨k, hsame.trans hk, rfl, rfl, rfl, .inl rfl⟩
  · obtain rfl := Option.some.inj (hk.symm.trans hu)
    exact ⟨_, hassigned, rfl, rfl, rfl, .inr rfl⟩

/-- The standing a dispatch request replies. -/
theorem State.dispatchBody_of_take? {s : State} {r : TakeRef} {u : Take} (hu : s.take? r = some u) :
    s.dispatchBody r = u8 u.dispatch.code ++ opt8 (u.station.map (·.val)) ++ num16 (positionIn s.queue r) := by
  unfold State.dispatchBody
  rw [hu]
  rfl

theorem TakeClass.ofCode_code (n : Nat) : (TakeClass.ofCode n).code = min 2 n := by
  match n with
  | 0 => rfl
  | 1 => rfl
  | n + 2 =>
    rw [Nat.min_eq_left (Nat.le_add_left 2 n)]
    rfl

theorem TakeClass.ofCode_of_code (k : TakeClass) : TakeClass.ofCode k.code = k := by cases k <;> rfl

/-! ### The rules -/

theorem State.queue_of_offLine {s t : State} (h : t.offLine = s.offLine) : t.queue = s.queue := (congrArg State.queue h :)

theorem State.take?_of_offLine {s t : State} (h : t.offLine = s.offLine) (r : TakeRef) : t.take? r = s.take? r :=
  State.take?_congr (congrArg State.takes h :) r

/-- What stands once the pass has run on `w` and the lines have been served. -/
theorem State.passed {s w t : State} {r : TakeRef} {k : Take} (hw : w.take? r = some k) (hstations : w.stations = s.stations)
    (hleft : t.offLine = w.matchingPass.offLine) : ∃ u, t.take? r = some u
      ∧ w.matchingPass.dispatchBody r = u8 u.dispatch.code ++ opt8 (u.station.map (·.val)) ++ num16 (positionIn t.queue r)
      ∧ (s.sated → u = k) ∧ u.takeClass = k.takeClass ∧ u.returns = k.returns ∧ u.excluded = k.excluded
      ∧ (u.dispatch = k.dispatch ∨ u.dispatch = .assigned) := by
  obtain ⟨u, hu, hrest⟩ := w.matchingPass_matched.record hw
  refine ⟨u, (State.take?_of_offLine hleft r).trans hu, ?_, fun hs => ?_, hrest⟩
  · rw [State.dispatchBody_of_take? hu, show w.matchingPass.queue = t.queue from (State.queue_of_offLine hleft).symm]
  · rw [State.matchingPass_sated ((State.sated_congr hstations).mpr hs), hw] at hu
    exact (Option.some.inj hu).symm

/-- The station lists once the pass has run. -/
theorem State.passed_lists {s w t : State} (hstations : w.stations = s.stations) (hleft : t.offLine = w.matchingPass.offLine)
    (o : StationId) : ∃ more, (t.stations.get o).takes = (s.stations.get o).takes ++ more := by
  obtain ⟨more, hmore, -⟩ := w.matchingPass_matched.lists o
  exact ⟨more, by rw [State.station_takes_congr hleft, hmore, hstations]⟩

/-- The part outside dispatch and the stations. -/
def State.outside (s : State) :=
  (s.channels, s.sessions, s.store, s.marks, s.ranges, s.readback)

theorem Reach.outside {s t : State} (h : Reach (.takeClass :: .takeReturn :: dispatchKinds) s t) : t.outside = s.outside := by
  unfold State.outside
  rw [h.channels (by decide), h.sessions (by decide), h.store (by decide), h.marks (by decide), h.ranges (by decide),
    h.readback (by decide)]

theorem State.outside_iff {s t : State} : t.outside = s.outside ↔ t.channels = s.channels ∧ t.sessions = s.sessions
    ∧ t.store = s.store ∧ t.marks = s.marks ∧ t.ranges = s.ranges ∧ t.readback = s.readback := by
  simp [State.outside]

/-- What a rule leaves outside dispatch once the lines have been served. -/
theorem State.outside_left {s u t : State} (hu : u.outside = s.outside) (hleft : t.offLine = u.offLine) :
    t.channels = s.channels ∧ t.sessions = s.sessions ∧ t.store = s.store ∧ t.marks = s.marks ∧ t.ranges = s.ranges
      ∧ t.readback = s.readback :=
  State.outside_iff.mp ((congrArg State.outside hleft :).trans hu)

/-- A dispatch request for a take in the table. -/
theorem State.onTake_answers {s : State} {i : Instr} {r : Request} (h : Taken i s) (hr : i.request = some r) {n m : Nat}
    {f : State → Take → State × Answer} (hexec : exec i s = s.request i fun s => s.onTake n m (f s)) {k : Take}
    (hk : s.take? ⟨n, m⟩ = some k) {u : State} {a : Answer} (hf : f (s.taking r) k = (u, a))
    (hu : u.link.inProgress = (s.taking r).link.inProgress) :
    ∃ t, exec i s = .next t ∧ Answered i s t a ∧ t.offLine = u.offLine := by
  refine State.request_answers h hr hexec ?_ hu
  rw [State.onTake, show (s.taking r).take? ⟨n, m⟩ = some k from hk]
  exact hf

/-- A dispatch request for a take in the table that is refused. -/
theorem State.onTake_keeps {s : State} {i : Instr} {r : Request} (h : Taken i s) (hr : i.request = some r) {n m : Nat}
    {f : State → Take → State × Answer} (hexec : exec i s = s.request i fun s => s.onTake n m (f s)) {k : Take}
    (hk : s.take? ⟨n, m⟩ = some k) {a : Answer} (hf : f (s.taking r) k = (s.taking r, a)) : Performs i s a s := by
  obtain ⟨t, ht, hanswered, hleft⟩ := State.onTake_answers h hr hexec hk hf rfl
  exact ⟨t, ht, hanswered, hleft⟩

/-- A dispatch request for a take the table does not hold. -/
theorem State.onTake_unknown {s : State} {i : Instr} {r : Request} (h : Taken i s) (hr : i.request = some r) {n m : Nat}
    {f : State → Take → State × Answer} (hexec : exec i s = s.request i fun s => s.onTake n m (f s))
    (hnone : s.take? ⟨n, m⟩ = none) : Performs i s ⟨.noSuch, []⟩ s := by
  refine State.request_keeps h hr hexec ?_
  rw [State.onTake, show (s.taking r).take? ⟨n, m⟩ = none from hnone]
  rfl

/-- What a class change alone does to the queue. -/
theorem State.reclassed_places {s : State} {t : Take} (ht : s.take? t.ref = some t) (k : TakeClass) (hqueued : t.dispatch = .queued) :
    s.Places (s.queue.filter fun q => q ≠ t.ref) (s.reclassed t k).queue t.ref (fun c => c ≤ k.code) (fun c => k.code < c) := by
  have hclass (q : TakeRef) : ((s.modTake t.ref fun t => { t with takeClass := k }).dequeue t.ref).classOf q =
      if q = t.ref then k.code else s.classOf q :=
    State.classOf_modTake (f := fun t => { t with takeClass := k }) ht (fun _ => rfl) q
  obtain ⟨a, b, hq, hplaced, hahead, hbehind⟩ :=
    ((s.modTake t.ref fun t => { t with takeClass := k }).dequeue t.ref).atClassTail_queue t.ref
  have hne {p : TakeRef} (hp : p ∈ a ++ b) : p ≠ t.ref := by
    rw [← hq] at hp
    simpa using (List.mem_filter.mp hp).2
  refine ⟨a, b, hq, by rw [State.reclassed, if_pos hqueued]; exact hplaced, fun p hp => ?_, fun p hp => ?_⟩
  · have hle := hahead p hp
    rwa [hclass, hclass, if_pos rfl, if_neg (hne (List.mem_append_left b hp))] at hle
  · have hlt := hbehind p hp
    rwa [hclass, hclass, if_pos rfl, if_neg (hne (List.mem_append_right a (List.mem_of_mem_head? hp)))] at hlt

theorem State.reclassed_take? {s : State} {t : Take} (ht : s.take? t.ref = some t) (k : TakeClass) :
    (s.reclassed t k).take? t.ref = some { t with takeClass := k } := by
  unfold State.reclassed
  split
  · exact State.take?_modTake (s := s) ht fun _ => rfl
  · exact State.take?_modTake (s := s) ht fun _ => rfl

theorem State.reclassed_queue (s : State) {t : Take} (k : TakeClass) (h : t.dispatch ≠ .queued) : (s.reclassed t k).queue = s.queue := by
  rw [State.reclassed, if_neg h]
  rfl

/-- A take given another class. -/
theorem State.setClass_ne {s : State} {t : Take} {k : TakeClass} (h : k ≠ t.takeClass) :
    s.setClass t k = ((s.reclassed t k).raiseTake t.ref .takeClass).matchingPass := by
  rw [State.setClass, if_neg h]
  rfl

/-- A take withdrawn and UNQUEUED, with its notice. -/
def State.recalled (s : State) (t : Take) : State :=
  ((s.withdraw t).modTake t.ref fun t => { t with dispatch := .unqueued, station := none }).raiseTake t.ref .dispatch

theorem State.recalled_take? {s : State} {t : Take} (ht : s.take? t.ref = some t) :
    (s.recalled t).take? t.ref = some { t with dispatch := .unqueued, station := none } := by
  have htake : (s.withdraw t).take? t.ref = some t := (State.take?_congr ((s.withdraw_reach t).takes (by decide)) _).trans ht
  exact (State.raiseTake_take? ..).trans (State.take?_modTake htake fun _ => rfl)

/-- A recalled take stands in the queue and in the lists no more. -/
theorem State.recalled_board {s : State} (hs : s.DispatchInv) {t : Take} (ht : s.take? t.ref = some t) :
    (s.recalled t).queue = (s.queue.filter fun q => q ≠ t.ref)
      ∧ ∀ o, ((s.recalled t).stations.get o).takes = (s.stations.get o).takes.erase t.ref := by
  have hboard : (s.withdraw t).board = s.board.without t.ref := State.withdraw_board (State.dispatchInv_iff.mp hs).2 ht
  refine ⟨(State.raiseTake_queue ..).trans (congrArg Board.queue hboard), fun o => ?_⟩
  rw [State.recalled, State.raiseTake_stations]
  exact congrFun (congrArg Board.lists hboard) o

theorem State.recalled_reach (s : State) (t : Take) : Reach dispatchKinds s (s.recalled t) :=
  (((s.withdraw_reach t).mono (by decide)).trans (.one (.takeDispatch _ _ (by exact fun _ => rfl)) (by decide))).trans
    (State.raiseTake_reach (hK := by decide) ..)

theorem State.passAfter_matched (s : State) (t : Take) : Matched s (s.passAfter t) := by
  unfold State.passAfter
  split
  · exact s.passIfWanting_matched _
  · exact s.passIfWanting_matched _
  · exact .refl s

/-- No pass follows for a take that no station held. -/
theorem State.passAfter_of_none (s : State) {t : Take} (h : t.station = none) : s.passAfter t = s := by
  unfold State.passAfter
  rw [h]
  cases t.dispatch <;> rfl

theorem Matched.keeps_take? {s t : State} (h : Matched s t) {r : TakeRef} (hr : r ∉ s.queue) : t.take? r = s.take? r :=
  (h.takes r).resolve_right fun hin => hr hin.1

theorem Matched.keeps_out {s t : State} (h : Matched s t) {r : TakeRef} (hr : r ∉ s.queue) {o : StationId}
    (hlist : r ∉ (s.stations.get o).takes) : r ∉ (t.stations.get o).takes := by
  obtain ⟨more, hmore, hin⟩ := h.lists o
  rw [hmore]
  exact fun hmem => (List.mem_append.mp hmem).elim hlist fun h => hr (hin r h)

/-- Where no take of the lists is, by the dispatch invariant: in the lists of the stations its record does not name. -/
theorem State.DispatchInv.not_listed {s : State} (hs : s.DispatchInv) {r : TakeRef} {k : Take} (hk : s.take? r = some k)
    {o : StationId} (ho : k.station ≠ some o) : r ∉ (s.stations.get o).takes := by
  have hboard := (State.dispatchInv_iff.mp hs).2
  obtain ⟨-, -, -, -, hstation⟩ := id hboard
  cases hst : k.station with
  | none => exact hboard.not_listed (State.board_look hk) (fun hin => (hstation r _ (State.board_look hk)).mp hin hst) o
  | some st => exact hboard.not_listed_ne (State.board_look hk) hst fun he => ho (he ▸ hst)

/-- Settles O38: the placing and the pass after it are taken apart; the dispatch invariant says where RECALL_TAKE finds the take. -/
theorem dispatchRequestsPlaceTheTake : Obligations.DispatchRequestsPlaceTheTake := by
  intro s tag n m r frame idle standing lists
  refine ⟨fun hnone i code hi h => ?_, fun k hk => ?_⟩
  · rcases hi with rfl | rfl | rfl | rfl
    all_goals exact State.onTake_unknown h rfl rfl hnone
  intro placed queued
  have href : k.ref = r := State.ref_of_take? hk
  refine ⟨fun h => ⟨fun hd => ?_, fun hu ht => ?_⟩, fun h => ⟨fun hd => ?_, fun hd => ?_⟩,
    fun code h => ?_, fun h => ⟨fun hd => ?_, fun hinv hd => ?_⟩⟩
  · generalize hq : (⟨0x28, tag, u16 n ++ u16 m⟩ : Request) = q
    have hreach := ((s.taking q).queueTail_reach r).trans (State.matchingPass_matched _).reach
    obtain ⟨t, hexec, hanswered, hleft⟩ := State.onTake_answers (r := q) (u := ((s.taking q).queueTail r).matchingPass)
      (a := ⟨.ok, ((s.taking q).queueTail r).matchingPass.dispatchBody r⟩) h (hq ▸ rfl) rfl hk
      (by rw [href]; rcases hd with hd | hd <;> rw [hd] <;> rfl) (hreach.inProgress (by decide) (by decide))
    obtain ⟨u, hu, hbody, hsame, hclass, hreturns, hexcluded, hdispatch⟩ :=
      State.passed (s := s) (State.queueTail_take? (s := s.taking q) hk) (State.queueTail_stations ..) hleft
    refine ⟨t, hexec, ⟨u, hu, hdispatch, hclass, hreturns, hexcluded, fun hs => by rw [hsame hs]; exact ⟨rfl, rfl, rfl⟩, ?_⟩,
      State.outside_left (hreach.mono (by decide)).outside hleft, State.passed_lists (State.queueTail_stations (s.taking q) r) hleft, ?_⟩
    · exact (congrArg (fun b => Answered _ s t ⟨.ok, b⟩) hbody).mp hanswered
    · exact (State.queueTail_places (s := s.taking q) hk).matched (State.matchingPass_matched _)
        (fun hs => State.matchingPass_sated ((State.sated_congr (State.queueTail_stations ..)).mpr hs))
        (State.queue_of_offLine hleft)
  · refine State.onTake_keeps h rfl rfl hk ?_
    cases hd : k.dispatch with
    | unqueued => exact absurd hd hu
    | typed => exact absurd hd ht
    | _ => rfl
  · generalize hq : (⟨0x2C, tag, u16 n ++ u16 m⟩ : Request) = q
    have hclean : ((s.taking q).modTake r fun t => { t with returns := 0 }).take? r = some { k with returns := 0 } :=
      State.take?_modTake (s := s.taking q) hk fun _ => rfl
    have hpass := ((((s.taking q).modTake r fun t => { t with returns := 0 }).queueHead_reach r).trans
      (State.matchingPass_matched _).reach).mono (L := .takeReturn :: dispatchKinds) (by decide)
    have hreach : Reach (.takeReturn :: dispatchKinds) (s.taking q) ((s.taking q).clearHold r) :=
      (Reach.one (.takeReturn r (fun t => { t with returns := 0 }) fun _ => rfl) (by decide)).trans hpass
    obtain ⟨t, hexec, hanswered, hleft⟩ := State.onTake_answers (r := q) (u := (s.taking q).clearHold r)
      (a := ⟨.ok, ((s.taking q).clearHold r).dispatchBody r⟩) h (hq ▸ rfl) rfl hk
      (by rw [href]; exact if_pos hd) (hreach.inProgress (by decide) (by decide))
    obtain ⟨u, hu, hbody, hsame, hclass, hreturns, hexcluded, hdispatch⟩ :=
      State.passed (s := s) (State.queueHead_take? hclean) (State.queueHead_stations ..) hleft
    refine ⟨t, hexec, ⟨u, hu, hdispatch, hclass, hreturns, hexcluded, fun hs => by rw [hsame hs]; exact ⟨rfl, rfl, rfl⟩, ?_⟩,
      State.outside_left (hreach.mono (by decide)).outside hleft, State.passed_lists (State.queueHead_stations ((s.taking q).modTake r _) r) hleft, ?_⟩
    · exact (congrArg (fun b => Answered _ s t ⟨.ok, b⟩) hbody).mp hanswered
    · obtain ⟨a, b, hsplit, hplaced, hahead, hbehind⟩ := State.queueHead_places hclean
      have hclasses (p : TakeRef) : ((s.taking q).modTake r fun t => { t with returns := 0 }).classOf p = s.classOf p := by
        rw [State.classOf_modTake (s := s.taking q) (f := fun t => { t with returns := 0 }) hk fun _ => rfl]
        split
        · next hp =>
          rw [hp, State.classOf_of_take? hk]
        · rfl
      have hplaces : s.Places s.queue (((s.taking q).modTake r fun t => { t with returns := 0 }).queueHead r).queue r
          (fun c => c < k.takeClass.code) (fun c => k.takeClass.code ≤ c) :=
        ⟨a, b, hsplit, hplaced, fun p hp => hclasses p ▸ hahead p hp, fun p hp => hclasses p ▸ hbehind p hp⟩
      exact hplaces.matched (State.matchingPass_matched _)
        (fun hs => State.matchingPass_sated ((State.sated_congr (State.queueHead_stations ..)).mpr hs))
        (State.queue_of_offLine hleft)
  · exact State.onTake_keeps h rfl rfl hk (if_neg hd)
  · intro urgency
    generalize hq : (⟨0x29, tag, u16 n ++ u16 m ++ u8 code⟩ : Request) = q
    have hcode : (TakeClass.ofCode code).code = urgency := TakeClass.ofCode_code code
    refine ⟨fun hsame => ?_, fun hne => ?_⟩
    · have hclass : TakeClass.ofCode code = k.takeClass := by
        rw [← TakeClass.ofCode_of_code (TakeClass.ofCode code), hcode, hsame, TakeClass.ofCode_of_code]
      obtain ⟨t, hexec, -, hleft⟩ := State.onTake_answers (r := q) (u := s.taking q) h (hq ▸ rfl) rfl hk
        (by dsimp only; rw [hclass, State.setClass, if_pos rfl]) rfl
      exact ⟨t, hexec, hleft⟩
    · have hclass : TakeClass.ofCode code ≠ k.takeClass := fun he => hne (he ▸ hcode.symm)
      have hself : (s.taking q).take? k.ref = some k := href ▸ hk
      have hraised : ((((s.taking q).reclassed k (.ofCode code)).raiseTake k.ref .takeClass).take? r) =
          some { k with takeClass := .ofCode code } := by
        rw [State.raiseTake_take?, ← href]
        exact State.reclassed_take? hself _
      have hstations : (((s.taking q).reclassed k (.ofCode code)).raiseTake k.ref .takeClass).stations = s.stations :=
        (State.raiseTake_stations ..).trans ((State.reclassed_reach ..).stations (by decide))
      have hreach : Reach (.takeClass :: dispatchKinds) (s.taking q) ((s.taking q).setClass k (.ofCode code)) := by
        rw [State.setClass_ne hclass]
        exact (((State.reclassed_reach ..).mono (by decide)).trans (State.raiseTake_reach (hK := by decide) ..)).trans
          ((State.matchingPass_matched _).reach.mono (by decide))
      obtain ⟨t, hexec, hanswered, hleft⟩ := State.onTake_answers (r := q) (u := (s.taking q).setClass k (.ofCode code))
        (a := ⟨adjusted (decide (2 < code)), u8 (TakeClass.ofCode code).code
          ++ ((s.taking q).setClass k (.ofCode code)).dispatchBody r⟩) h (hq ▸ rfl) rfl hk
        (by rw [href]) (hreach.inProgress (by decide) (by decide))
      have hpass := State.setClass_ne (s := s.taking q) hclass
      rw [hpass] at hleft hanswered
      obtain ⟨u, hu, hbody, hsame, hclass, hreturns, hexcluded, -⟩ := State.passed hraised hstations hleft
      have hqueue := State.queue_of_offLine hleft
      have hmatched := (((s.taking q).reclassed k (.ofCode code)).raiseTake k.ref .takeClass).matchingPass_matched
      refine ⟨t, hexec, State.outside_left (hpass ▸ (hreach.mono (by decide)).outside) hleft, State.passed_lists hstations hleft,
        ⟨u, hu, ?_, hreturns, hexcluded, fun hs => by rw [hsame hs], ?_⟩, fun hd => ?_, fun hd => ⟨?_, fun hs => ?_⟩⟩
      · rw [hclass]
        exact hcode
      · have hstatus : adjusted (decide (2 < code)) = if 2 < code then .adjusted else .ok := by simp [adjusted]
        rw [← hcode, ← hstatus]
        exact (congrArg (fun b => Answered _ s t ⟨adjusted _, u8 _ ++ b⟩) hbody).mp hanswered
      · have hplaces : s.Places (s.queue.filter fun q => q ≠ r)
            (((s.taking q).reclassed k (.ofCode code)).raiseTake k.ref .takeClass).queue r (fun c => c ≤ (TakeClass.ofCode code).code)
            (fun c => (TakeClass.ofCode code).code < c) := by
          rw [State.raiseTake_queue]
          have hown := State.reclassed_places hself (.ofCode code) hd
          rw [href] at hown
          exact hown
        rw [← hcode]
        exact hplaces.matched hmatched (fun hs => State.matchingPass_sated ((State.sated_congr hstations).mpr hs)) hqueue
      · have hsub := hmatched.queue
        rwa [State.raiseTake_queue, State.reclassed_queue _ _ hd, ← hqueue] at hsub
      · rw [hqueue, State.matchingPass_sated ((State.sated_congr hstations).mpr hs)]
        exact (State.raiseTake_queue ..).trans (State.reclassed_queue _ _ hd)
  · refine State.onTake_keeps h rfl rfl hk ?_
    rw [hd]
    rfl
  · generalize hq : (⟨0x2A, tag, u16 n ++ u16 m⟩ : Request) = q
    have hself : (s.taking q).take? k.ref = some k := href ▸ hk
    have hout : ((s.taking q).recalled k).queue = (s.queue.filter fun p => p ≠ r)
        ∧ ∀ o, (((s.taking q).recalled k).stations.get o).takes = (s.stations.get o).takes.erase r :=
      href ▸ State.recalled_board (s := s.taking q) hinv hself
    obtain ⟨hqueue, hlists⟩ := hout
    have hmatched := ((s.taking q).recalled k).passAfter_matched k
    have hreach := ((s.taking q).recalled_reach k).trans hmatched.reach
    have hrq : r ∉ ((s.taking q).recalled k).queue := by
      rw [hqueue]
      exact fun hmem => absurd (List.mem_filter.mp hmem).2 (by simp)
    obtain ⟨t, hexec, hanswered, hleft⟩ := State.onTake_answers (r := q) (u := (s.taking q).recall k)
      (a := ⟨.ok, u8 k.dispatch.code ++ opt8 (k.station.map (·.val))⟩) h (hq ▸ rfl) rfl hk
      (by cases hc : k.dispatch with
        | unqueued => exact absurd hc hd
        | _ => rfl) (hreach.inProgress (by decide) (by decide))
    have hleft : t.offLine = (((s.taking q).recalled k).passAfter k).offLine := hleft
    have htqueue := State.queue_of_offLine hleft
    refine ⟨t, hexec, hanswered, ?_, ?_, State.outside_left (hreach.mono (by decide)).outside hleft, fun hnone => ⟨?_, fun o => ?_⟩,
      fun st hst => ⟨?_, fun o => ?_⟩⟩
    · rw [State.take?_of_offLine hleft r, hmatched.keeps_take? hrq, ← href]
      exact State.recalled_take? hself
    · rw [htqueue]
      exact fun hmem => hrq (hmatched.queue.subset hmem)
    · rw [htqueue, State.passAfter_of_none _ hnone]
      exact hqueue
    · rw [State.station_takes_congr hleft, State.passAfter_of_none _ hnone, hlists,
        List.erase_of_not_mem (hinv.not_listed hk (by rw [hnone]; nofun))]
    · rw [htqueue]
      exact hmatched.queue.trans (hqueue ▸ List.filter_sublist)
    · obtain ⟨more, hmore, hin⟩ := hmatched.lists o
      have hkept : (s.stations.get o).takes.erase r = if o = st then (s.stations.get o).takes.erase r else (s.stations.get o).takes := by
        by_cases ho : o = st
        · rw [if_pos ho]
        · rw [if_neg ho, List.erase_of_not_mem (hinv.not_listed hk fun he => ho (Option.some.inj (he.symm.trans hst)))]
      obtain ⟨-, -, hlisted, -⟩ := id hinv
      have herased : r ∉ (s.stations.get o).takes.erase r := (hlisted o).1.not_mem_erase
      refine ⟨more, ?_, ?_, fun p hp => ?_⟩
      · rw [State.station_takes_congr hleft, hmore, hlists]
        exact congrArg (· ++ more) hkept
      · rw [State.station_takes_congr hleft]
        exact hmatched.keeps_out hrq (hlists o ▸ herased)
      · have hpq := hin p hp
        rw [hqueue] at hpq
        exact (List.mem_filter.mp hpq).1

end Sys2Proof.Machine
end

section
/-! SUPPORT. The requests of the mark list and of the range table (R78, R81, R95, R97 to R99). -/

namespace Sys2Proof.Machine

/-! ### The notices that wait -/

/-- What a request command leaves and answers, with the notices that wait, from what its rule does. -/
theorem State.request_answersWith {s : State} {i : Instr} {r : Request} (h : Taken i s) (hr : i.request = some r)
    {f : State → State × Answer} (hexec : exec i s = s.request i f) {u : State} {a : Answer} (hf : f (s.taking r) = (u, a))
    (hu : u.link.inProgress = (s.taking r).link.inProgress) :
    ∃ t, exec i s = .next t ∧ Answered i s t a ∧ t.offLine = u.offLine ∧ t.link.notices = u.link.notices := by
  obtain ⟨t, ht, hanswered, hleft⟩ := State.request_answers h hr hexec hf hu
  have hw : s.withRequest (s.requestOr r) = s.taking r := State.withRequest_eq h.1 r
  exact ⟨t, ht, hanswered, hleft, by rw [State.request_notices h hr (hexec.symm.trans ht), hw, hf]⟩

/-! ### Marks -/

theorem clampFrame_eq (x : Session) (first f : Nat) : clampFrame x first f =
    max (max first (x.trimPoint.getD 0)) (min (max (max first (x.trimPoint.getD 0))
      (x.arrivedHead.getD (max first (x.trimPoint.getD 0)))) f) := clamp_eq (Nat.le_max_left ..) f

/-- A mark that no mark of the list is identical to, with a number and a record free, is inserted under the next number
(R74, R77). -/
theorem State.placeMark_inserts {s : State} {m : Mark} {x : Session} (hx : s.session? m.session = some x)
    (hnew : ∀ e ∈ s.marks, e.identical m = false) (hissued : x.markIssued < 65535) (hroom : s.marks.length < m.source.room) :
    s.placeMark m = ((s.modSession m.session fun x' => { x' with markIssued := x.markIssued + 1 }).setMarks
      (insertBy Mark.before { m with number := x.markIssued + 1 } s.marks), .inserted (x.markIssued + 1)) := by
  have hnone : (s.marks.find? fun e => e.identical m) = none := List.find?_eq_none.mpr fun e he => by simp [hnew e he]
  unfold State.placeMark
  rw [hnone]
  dsimp only
  rw [hx]
  dsimp only
  rw [if_neg (Nat.not_le.mpr hissued), if_neg (Nat.not_le.mpr hroom)]

theorem State.addHostMark_inserted {s t : State} {m : Mark} {k : Nat} (h : s.placeMark m = (t, .inserted k)) (x : Session)
    (r : AddMarkReq) : ∃ a, s.addHostMark x r m = (t.hostSpeaks x m, a) := by
  unfold State.addHostMark
  rw [h]
  exact ⟨_, rfl⟩

/-- A host mark changes the keypad's speaker alone, and where it is a SPEAKER mark of the session recording on its channel. -/
theorem State.hostSpeaks_eq (s : State) (x : Session) (m : Mark) : s.hostSpeaks x m =
    { s with channels :=
        if m.kind = .speaker ∧ x.phase = .recording ∧ (s.channels.get x.channel).session = some x.number then
          s.channels.set x.channel { s.channels.get x.channel with
            keypad := { (s.channels.get x.channel).keypad with speaker := m.speaker.getD 1 } }
        else s.channels } := by
  unfold State.hostSpeaks
  split <;> rfl

/-- Settles O40: `State.placeMark_inserts` and `State.hostSpeaks_eq` for the addition, `State.removeMark` for the deletion. -/
theorem hostMarksAreAddedAndDeleted : Obligations.HostMarksAreAddedAndDeleted := by
  refine ⟨?_, fun s tag n k h => ⟨fun hnone => ?_, fun x m hx hm => ⟨fun hd => ?_, fun hd => ?_⟩⟩⟩
  · intro s tag r x first k h hx hfirst hk low high mark hnew hissued hroom
    have hnumber : x.number = r.session := State.number_of_session? hx
    generalize hq : (⟨0x30, tag, encodeAddMark r⟩ : Request) = q
    have hmark : ({ hostMark r x first k with number := x.markIssued + 1 } : Mark) = mark := by
      simp only [hostMark, plainMark, mark, low, high, clampFrame_eq, hostSpeaker, clamp_eq (show 1 ≤ 31 by omega), hnumber]
    have hplaced := State.placeMark_inserts (s := s.taking q) (m := hostMark r x first k) (x := x)
      (by rw [show (hostMark r x first k).session = r.session from hnumber]; exact hx)
      (fun e he => by rw [← hnew e he, ← hmark]; rfl) hissued hroom
    obtain ⟨a, hadded⟩ := State.addHostMark_inserted hplaced x r
    obtain ⟨t, ht, -, hleft⟩ := State.request_answers (r := q) (u := State.hostSpeaks _ x (hostMark r x first k)) (a := a) h (hq ▸ rfl) rfl
      (by
        rw [show (s.taking q).session? r.session = some x from hx]
        dsimp only
        rw [hfirst]
        dsimp only
        rw [hk]
        exact hadded)
      (by rw [State.hostSpeaks_eq]; rfl)
    rw [State.hostSpeaks_eq, hmark, show (hostMark r x first k).session = r.session from hnumber] at hleft
    have hmarks : t.marks = insertBy Mark.before mark s.marks := (congrArg State.marks hleft :)
    refine ⟨t, ht, ?_, (congrArg State.sessions hleft :), ((congrArg State.channels hleft :) : t.channels = _).trans ?_,
      (congrArg (fun u : State => { u with marks := s.marks, sessions := s.sessions, channels := s.channels }) hleft :)⟩
    · rw [hmarks]
      exact insertBy_split Mark.before mark s.marks
    · rw [hnumber]
      by_cases hspeaker : k = .speaker
      · subst hspeaker
        have hspoken : (hostMark r x first .speaker).speaker.getD 1 = max 1 (min 31 (r.speaker.getD 1)) := clamp_eq (by omega) _
        rw [hspoken]
        rfl
      · exact (if_neg fun hand => hspeaker hand.1).trans (if_neg fun hand => hspeaker hand.1).symm
  · refine State.request_keeps h rfl rfl ?_
    rcases hnone with hnone | hnone
    · rw [show (s.taking _).session? n = none from hnone]
      rfl
    · rw [show (s.taking _).mark? n k = none from hnone]
      cases (s.taking _).session? n <;> rfl
  · refine State.request_keeps h rfl rfl ?_
    rw [show (s.taking _).session? n = some x from hx, show (s.taking _).mark? n k = some m from hm]
    exact if_pos hd
  · intro left
    generalize hq : (⟨0x31, tag, u16 n ++ u16 k⟩ : Request) = q
    have hleftover : (s.marks.filter fun m => decide (m.session ≠ n) || decide (m.number ≠ k)) = left :=
      List.filter_congr fun m _ => (Bool.decide_or ..).symm
    obtain ⟨t, ht, hanswered, hleft, hnotices⟩ := State.request_answersWith (r := q) (u := (s.taking q).setMarks left)
      (a := ⟨.ok, u16 n ++ u16 k ++ u16 (left.filter fun e => e.session = n).length⟩) h (hq ▸ rfl) rfl
      (by
        rw [show (s.taking q).session? n = some x from hx, show (s.taking q).mark? n k = some m from hm]
        dsimp only
        rw [if_neg hd, ← hleftover]
        rfl) rfl
    exact ⟨t, ht, hanswered, hleft, hnotices⟩

/-! ### Ranges -/

theorem State.addHostRange_inserts {s : State} {x : Session} {r : OpenRangeReq} {g : Range} (hroom : s.ranges.length < 64)
    (hopen : g.stop = none → s.openRanges x.number < 4) (hissued : x.rangeIssued < 65535) :
    s.addHostRange x r g = ((s.insertRange x g).1, ⟨adjusted (openRangeChanges r g),
      rangeRecord (s.insertRange x g).2 ++ u8 ((s.insertRange x g).1.openRanges x.number)⟩) := by
  have hfree : s.rangeLimit? x g.stop.isNone = none := by
    unfold State.rangeLimit?
    rw [if_neg (show ¬ Config.rangeRecords ≤ _ from Nat.not_le.mpr hroom), if_neg, if_neg (Nat.not_le.mpr hissued)]
    intro hand
    obtain ⟨hnone, hfull⟩ := (Bool.and_eq_true _ _).mp hand
    exact absurd (of_decide_eq_true hfull) (Nat.not_le.mpr (hopen (Option.isNone_iff_eq_none.mp hnone)))
  unfold State.addHostRange
  rw [hfree]

theorem State.openRanges_congr {s t : State} (h : t.ranges = s.ranges) (n : Nat) : t.openRanges n = s.openRanges n := by
  rw [State.openRanges, State.openRanges, State.rangesOf, State.rangesOf, h]

theorem adjusted_cases (b : Bool) : adjusted b = .ok ∨ adjusted b = .adjusted := by
  cases b
  · exact .inl rfl
  · exact .inr rfl

/-- Settles O41. -/
theorem openRangeInserts : Obligations.OpenRangeInserts := by
  intro s tag r x first h hx hfirst hphase hroom hopen hissued low start play range
  have hnumber : x.number = r.session := State.number_of_session? hx
  generalize hq : (⟨0x38, tag, encodeOpenRange r⟩ : Request) = q
  have hstart : clampFrame x first r.start = start := clampFrame_eq x first r.start
  have hplay : PlayPermission.ofCode r.play = play := by
    simp only [play]
    generalize r.play = code
    match code with
    | 0 => rfl
    | 1 => rfl
    | _ + 2 => rfl
  have hrange : ({ hostRange r x first with number := x.rangeIssued + 1 } : Range) = range := by
    simp only [hostRange, hstart, spanHigh, clamp_eq (Nat.le_max_left ..), storedReadback, hplay, hnumber, range]
  have hrule := State.addHostRange_inserts (s := s.taking q) (x := x) (r := r) (g := hostRange r x first) hroom
    (fun hnone => hnumber ▸ hopen (Option.map_eq_none_iff.mp hnone)) hissued
  obtain ⟨t, ht, hanswered, hleft⟩ := State.request_answers (r := q) (u := ((s.taking q).insertRange x (hostRange r x first)).1)
    (a := ⟨adjusted (openRangeChanges r (hostRange r x first)), rangeRecord range
      ++ u8 (((s.taking q).insertRange x (hostRange r x first)).1.openRanges x.number)⟩) h (hq ▸ rfl) rfl
    (by
      rw [show (s.taking q).session? r.session = some x from hx]
      dsimp only
      rw [hfirst]
      dsimp only
      rw [if_neg fun hand => hand.2 (hphase (Option.isNone_iff_eq_none.mp hand.1)), hrule, ← hrange]
      rfl) rfl
  have hranges : t.ranges = insertBy Range.before range s.ranges := by
    rw [← hrange]
    exact (congrArg State.ranges hleft :)
  refine ⟨t, ht, ?_, ⟨_, adjusted_cases (openRangeChanges r (hostRange r x first)), ?_⟩, ?_⟩
  · rw [hranges]
    exact insertBy_split Range.before range s.ranges
  · have hcount : ((s.taking q).insertRange x (hostRange r x first)).1.openRanges x.number = t.openRanges r.session := by
      rw [hnumber]
      exact State.openRanges_congr (congrArg State.ranges hleft.symm :) _
    rw [← hcount]
    exact hanswered
  · rw [hleft, ← hnumber, hranges, ← hrange]
    rfl

/-- A session's keypad toggle, turned OFF where it names range `k`. -/
theorem State.keepToggle_ne {s : State} {n k : Nat} {x : Session} (hx : s.session? n = some x) :
    s.keepToggle n (fun j => j ≠ k) =
    { s with channels :=
      if (s.channels.get x.channel).session = some n then
        s.channels.set x.channel { s.channels.get x.channel with keypad := { (s.channels.get x.channel).keypad with
          offRecord := if (s.channels.get x.channel).keypad.offRecord = some k then none
            else (s.channels.get x.channel).keypad.offRecord } }
      else s.channels } := by
  have hfilter (o : Option Nat) : (o.filter fun j => j ≠ k) = if o = some k then none else o := by
    cases o with
    | none => rfl
    | some j =>
      by_cases hj : j = k
      · simp [hj]
      · simp [hj]
  unfold State.keepToggle
  rw [hx]
  dsimp only
  split
  · simp only [hfilter]
    rfl
  · rfl

/-- Settles O42. -/
theorem rangeRequestsChangeTheRange : Obligations.RangeRequestsChangeTheRange := by
  intro s tag n k x g hx hg ch toggles
  have hnumber : x.number = n := State.number_of_session? hx
  obtain ⟨hgs, hgn⟩ : g.session = n ∧ g.number = k := by simpa using List.find?_some hg
  refine ⟨fun stop h hstop => ?_, fun stop h hstop => ?_, fun r hrs hrk h => ?_, fun h => ?_⟩
  · intro last
    generalize hq : (⟨0x39, tag, u16 n ++ u16 k ++ opt32 stop⟩ : Request) = q
    have hlast : closingEnd x g stop = last := by cases stop <;> rfl
    have hclosed := State.keepToggle_ne (s := (s.taking q).modRange n k fun g => { g with stop := some last }) (k := k) hx
    obtain ⟨t, ht, -, hleft⟩ := State.request_answers (r := q) (u := (s.taking q).closeRangeAt n k last)
      (a := ⟨adjusted (stop.any fun f => decide (f ≠ last)), ((s.taking q).closeRangeAt n k last).rangeBody n k⟩) h (hq ▸ rfl) rfl
      (by
        rw [show (s.taking q).session? n = some x from hx, show (s.taking q).range? n k = some g from hg]
        dsimp only
        rw [hstop, if_neg (by decide), State.closeHostRange, hlast, hnumber, hgn])
      (by rw [State.closeRangeAt, hclosed]; rfl)
    rw [State.closeRangeAt, hclosed] at hleft
    exact ⟨t, ht, (congrArg State.ranges hleft :), (congrArg State.channels hleft :),
      (congrArg (fun u : State => { u with ranges := s.ranges, channels := s.channels }) hleft :)⟩
  · refine State.request_keeps h rfl rfl ?_
    rw [show (s.taking _).session? n = some x from hx, show (s.taking _).range? n k = some g from hg]
    exact if_pos (Option.isSome_iff_ne_none.mpr hstop)
  · subst hrs hrk
    generalize hq : (⟨0x3A, tag, encodeSetRange r⟩ : Request) = q
    obtain ⟨t, ht, -, hleft⟩ := State.request_answers (r := q)
      (u := (s.taking q).modRange r.session r.range (changedRange r))
      (a := ⟨adjusted (setRangeChanges r g), rangeRecord (changedRange r g)⟩) h (hq ▸ rfl) rfl
      (by rw [show (s.taking q).session? r.session = some x from hx, show (s.taking q).range? r.session r.range = some g from hg])
      rfl
    refine ⟨t, ht, ((congrArg State.ranges hleft :) : t.ranges = _).trans ?_,
      (congrArg (fun u : State => { u with ranges := s.ranges }) hleft :)⟩
    refine List.map_congr_left fun e _ => if_congr Iff.rfl ?_ rfl
    unfold changedRange
    cases hp : r.play with
    | none => cases r.label <;> rfl
    | some code =>
      match code with
      | 0 => cases r.label <;> rfl
      | 1 => cases r.label <;> rfl
      | _ + 2 => cases r.label <;> rfl
  · generalize hq : (⟨0x3B, tag, u16 n ++ u16 k⟩ : Request) = q
    have hremoved : (s.taking q).removeRange n k = _ := State.keepToggle_ne (s := (s.taking q).setRanges
      (s.ranges.filter fun g => decide (g.session ≠ n) || decide (g.number ≠ k))) (k := k) hx
    obtain ⟨t, ht, hanswered, hleft⟩ := State.request_answers (r := q) (u := (s.taking q).removeRange n k)
      (a := ⟨.ok, u16 n ++ u16 k ++ u8 (((s.taking q).removeRange n k).openRanges n)
        ++ u16 ((s.taking q).removeRange n k).ranges.length⟩) h (hq ▸ rfl) rfl
      (by rw [show (s.taking q).session? n = some x from hx, show (s.taking q).range? n k = some g from hg])
      (by rw [hremoved]; rfl)
    have hranges : t.ranges = ((s.taking q).removeRange n k).ranges := (congrArg State.ranges hleft :)
    rw [← State.openRanges_congr hranges, ← hranges] at hanswered
    rw [hremoved] at hleft hranges
    refine ⟨t, ht, hranges.trans ?_, (congrArg State.channels hleft :), hanswered,
      (congrArg (fun u : State => { u with ranges := s.ranges, channels := s.channels }) hleft :)⟩
    exact List.filter_congr fun q _ => (Bool.decide_or ..).symm

end Sys2Proof.Machine
end

section
/-! SUPPORT. The exporter's requests (R188, R192) and the messages sent (R181, R182, R190, R191). -/

namespace Sys2Proof.Machine

/-! ### What sending leaves -/

/-- Only sending and the link's own moves touch the line. -/
theorem Move.line {k : Kind} {s t : State} (h : Move k s t) (hk : k ∉ [Kind.sending, .link, .mask]) :
    t.link.line = s.link.line := by
  cases h with
  | notice k sub contents => exact Link.raise_line ..
  | sending => exact absurd (by decide) hk
  | link => exact absurd (by decide) hk
  | mask => exact absurd (by decide) hk
  | _ => rfl

theorem Reach.line {K : List Kind} {s t : State} (h : Reach K s t) (hK : ∀ k ∈ K, k ∉ [Kind.sending, .link, .mask]) :
    t.link.line = s.link.line :=
  h.keeps (fun u => u.link.line) fun k hk _ _ hm => hm.line (hK k hk)

/-- The transmitter takes from the exporter FIFO alone, and only while the exporter streams. -/
theorem State.finish_exporter (before : State) {s : State} (h : s.exporter.phase ≠ .streaming) :
    (State.finish before s).exporter = s.exporter := by
  have htransmit : s.transmit.exporter = s.exporter := by
    unfold State.transmit
    split
    · rfl
    · split
      · rfl
      · split
        · rfl
        · split
          · rfl
          · rfl
          · next hstreaming => exact absurd hstreaming h
  exact ((State.stationLines_reach before s.transmit).exporter (by decide)).trans htransmit

/-- What a request command leaves and answers, with an exporter that does not stream, from what its rule does. -/
theorem State.request_answersExport {s : State} {i : Instr} {r : Request} (h : Taken i s) (hr : i.request = some r)
    {f : State → State × Answer} (hexec : exec i s = s.request i f) {u : State} {a : Answer} (hf : f (s.taking r) = (u, a))
    (hu : u.link.inProgress = (s.taking r).link.inProgress) (hphase : u.exporter.phase ≠ .streaming) :
    ∃ t, exec i s = .next t ∧ Answered i s t a ∧ t.offLine = u.offLine ∧ t.exporter = u.exporter := by
  obtain ⟨t, ht, hanswered, hleft⟩ := State.request_answers h hr hexec hf hu
  refine ⟨t, ht, hanswered, hleft, ?_⟩
  have hw : s.withRequest (s.requestOr r) = s.taking r := State.withRequest_eq h.1 r
  cases hexec.symm.trans ht
  rw [State.performRequest_taken h hr, hw, hf]
  exact State.finish_exporter s hphase

/-! ### The exporter -/

/-- The exporter while the trim point is recomputed. -/
theorem State.recomputeTrim_exporter (s : State) (n : Nat) : (s.recomputeTrim n).exporter = s.exporter :=
  (s.recomputeTrim_reach n).exporter (by decide)

theorem State.startExport_reach_trim (s : State) (n : Nat) (tag : Byte) (start count : Nat) :
    Reach (.exporter :: trimKinds) s (s.startExport n tag start count) :=
  (Reach.one (.exporter _) (by decide)).trans ((State.recomputeTrim_reach _ n).mono (by decide))

/-- A request that may move frames and is refused. -/
theorem State.requestMoving_refuses {s : State} {i : Instr} {r : Request} (h : Taken i s) (hr : i.request = some r)
    {f : State → State × Answer} (hexec : exec i s = s.requestMoving i f) {a : Answer} (hf : f (s.taking r) = (s.taking r, a)) :
    Moves i s fun v => Answered i s v a ∧ v.offLine = s.offLine := by
  obtain ⟨v, q, ht, hv, hanswered⟩ := State.requestMoving_answers h hr hexec hf rfl
  exact ⟨v, ht, hanswered, hv ▸ rfl⟩

/-- The end of a FETCH_AUDIO, with a start position or CONTINUE, for a session there is. -/
theorem State.fetchFrom_outcomes {s : State} {i : Instr} {r : Request} (h : Taken i s) (hr : i.request = some r)
    {f : State → State × Answer} (hexec : exec i s = s.requestMoving i f) {x : Session} {session p n : Nat} {tag : Byte}
    (hx : s.session? session = some x) (hf : ∃ changed, f (s.taking r) = (s.taking r).fetchFrom x tag p n changed) :
    (s.exporter.phase ≠ .idle → Moves i s fun v => Answered i s v ⟨.inUse, []⟩ ∧ v.offLine = s.offLine)
    ∧ (s.exporter.phase = .idle → s.category x (p / 256) = .unstored ∨ s.category x (p / 256) = .trimmed →
      Moves i s fun v => Answered i s v ⟨.gone, []⟩ ∧ v.offLine = s.offLine)
    ∧ (s.exporter.phase = .idle → ¬ (s.category x (p / 256) = .unstored ∨ s.category x (p / 256) = .trimmed) → Moves i s fun v =>
      (∃ status, (status = .ok ∨ status = .adjusted) ∧ Answered i s v ⟨status, u16 session ++ u32 p ++ u32 n⟩)
      ∧ v.exporter =
        { phase := .streaming, session := session, tag := tag, start := p, count := n, sent := 0, withheld := 0, lost := 0
          reason := none, fifo := [], cursor := some (p / 256), reader := .idle, resume := some ⟨session, p⟩ }
      ∧ v.channels = s.channels ∧ v.takes = s.takes ∧ v.stations = s.stations ∧ v.readback = s.readback) := by
  have hnumber : x.number = session := State.number_of_session? hx
  obtain ⟨changed, hf⟩ := hf
  refine ⟨fun hbusy => ?_, fun hidle hgone => ?_, fun hidle hgone => ?_⟩
  · exact State.requestMoving_refuses h hr hexec (hf.trans (if_pos hbusy))
  · exact State.requestMoving_refuses h hr hexec (hf.trans ((if_neg (not_not.mpr hidle)).trans (if_pos hgone)))
  · have hreach := (s.taking r).startExport_reach_trim session tag p n
    obtain ⟨v, q, ht, hv, hanswered⟩ := State.requestMoving_answers (u := (s.taking r).startExport session tag p n)
      (a := ⟨adjusted changed, u16 session ++ u32 p ++ u32 n⟩) h hr hexec
      (by rw [hf, ← hnumber]; exact (if_neg (not_not.mpr hidle)).trans (if_neg hgone)) (hreach.inProgress (by decide) (by decide))
    refine ⟨v, ht, ⟨_, adjusted_cases changed, hanswered⟩, ?_⟩
    rw [hv]
    exact ⟨State.recomputeTrim_exporter .., hreach.channels (by decide), hreach.takes (by decide), hreach.stations (by decide),
      hreach.readback (by decide)⟩

theorem takenStart_eq (start : Nat) : takenStart start = min 1382399999 start := Nat.min_comm ..

theorem takenCount_eq (count : Nat) : takenCount count = max 1 (min 16777215 count) := clamp_eq (by decide) count

/-- Settles O44: both forms end in `State.fetchFrom`. -/
theorem fetchAudioStartsTheExport : Obligations.FetchAudioStartsTheExport := by
  intro s tag count n starts
  have hcount : takenCount count = n := takenCount_eq count
  refine ⟨fun session start h => ⟨fun hnone => ?_, fun x hx => ?_⟩, fun form h => ⟨fun hnone => ?_,
    fun r hr => ⟨fun hnone => ?_, fun x hx => ?_⟩⟩⟩
  · refine State.requestMoving_refuses h rfl rfl ?_
    rw [show (s.taking _).session? session = none from hnone]
    rfl
  · rw [← takenStart_eq]
    refine State.fetchFrom_outcomes h rfl rfl hx ?_
    rw [show (s.taking _).session? session = some x from hx, ← hcount]
    exact ⟨_, rfl⟩
  · refine State.requestMoving_refuses h rfl rfl ?_
    rw [show (s.taking _).exporter.resume = none from hnone]
    rfl
  · refine State.requestMoving_refuses h rfl rfl ?_
    rw [show (s.taking _).exporter.resume = some r from hr]
    dsimp only
    rw [show (s.taking _).session? r.session = none from hnone]
    rfl
  · rw [← takenStart_eq]
    refine State.fetchFrom_outcomes h rfl rfl hx ?_
    rw [show (s.taking _).exporter.resume = some r from hr]
    dsimp only
    rw [show (s.taking _).session? r.session = some x from hx, ← hcount]
    exact ⟨_, rfl⟩

/-- A streaming exporter ended. -/
def State.exportEnded (s : State) (why : EndReason) : State :=
  (s.killGrant .exporter).modExporter fun e =>
    { e with phase := .ending, reason := some why, fifo := [], cursor := none, reader := .stopped
             resume := if why = .short then none else e.resume }

theorem State.endExport_streaming {s : State} (h : s.exporter.phase = .streaming) (why : EndReason) :
    s.endExport why = (s.exportEnded why).recomputeTrim s.exporter.session := if_pos h

/-- Settles O45. -/
theorem stopFetchEndsTheExport : Obligations.StopFetchEndsTheExport := by
  intro s tag h
  refine ⟨fun hphase => ?_, fun hphase => State.request_keeps h rfl rfl (if_neg hphase)⟩
  generalize hq : (⟨0x51, tag, []⟩ : Request) = q
  have hended := State.endExport_streaming (s := s.taking q) hphase .stopped
  have hreach := (s.taking q).endExport_reach .stopped
  have hexporter : ((s.taking q).endExport .stopped).exporter = ((s.taking q).exportEnded .stopped).exporter := by
    rw [hended]
    exact State.recomputeTrim_exporter ..
  obtain ⟨t, ht, hanswered, hleft, hkept⟩ := State.request_answersExport (r := q) (u := (s.taking q).endExport .stopped)
    (a := ⟨.ok, [s.exporter.tag] ++ u32 s.exporter.sent⟩) h (hq ▸ rfl) rfl (by exact if_pos hphase)
    (hreach.inProgress (by decide) (by decide)) (by rw [hexporter]; nofun)
  refine ⟨t, ht, hanswered, hkept.trans hexporter, (congrArg State.channels hleft :).trans (hreach.channels (by decide)),
    (congrArg State.takes hleft :).trans (hreach.takes (by decide)),
    (congrArg State.readback hleft :).trans (hreach.readback (by decide)),
    (congrArg State.queue hleft :).trans (hreach.queue (by decide))⟩

/-! ### Messages sent -/

theorem Notice.isOverflow_iff (n : Notice) : n.isOverflow = true ↔ n.kind = .device ∧ n.contents.head? = some 1 := by
  unfold Notice.isOverflow
  rw [Bool.and_eq_true, decide_eq_true_iff, decide_eq_true_iff]

/-- What a DATA message sent in full leaves (R190, R191). -/
theorem State.dataDone_spec (s : State) (d : DataMessage) :
    Reach exportKinds s (s.dataDone d) ∧ (s.dataDone d).exporter =
      if s.exporter.count ≤ s.exporter.sent + d.samples.length ∧ s.exporter.phase = .streaming then
        ((s.modExporter fun e => e.countData d).exportEnded .complete).exporter
      else s.exporter.countData d := by
  have hcount : Reach exportKinds s (s.modExporter fun e => e.countData d) := .one (.exporter _) (by decide)
  have hrule : s.dataDone d = if s.exporter.count ≤ s.exporter.sent + d.samples.length
      then (s.modExporter fun e => e.countData d).endExport .complete else s.modExporter fun e => e.countData d := rfl
  rw [hrule]
  by_cases hall : s.exporter.count ≤ s.exporter.sent + d.samples.length
  · rw [if_pos hall]
    refine ⟨hcount.trans (State.endExport_reach _ _), ?_⟩
    by_cases hphase : s.exporter.phase = .streaming
    · rw [if_pos ⟨hall, hphase⟩, State.endExport_streaming (s := s.modExporter fun e => e.countData d) hphase]
      exact State.recomputeTrim_exporter ..
    · have hkept : (s.modExporter fun e => e.countData d).endExport .complete = s.modExporter fun e => e.countData d :=
        if_neg hphase
      rw [if_neg fun hand => hphase hand.2, hkept]
      rfl
  · rw [if_neg hall, if_neg fun hand => hall hand.1]
    exact ⟨hcount, rfl⟩

/-- Settles O46. -/
theorem sentMessagesFreeTheLine : Obligations.SentMessagesFreeTheLine := by
  intro s
  refine ⟨fun n hline => ⟨_, ?_, rfl⟩, fun m hline => ⟨_, ?_, rfl⟩, fun d hline => ?_⟩
  · rw [show exec .noticeSent s = execNoticeSent s from rfl, execNoticeSent, hline]
    dsimp only
    congr 2
    by_cases hoverflow : n.isOverflow = true
    · rw [if_pos hoverflow, if_pos ((Notice.isOverflow_iff n).mp hoverflow)]
      rfl
    · rw [if_neg hoverflow, if_neg fun hand => hoverflow ((Notice.isOverflow_iff n).mpr hand)]
      rfl
  · rw [show exec .fetchEndSent s = execFetchEndSent s from rfl, execFetchEndSent, hline]
    rfl
  · obtain ⟨hreach, hexporter⟩ := (s.modLink fun l => { l with line := none }).dataDone_spec d
    refine ⟨(s.modLink fun l => { l with line := none }).dataDone d, ?_, hreach.line (by decide), ?_, ?_, ?_, ?_, fun hphase hmore => ?_,
      fun hphase hall => ?_, hreach.channels (by decide), hreach.takes (by decide), hreach.stations (by decide),
      hreach.readback (by decide)⟩
    · rw [show exec .dataSent s = execDataSent s from rfl, execDataSent, hline]
      rfl
    · rw [hexporter]
      split <;> rfl
    · rw [hexporter]
      split <;> rfl
    · rw [hexporter]
      split <;> rfl
    · rw [hexporter]
      split <;> rfl
    · rw [hexporter, if_neg fun hand => absurd hand.1 (Nat.not_le.mpr hmore)]
      exact hphase
    · rw [hexporter, if_pos ⟨hall, hphase⟩]
      exact ⟨rfl, rfl, rfl⟩

end Sys2Proof.Machine
end

section
/-! SUPPORT. The requests of the read-back units (R152 to R161). -/

namespace Sys2Proof.Machine

/-! ### The link plays no part -/

/-- The state with another link. -/
def State.withLink (s : State) (l : Link) : State := { s with link := l }

/-- A rule that leaves the same whatever the link, but for the link. -/
def LinkFree (f : State → State) : Prop := ∀ s l, ∃ l', f (s.withLink l) = (f s).withLink l'

theorem LinkFree.comp {f g : State → State} (hg : LinkFree g) (hf : LinkFree f) : LinkFree fun s => g (f s) := by
  intro s l
  obtain ⟨l', hl⟩ := hf s l
  obtain ⟨l'', hl'⟩ := hg (f s) l'
  exact ⟨l'', by dsimp only; rw [hl, hl']⟩

theorem State.checkCondition_linkFree : LinkFree State.checkCondition := by
  intro s l
  unfold State.checkCondition
  dsimp only
  by_cases hsame : storeCondition s.store.free.length s.store.lowMark = s.store.condition
  · exact ⟨l, by rw [if_pos hsame]; exact if_pos hsame⟩
  · refine ⟨l.raise .store .whole (storeContents { s.store with
      condition := storeCondition s.store.free.length s.store.lowMark }), ?_⟩
    rw [if_neg hsame]
    exact if_neg hsame

theorem State.trimStore_linkFree (n : Nat) : LinkFree fun s => s.trimStore n := by
  intro s l
  dsimp only
  unfold State.trimStore
  rw [show (s.withLink l).session? n = s.session? n from rfl]
  split
  · split
    · next p _ => exact State.checkCondition_linkFree (s.modStore fun st => st.trim n p s.arbiter.inFlight) l
    · exact ⟨l, rfl⟩
  · exact ⟨l, rfl⟩

theorem State.recomputeTrim_linkFree (n : Nat) : LinkFree fun s => s.recomputeTrim n := by
  intro s l
  dsimp only
  unfold State.recomputeTrim
  rw [show (s.withLink l).session? n = s.session? n from rfl]
  split
  · next x _ =>
    dsimp only
    rw [show (s.withLink l).trimPointOf x = s.trimPointOf x from rfl]
    split
    · exact State.trimStore_linkFree n s l
    · split
      · next p _ =>
        exact State.trimStore_linkFree n (((s.modSession n fun y => { y with trimPoint := s.trimPointOf x }).trimMarks n p).trimRanges
          n p) l
      · exact ⟨l, rfl⟩
  · exact ⟨l, rfl⟩

theorem State.placeMark_withLink (m : Mark) (s : State) (l : Link) :
    (s.withLink l).placeMark m = ((s.placeMark m).1.withLink l, (s.placeMark m).2) := by
  unfold State.placeMark
  rw [show (s.withLink l).marks = s.marks from rfl, show (s.withLink l).session? m.session = s.session? m.session from rfl]
  split
  · rfl
  · dsimp only
    split
    · split
      · rfl
      · split <;> rfl
    · rfl

theorem State.addMark_withLink (m : Mark) (s : State) (l : Link) :
    ∃ l', (s.withLink l).addMark m = ((s.addMark m).1.withLink l', (s.addMark m).2) := by
  unfold State.addMark
  rw [State.placeMark_withLink]
  generalize s.placeMark m = placed
  obtain ⟨t, outcome⟩ := placed
  cases outcome <;> exact ⟨_, rfl⟩

theorem State.addReadbackMark_withLink (c : ChannelId) (kind : MarkKind) (e : ReadbackEntry) (a b : Nat) (s : State) (l : Link) :
    ∃ l', (s.withLink l).addReadbackMark c kind e a b =
      ((s.addReadbackMark c kind e a b).1.withLink l', (s.addReadbackMark c kind e a b).2) := by
  unfold State.addReadbackMark
  rw [show (s.withLink l).recordingOn c = s.recordingOn c from rfl]
  split
  · next rec _ =>
    obtain ⟨l', hl⟩ := State.addMark_withLink (readbackMark rec kind e a b) s l
    exact ⟨l', by rw [hl]⟩
  · exact ⟨l, rfl⟩

/-- A unit that has lost its current entry, its FIFO and its transfer in flight (R159). -/
def State.unitEmptied (s : State) (c : ChannelId) : State :=
  (s.killGrant (.readback c)).modReadback c fun u =>
    { u with current := none, fifo := [], fetch := none, finished := false, reader := .stopped, resting := false }

/-- The state before the END mark of an entry that is finished with. -/
def State.entryLeft (s : State) (c : ChannelId) (k : ReadbackCurrent) : State := (s.unitEmptied c).recomputeTrim k.entry.session

/-- What a READBACK notice tells of an entry finished with. -/
def ReadbackCurrent.info (k : ReadbackCurrent) (mark : Option Nat) : ReadbackInfo :=
  { entry := some k.entry, start := some k.start, stop := some k.stop, played := k.played, withheld := k.withheld,
    silent := k.silent, endMark := mark }

theorem State.finishEntry_eq {s : State} {c : ChannelId} {k : ReadbackCurrent} (hk : (s.readback.get c).current = some k)
    (event : ReadbackEvent) : s.finishEntry c event =
      ((s.entryLeft c k).addReadbackMark c .readbackEnd k.entry k.start k.stop).1.raiseReadback c event
        (k.info ((s.entryLeft c k).addReadbackMark c .readbackEnd k.entry k.start k.stop).2) := by
  unfold State.finishEntry
  rw [hk]
  rfl

theorem State.finishEntry_idle {s : State} {c : ChannelId} (hk : (s.readback.get c).current = none) (event : ReadbackEvent) :
    s.finishEntry c event = s := by
  unfold State.finishEntry
  rw [hk]

theorem State.finishEntry_linkFree (c : ChannelId) (e : ReadbackEvent) : LinkFree fun s => s.finishEntry c e := by
  intro s l
  dsimp only
  cases hk : (s.readback.get c).current with
  | none => exact ⟨l, by rw [State.finishEntry_idle hk, State.finishEntry_idle (s := s.withLink l) hk]⟩
  | some k =>
    obtain ⟨l', hl⟩ := State.recomputeTrim_linkFree k.entry.session (s.unitEmptied c) l
    have hleft : (s.withLink l).entryLeft c k = (s.entryLeft c k).withLink l' := hl
    obtain ⟨l'', hmarked⟩ := State.addReadbackMark_withLink c .readbackEnd k.entry k.start k.stop (s.entryLeft c k) l'
    rw [State.finishEntry_eq hk, State.finishEntry_eq (s := s.withLink l) hk, hleft, hmarked]
    exact ⟨_, rfl⟩

/-! ### The tests of an entry (R155) -/

/-- The tests read the sessions, the marks and the store. -/
theorem State.resolveEntry_congr {s t : State} (hsessions : t.sessions = s.sessions) (hmarks : t.marks = s.marks)
    (hstore : t.store = s.store) (c : ChannelId) (e : ReadbackEntry) : t.resolveEntry c e = s.resolveEntry c e := by
  have hstart : t.resolveStart e.session e.start = s.resolveStart e.session e.start := by
    unfold State.resolveStart State.mark?
    rw [hmarks]
  have hstop (a : Nat) : t.resolveStop e.session a e.stop = s.resolveStop e.session a e.stop := by
    unfold State.resolveStop State.mark?
    rw [hmarks]
  have hcategory (x : Session) (f : Nat) : t.category x f = s.category x f := by
    unfold State.category
    rw [hstore]
  have hsession : t.session? e.session = s.session? e.session := by rw [State.session?, State.session?, hsessions]
  unfold State.resolveEntry
  simp only [hstart, hstop, hcategory, hsession]

end Sys2Proof.Machine
end

section
/-! SUPPORT. What the requests of the read-back units leave (R152 to R161). -/

namespace Sys2Proof.Machine

/-! ### The units -/

theorem PerChannel.set_set {α : Type} (p : PerChannel α) (c : ChannelId) (a b : α) : (p.set c a).set c b = p.set c b := by
  fin_cases c <;> rfl

/-- A unit that begins to play an entry (R156). -/
def Readback.playing (u : Readback) (e : ReadbackEntry) (a b : Nat) (mark : Option Nat) : Readback :=
  { u with
    current := some { entry := e, start := a, stop := b, startMark := mark, played := 0, withheld := 0, silent := 0 }
    fifo := [], fetch := some a, finished := false, reader := .idle, resting := false }

/-- A unit whose current entry has been finished with (R159). -/
def Readback.emptied (u : Readback) : Readback :=
  { u with current := none, fifo := [], fetch := none, finished := false, reader := .stopped, resting := false }

theorem State.recomputeTrim_readback (s : State) (n : Nat) : (s.recomputeTrim n).readback = s.readback :=
  (s.recomputeTrim_reach n).readback (by decide)

theorem State.addReadbackMark_readback (s : State) (c : ChannelId) (kind : MarkKind) (e : ReadbackEntry) (a b : Nat) :
    (s.addReadbackMark c kind e a b).1.readback = s.readback := (s.addReadbackMark_reach c kind e a b).readback (by decide)

theorem State.playEntry_unit (s : State) (c : ChannelId) (e : ReadbackEntry) (a b : Nat) :
    ∃ mark, (s.playEntry c e a b).readback = s.readback.set c ((s.readback.get c).playing e a b mark) := by
  refine ⟨(((s.modReadback c fun u => u.playing e a b none).recomputeTrim e.session).addReadbackMark c .readbackStart e a b).2, ?_⟩
  have hflag (t : State) : (t.flagOpenTake c).readback = t.readback :=
    (t.flagOpenTake_reach (K := [.takeBody]) c (by decide)).readback (by decide)
  unfold State.playEntry
  dsimp only
  rw [show ∀ (t : State) (i : ReadbackInfo), (t.raiseReadback c .started i).readback = t.readback from fun _ _ => rfl, hflag,
    State.modReadback_readback, State.addReadbackMark_readback, State.recomputeTrim_readback, State.modReadback_readback,
    PerChannel.get_set_self, PerChannel.set_set]
  rfl

theorem State.finishEntry_unit {s : State} {c : ChannelId} {k : ReadbackCurrent} (hk : (s.readback.get c).current = some k)
    (event : ReadbackEvent) : (s.finishEntry c event).readback = s.readback.set c (s.readback.get c).emptied := by
  rw [State.finishEntry_eq hk]
  refine (State.addReadbackMark_readback ..).trans ((State.recomputeTrim_readback ..).trans ?_)
  exact State.modReadback_readback ..

/-- What finishing with the current entry leaves of the units. -/
theorem State.finishEntry_units (s : State) (c : ChannelId) (event : ReadbackEvent) :
    ((s.finishEntry c event).readback.get c).current = none
      ∧ ((s.finishEntry c event).readback.get c).pending = (s.readback.get c).pending
      ∧ ((s.finishEntry c event).readback.get c).nextSerial = (s.readback.get c).nextSerial
      ∧ ∀ d, d ≠ c → (s.finishEntry c event).readback.get d = s.readback.get d := by
  cases hk : (s.readback.get c).current with
  | none =>
    rw [State.finishEntry_idle hk]
    exact ⟨hk, rfl, rfl, fun _ _ => rfl⟩
  | some k =>
    rw [State.finishEntry_unit hk, PerChannel.get_set_self]
    exact ⟨rfl, rfl, rfl, fun d hd => PerChannel.get_set_ne _ _ hd⟩

theorem State.startEntry_ok {s : State} {c : ChannelId} {e : ReadbackEntry} {a b : Nat} (h : s.resolveEntry c e = .ok (a, b)) :
    s.startEntry c e = (s.playEntry c e a b, none) := by
  rw [State.startEntry, h]

theorem State.startEntry_error {s : State} {c : ChannelId} {e : ReadbackEntry} {why : Skip} (h : s.resolveEntry c e = .error why) :
    s.startEntry c e = (s.raiseReadback c .skipped
      { entry := some e, start := why.start, stop := why.stop, reason := some why.reason }, some why.reason) := by
  rw [State.startEntry, h]

/-- Starting an entry touches no other unit. -/
theorem State.startEntry_others (s : State) (c : ChannelId) (e : ReadbackEntry) {d : ChannelId} (hd : d ≠ c) :
    (s.startEntry c e).1.readback.get d = s.readback.get d := by
  cases hresolved : s.resolveEntry c e with
  | ok span =>
    obtain ⟨a, b⟩ := span
    obtain ⟨mark, hplay⟩ := s.playEntry_unit c e a b
    rw [State.startEntry_ok hresolved, hplay, PerChannel.get_set_ne _ _ hd]
  | error why =>
    rw [State.startEntry_error hresolved]
    rfl

/-- The state in which the head of the pending queue has been taken. -/
def State.headTaken (s : State) (c : ChannelId) (rest : List ReadbackEntry) : State :=
  s.modReadback c fun u => { u with pending := rest }

/-- The state after an entry has been skipped. -/
def State.entrySkipped (s : State) (c : ChannelId) (e : ReadbackEntry) (why : Skip) : State :=
  s.raiseReadback c .skipped { entry := some e, start := why.start, stop := why.stop, reason := some why.reason }

theorem State.startPending_plays {s : State} {c : ChannelId} {e : ReadbackEntry} {rest : List ReadbackEntry} {a b : Nat}
    (hpending : (s.readback.get c).pending = e :: rest) (h : s.resolveEntry c e = .ok (a, b)) (k : Nat) :
    s.startPending c (k + 1) = ((s.headTaken c rest).playEntry c e a b, []) := by
  have hstart := State.startEntry_ok (s := s.headTaken c rest) h
  rw [State.startPending, hpending]
  dsimp only
  rw [show (s.modReadback c fun u => { u with pending := rest }).startEntry c e = _ from hstart]

theorem State.startPending_skips {s : State} {c : ChannelId} {e : ReadbackEntry} {rest : List ReadbackEntry} {why : Skip}
    (hpending : (s.readback.get c).pending = e :: rest) (h : s.resolveEntry c e = .error why) (k : Nat) :
    s.startPending c (k + 1) = ((((s.headTaken c rest).entrySkipped c e why).startPending c k).1,
      (e.serial, why.reason) :: (((s.headTaken c rest).entrySkipped c e why).startPending c k).2) := by
  have hstart := State.startEntry_error (s := s.headTaken c rest) h
  rw [State.startPending, hpending]
  dsimp only
  rw [show (s.modReadback c fun u => { u with pending := rest }).startEntry c e = _ from hstart]
  rfl

theorem State.startPending_empty {s : State} {c : ChannelId} (hpending : (s.readback.get c).pending = []) (k : Nat) :
    s.startPending c k = (s, []) := by
  cases k with
  | zero => rfl
  | succ k => rw [State.startPending, hpending]

theorem State.headTaken_pending (s : State) (c : ChannelId) (rest : List ReadbackEntry) :
    ((s.headTaken c rest).readback.get c).pending = rest := by
  rw [State.headTaken, State.modReadback_readback, PerChannel.get_set_self]

theorem State.startPending_others (s : State) (c : ChannelId) (k : Nat) {d : ChannelId} (hd : d ≠ c) :
    (s.startPending c k).1.readback.get d = s.readback.get d := by
  have htaken (t : State) (rest : List ReadbackEntry) : (t.headTaken c rest).readback.get d = t.readback.get d := by
    rw [State.headTaken, State.modReadback_readback, PerChannel.get_set_ne _ _ hd]
  induction k generalizing s with
  | zero => rfl
  | succ k ih =>
    cases hpending : (s.readback.get c).pending with
    | nil => rw [State.startPending_empty hpending]
    | cons e rest =>
      cases hresolved : s.resolveEntry c e with
      | ok span =>
        obtain ⟨a, b⟩ := span
        obtain ⟨mark, hplay⟩ := (s.headTaken c rest).playEntry_unit c e a b
        rw [State.startPending_plays hpending hresolved, hplay, PerChannel.get_set_ne _ _ hd, htaken]
      | error why =>
        rw [State.startPending_skips hpending hresolved]
        exact (ih _).trans (htaken s rest)

/-! ### The marks -/

theorem State.trimStore_marks (s : State) (n : Nat) : (s.trimStore n).marks = s.marks := (s.trimStore_reach n).marks (by decide)

/-- A recomputed trim point frees marks of its session alone. -/
theorem State.recomputeTrim_marks (s : State) (n : Nat) : (s.recomputeTrim n).marks.Sublist s.marks
    ∧ ∀ m ∈ s.marks, m.session ≠ n → m ∈ (s.recomputeTrim n).marks := by
  unfold State.recomputeTrim
  split
  · next x _ =>
    dsimp only
    split
    · rw [State.trimStore_marks]
      exact ⟨.refl _, fun _ hm _ => hm⟩
    · split
      · next p _ =>
        rw [State.trimStore_marks]
        exact ⟨List.filter_sublist, fun m hm hne => List.mem_filter.mpr ⟨hm, by simp [hne]⟩⟩
      · exact ⟨.refl _, fun _ hm _ => hm⟩
  · exact ⟨.refl _, fun _ hm _ => hm⟩

theorem State.addMark_keeps (s : State) (k : Mark) {m : Mark} (hm : m ∈ s.marks) : m ∈ (s.addMark k).1.marks := by
  have hadded : (s.addMark k).1.marks = (s.placeMark k).1.marks := by
    unfold State.addMark
    dsimp only
    split <;> rfl
  rw [hadded]
  rcases s.placeMark_cases k with ⟨j, h⟩ | ⟨j, h⟩ | ⟨j, h⟩ <;> rw [h]
  · exact hm
  · exact hm
  · exact mem_insertBy.mpr (.inr hm)

theorem State.addReadbackMark_keeps (s : State) (c : ChannelId) (kind : MarkKind) (e : ReadbackEntry) (a b : Nat) {m : Mark}
    (hm : m ∈ s.marks) : m ∈ (s.addReadbackMark c kind e a b).1.marks := by
  unfold State.addReadbackMark
  split
  · exact s.addMark_keeps _ hm
  · exact hm

/-- An entry that plays frees no mark of another session. -/
theorem State.playEntry_keeps (s : State) (c : ChannelId) {e : ReadbackEntry} (a b : Nat) {m : Mark} (hm : m ∈ s.marks)
    (he : e.session ≠ m.session) : m ∈ (s.playEntry c e a b).marks := by
  have hflag (t : State) : (t.flagOpenTake c).marks = t.marks :=
    (t.flagOpenTake_reach (K := [.takeBody]) c (by decide)).marks (by decide)
  unfold State.playEntry
  dsimp only
  rw [show ∀ (t : State) (i : ReadbackInfo), (t.raiseReadback c .started i).marks = t.marks from fun _ _ => rfl, hflag]
  exact State.addReadbackMark_keeps _ _ _ _ _ _
    (((s.modReadback c fun u => u.playing e a b none).recomputeTrim_marks e.session).2 m hm he.symm)

theorem State.startPending_keeps (s : State) (c : ChannelId) (k : Nat) {m : Mark} (hm : m ∈ s.marks)
    (hother : ∀ e ∈ (s.readback.get c).pending, e.session ≠ m.session) : m ∈ (s.startPending c k).1.marks := by
  induction k generalizing s with
  | zero => exact hm
  | succ k ih =>
    cases hpending : (s.readback.get c).pending with
    | nil =>
      rw [State.startPending_empty hpending]
      exact hm
    | cons e rest =>
      rw [hpending] at hother
      cases hresolved : s.resolveEntry c e with
      | ok span =>
        obtain ⟨a, b⟩ := span
        rw [State.startPending_plays hpending hresolved]
        exact (s.headTaken c rest).playEntry_keeps c a b hm (hother e (List.mem_cons_self ..))
      | error why =>
        rw [State.startPending_skips hpending hresolved]
        refine ih ((s.headTaken c rest).entrySkipped c e why) hm fun e' he' => hother e' (List.mem_cons_of_mem _ ?_)
        rw [← s.headTaken_pending c rest]
        exact he'

/-- The session recording on a channel, once the trim point of the entry's session has been recomputed. -/
theorem State.recordingOn_entryLeft {s : State} {c : ChannelId} {rec : Session} (h : s.recordingOn c = some rec)
    (k : ReadbackCurrent) : ∃ rec', (s.entryLeft c k).recordingOn c = some rec' ∧ rec'.sansTrim = rec.sansTrim
      ∧ (s.entryLeft c k).session? rec.number = some rec' := by
  have hreach : Reach (.orphan :: .unit :: trimKinds) s (s.entryLeft c k) :=
    ((s.killGrant_reach (hK := by decide) _).trans (.one (.unit _ _ (by rfl)) (by decide))).trans
      ((State.recomputeTrim_reach _ _).mono (by decide))
  unfold State.recordingOn State.channelSession? at h ⊢
  rw [hreach.channels (by decide)]
  split at h
  · next hphase =>
    split at h
    · next n hn =>
      have hsame := hreach.session?_sansTrim (by decide) n
      rw [h, Option.map_some] at hsame
      obtain ⟨rec', hrec', htrim⟩ := Option.map_eq_some_iff.mp hsame
      refine ⟨rec', ?_, htrim, State.number_of_session? h ▸ hrec'⟩
      rw [if_pos hphase]
      exact hrec'
    · cases h
  · cases h

/-- The END mark of an entry finished with (R159). -/
theorem State.finishEntry_mark {s : State} {c : ChannelId} {k : ReadbackCurrent} (hk : (s.readback.get c).current = some k)
    (event : ReadbackEvent) {rec : Session} (hrec : s.recordingOn c = some rec) (hissued : rec.markIssued < 65535)
    (hroom : s.marks.length < 2048) (hfree : ∀ e ∈ s.marks, e.session = rec.number → e.frame ≠ nextFrame rec.arrivedHead) :
    { readbackMark rec .readbackEnd k.entry k.start k.stop with number := rec.markIssued + 1 } ∈ (s.finishEntry c event).marks := by
  obtain ⟨rec', hrec', htrim, hlook⟩ := State.recordingOn_entryLeft hrec k
  have hnumber : rec'.number = rec.number := (congrArg Session.number htrim :)
  have harrived : rec'.arrivedHead = rec.arrivedHead := (congrArg Session.arrivedHead htrim :)
  have hmarkIssued : rec'.markIssued = rec.markIssued := (congrArg Session.markIssued htrim :)
  have hmark : readbackMark rec' .readbackEnd k.entry k.start k.stop = readbackMark rec .readbackEnd k.entry k.start k.stop := by
    rw [readbackMark, readbackMark, hnumber, harrived]
  have hsub : (s.entryLeft c k).marks.Sublist s.marks := ((s.unitEmptied c).recomputeTrim_marks k.entry.session).1
  have hplaced := State.placeMark_inserts (m := readbackMark rec .readbackEnd k.entry k.start k.stop) hlook
    (fun e he => by
      have hne := hfree e (hsub.subset he)
      by_cases hs : e.session = rec.number
      · simp [Mark.identical, readbackMark, plainMark, hne hs]
      · simp [Mark.identical, readbackMark, plainMark, hs])
    (hmarkIssued ▸ hissued) (lt_of_le_of_lt hsub.length_le hroom)
  rw [State.finishEntry_eq hk]
  show _ ∈ ((s.entryLeft c k).addReadbackMark c .readbackEnd k.entry k.start k.stop).1.marks
  unfold State.addReadbackMark
  rw [hrec']
  dsimp only
  rw [hmark]
  unfold State.addMark
  rw [hplaced, hmarkIssued]
  exact mem_insertBy.mpr (.inl rfl)

end Sys2Proof.Machine
end

section
/-! SUPPORT. The rules of QUEUE_READBACK and CANCEL_READBACK (R153, R154, R161). -/

namespace Sys2Proof.Machine

/-- The kinds of moves that the requests of a read-back unit are made of. -/
def unitKinds : List Kind := .unitCount :: readbackKinds

/-! ### The drain test and the pending queue -/

theorem State.drainTest_readback (s : State) (c : ChannelId) (n : Nat) : (s.drainTest c n).readback = s.readback :=
  (s.drainTest_reach (K := [.notice]) c n (by decide)).readback (by decide)

theorem State.drainTest_marks (s : State) (c : ChannelId) (n : Nat) : (s.drainTest c n).marks = s.marks :=
  (s.drainTest_reach (K := [.notice]) c n (by decide)).marks (by decide)

theorem State.discardPending_unit (s : State) (c : ChannelId) : (s.discardPending c).readback =
    s.readback.set c { s.readback.get c with pending := [] } := by
  unfold State.discardPending
  dsimp only
  split <;> rfl

/-- A serial taken leaves the serial within its byte (R152). -/
theorem Reach.takeSerial (s : State) (c : ChannelId) (f : Readback → Readback)
    (h : ∃ l, f (s.readback.get c) = { (s.readback.get c).takeSerial with pending := l }) :
    Reach unitKinds s (s.modReadback c f) := by
  obtain ⟨l, hl⟩ := h
  refine .one (.unitCount c f ?_ ?_ ?_) (by decide)
  · rw [hl]
    rfl
  · rw [hl]
    exact fun _ => Nat.le_of_lt_succ (Nat.mod_lt _ (by decide))
  · rw [hl]
    exact id

/-! ### QUEUE_READBACK with CHAIN yes (R154) -/

/-- The entry appended to the pending queue under the next serial. -/
def State.chained (s : State) (c : ChannelId) (r : QueueReadbackReq) : State :=
  s.modReadback c fun u =>
    { u.takeSerial with pending := u.pending ++ [readbackEntry r (s.readback.get c).nextSerial true] }

theorem State.chained_reach (s : State) (c : ChannelId) (r : QueueReadbackReq) : Reach unitKinds s (s.chained c r) :=
  Reach.takeSerial s c _ ⟨_, rfl⟩

theorem State.queueChain_busy {s : State} {c : ChannelId} (r : QueueReadbackReq) (h : (s.readback.get c).current ≠ none) :
    s.queueChain c r = (s.chained c r,
      queueAnswer r (s.readback.get c).nextSerial (((s.chained c r).readback.get c).standing (s.readback.get c).nextSerial [])) := by
  have hbusy : ((s.chained c r).readback.get c).current.isSome = true := by
    rw [State.chained, State.modReadback_readback, PerChannel.get_set_self]
    exact Option.isSome_iff_ne_none.mpr h
  exact if_pos hbusy

/-- An entry appended under a serial of its own stands at the tail. -/
theorem Readback.standing_tail {u : Readback} {l : List ReadbackEntry} {e : ReadbackEntry} (hu : u.pending = l ++ [e])
    (hnew : ∀ p ∈ l, p.serial ≠ e.serial) : u.standing e.serial [] = .pending (l.length + 1) := by
  have hfound : (l ++ [e]).findIdx? (fun p => p.serial = e.serial) = some l.length := by
    have hnone : l.findIdx? (fun p => p.serial = e.serial) = none :=
      List.findIdx?_eq_none_iff.mpr fun p hp => by simpa using hnew p hp
    rw [List.findIdx?_append, hnone]
    simp [List.findIdx?_cons]
  unfold Readback.standing
  rw [hu, hfound]
  rfl

theorem State.queueChain_idle {s : State} {c : ChannelId} (r : QueueReadbackReq) (h : (s.readback.get c).current = none)
    (hempty : (s.readback.get c).pending = []) : s.queueChain c r =
      (((s.chained c r).startPending c 1).1.drainTest c ((s.chained c r).readback.get c).outstanding,
        queueAnswer r (s.readback.get c).nextSerial
          (((((s.chained c r).startPending c 1).1.drainTest c ((s.chained c r).readback.get c).outstanding).readback.get c).standing
            (s.readback.get c).nextSerial ((s.chained c r).startPending c 1).2)) := by
  have hunit : (s.chained c r).readback.get c = { (s.readback.get c).takeSerial with
      pending := (s.readback.get c).pending ++ [readbackEntry r (s.readback.get c).nextSerial true] } := by
    rw [State.chained, State.modReadback_readback, PerChannel.get_set_self]
  have hidle : ¬ ((s.chained c r).readback.get c).current.isSome = true := by
    rw [hunit]
    simp [Readback.takeSerial, h]
  have hnext : (s.chained c r).startNext c = (s.chained c r).startPending c 1 := by
    rw [State.startNext, hunit, hempty]
    rfl
  rw [← hnext]
  exact if_neg hidle

/-- CHAIN yes on an idle unit, for an entry that passes its tests. -/
theorem State.queueChain_plays {s : State} {c : ChannelId} (r : QueueReadbackReq) (h : (s.readback.get c).current = none)
    (hempty : (s.readback.get c).pending = []) {a b : Nat}
    (hresolved : s.resolveEntry c (readbackEntry r (s.readback.get c).nextSerial true) = .ok (a, b)) :
    ∃ w mark, s.queueChain c r = (w, queueAnswer r (s.readback.get c).nextSerial .playing) ∧ Reach unitKinds s w
      ∧ w.readback = s.readback.set c (({ (s.readback.get c).takeSerial with pending := [] } : Readback).playing
        (readbackEntry r (s.readback.get c).nextSerial true) a b mark) := by
  have hpending : ((s.chained c r).readback.get c).pending = [readbackEntry r (s.readback.get c).nextSerial true] := by
    rw [State.chained, State.modReadback_readback, PerChannel.get_set_self, hempty]
    rfl
  have hplays := State.startPending_plays (s := s.chained c r) hpending hresolved 0
  obtain ⟨mark, hunit⟩ := ((s.chained c r).headTaken c []).playEntry_unit c (readbackEntry r (s.readback.get c).nextSerial true) a b
  have hrule := State.queueChain_idle r h hempty
  rw [hplays] at hrule
  dsimp only at hrule
  have hreach : Reach unitKinds s (s.queueChain c r).1 := by
    rw [hrule]
    exact ((s.chained_reach c r).trans (.trans (.one (.unit c _ (by rfl)) (by decide)) ((State.playEntry_reach ..).mono (by decide)))).trans
      (State.drainTest_reach (hK := by decide) ..)
  have hleft : (s.queueChain c r).1.readback = s.readback.set c (({ (s.readback.get c).takeSerial with pending := [] } :
      Readback).playing (readbackEntry r (s.readback.get c).nextSerial true) a b mark) := by
    rw [hrule]
    dsimp only
    rw [State.drainTest_readback, hunit, State.headTaken, State.modReadback_readback, PerChannel.get_set_self, PerChannel.set_set,
      State.chained, State.modReadback_readback, PerChannel.get_set_self, PerChannel.set_set]
  refine ⟨(s.queueChain c r).1, mark, Prod.ext rfl ?_, hreach, hleft⟩
  have hstanding : ((s.queueChain c r).1.readback.get c).standing (s.readback.get c).nextSerial [] = .playing := by
    rw [hleft, PerChannel.get_set_self]
    rfl
  rw [← hstanding, hrule]

/-- CHAIN yes on an idle unit, for an entry that fails its tests. -/
theorem State.queueChain_skips {s : State} {c : ChannelId} (r : QueueReadbackReq) (h : (s.readback.get c).current = none)
    (hempty : (s.readback.get c).pending = []) {why : Skip}
    (hresolved : s.resolveEntry c (readbackEntry r (s.readback.get c).nextSerial true) = .error why) :
    ∃ w, s.queueChain c r = (w, queueAnswer r (s.readback.get c).nextSerial (.skipped why.reason)) ∧ Reach unitKinds s w
      ∧ w.readback = s.readback.set c { (s.readback.get c).takeSerial with pending := [] } := by
  have hpending : ((s.chained c r).readback.get c).pending = [readbackEntry r (s.readback.get c).nextSerial true] := by
    rw [State.chained, State.modReadback_readback, PerChannel.get_set_self, hempty]
    rfl
  have hskips := State.startPending_skips (s := s.chained c r) hpending hresolved 0
  have hrule := State.queueChain_idle r h hempty
  rw [hskips] at hrule
  dsimp only at hrule
  have hreach : Reach unitKinds s (s.queueChain c r).1 := by
    rw [hrule]
    exact ((s.chained_reach c r).trans (.trans (.one (.unit c _ (by rfl)) (by decide))
      (State.raiseReadback_reach (hK := by decide) ..))).trans (State.drainTest_reach (hK := by decide) ..)
  have hleft : (s.queueChain c r).1.readback = s.readback.set c { (s.readback.get c).takeSerial with pending := [] } := by
    rw [hrule]
    dsimp only
    rw [State.drainTest_readback]
    show (((s.chained c r).headTaken c []).readback) = _
    rw [State.headTaken, State.modReadback_readback, State.chained, State.modReadback_readback, PerChannel.get_set_self,
      PerChannel.set_set]
  refine ⟨(s.queueChain c r).1, Prod.ext rfl ?_, hreach, hleft⟩
  rw [hrule]
  dsimp only
  congr 1
  unfold Readback.standing
  rw [show (readbackEntry r (s.readback.get c).nextSerial true).serial = (s.readback.get c).nextSerial from rfl]
  simp

/-! ### QUEUE_READBACK with CHAIN no (R154) -/

/-- The state in which the current entry has been aborted under a new serial. -/
def State.preempted (s : State) (c : ChannelId) : State := (s.modReadback c Readback.takeSerial).finishEntry c .aborted

theorem State.queuePreempt_eq (s : State) (c : ChannelId) (r : QueueReadbackReq) : s.queuePreempt c r =
    ((((s.preempted c).discardPending c).startEntry c (readbackEntry r (s.readback.get c).nextSerial false)).1.drainTest c
        (s.readback.get c).outstanding,
      queueAnswer r (s.readback.get c).nextSerial
        (match (((s.preempted c).discardPending c).startEntry c (readbackEntry r (s.readback.get c).nextSerial false)).2 with
        | some why => .skipped why
        | none => .playing)) := rfl

theorem State.discardPending_moves (s : State) (c : ChannelId) : Reach [.unit, .notice] s (s.discardPending c) := by
  unfold State.discardPending
  dsimp only
  split
  · exact .one (.unit c _ (by rfl)) (by decide)
  · exact (Reach.one (.unit c _ (by rfl)) (by decide)).trans (State.raiseReadback_reach (hK := by decide) ..)

theorem State.discardPending_resolve (s : State) (c : ChannelId) (e : ReadbackEntry) :
    (s.discardPending c).resolveEntry c e = s.resolveEntry c e :=
  have hreach := s.discardPending_moves c
  State.resolveEntry_congr (hreach.sessions (by decide)) (hreach.marks (by decide)) (hreach.store (by decide)) c e

/-- The units once the current entry has been aborted and the pending ones discarded. -/
theorem State.preempted_units (s : State) (c : ChannelId) :
    (((s.preempted c).discardPending c).readback.get c).current = none
      ∧ (((s.preempted c).discardPending c).readback.get c).pending = []
      ∧ (((s.preempted c).discardPending c).readback.get c).nextSerial = ((s.readback.get c).nextSerial + 1) % 256
      ∧ ∀ d, d ≠ c → ((s.preempted c).discardPending c).readback.get d = s.readback.get d := by
  obtain ⟨hcurrent, -, hserial, hothers⟩ := (s.modReadback c Readback.takeSerial).finishEntry_units c .aborted
  rw [State.discardPending_unit, PerChannel.get_set_self]
  refine ⟨hcurrent, rfl, hserial.trans ?_, fun d hd => ?_⟩
  · rw [State.modReadback_readback, PerChannel.get_set_self]
    rfl
  · rw [PerChannel.get_set_ne _ _ hd]
    refine (hothers d hd).trans ?_
    rw [State.modReadback_readback, PerChannel.get_set_ne _ _ hd]

theorem State.queuePreempt_moves (s : State) (c : ChannelId) (r : QueueReadbackReq) : Reach unitKinds s (s.queuePreempt c r).1 := by
  rw [State.queuePreempt_eq]
  exact (((((Reach.takeSerial s c _ ⟨_, rfl⟩).trans ((State.finishEntry_reach ..).mono (by decide))).trans
    ((State.discardPending_moves ..).mono (by decide))).trans ((State.startEntry_reach ..).mono (by decide)))).trans
      (State.drainTest_reach (hK := by decide) ..)

/-- CHAIN no, for an entry that passes its tests once the current entry has been aborted. -/
theorem State.queuePreempt_plays {s : State} {c : ChannelId} (r : QueueReadbackReq) {a b : Nat}
    (hresolved : (s.preempted c).resolveEntry c (readbackEntry r (s.readback.get c).nextSerial false) = .ok (a, b)) :
    (s.queuePreempt c r).2 = queueAnswer r (s.readback.get c).nextSerial .playing
      ∧ ∃ mark, (s.queuePreempt c r).1.readback = ((s.preempted c).discardPending c).readback.set c
        ((((s.preempted c).discardPending c).readback.get c).playing (readbackEntry r (s.readback.get c).nextSerial false) a b
          mark) := by
  obtain ⟨mark, hunit⟩ :=
    ((s.preempted c).discardPending c).playEntry_unit c (readbackEntry r (s.readback.get c).nextSerial false) a b
  rw [State.queuePreempt_eq, State.startEntry_ok ((State.discardPending_resolve ..).trans hresolved)]
  exact ⟨rfl, mark, (State.drainTest_readback ..).trans hunit⟩

/-- CHAIN no, for an entry that fails its tests once the current entry has been aborted. -/
theorem State.queuePreempt_skips {s : State} {c : ChannelId} (r : QueueReadbackReq) {why : Skip}
    (hresolved : (s.preempted c).resolveEntry c (readbackEntry r (s.readback.get c).nextSerial false) = .error why) :
    (s.queuePreempt c r).2 = queueAnswer r (s.readback.get c).nextSerial (.skipped why.reason)
      ∧ (s.queuePreempt c r).1.readback = ((s.preempted c).discardPending c).readback := by
  rw [State.queuePreempt_eq, State.startEntry_error ((State.discardPending_resolve ..).trans hresolved)]
  exact ⟨rfl, State.drainTest_readback ..⟩

/-- What CHAIN no leaves of the units whether or not the entry passes its tests. -/
theorem State.queuePreempt_units (s : State) (c : ChannelId) (r : QueueReadbackReq) :
    ((s.queuePreempt c r).1.readback.get c).nextSerial = ((s.readback.get c).nextSerial + 1) % 256
      ∧ ((s.queuePreempt c r).1.readback.get c).pending = []
      ∧ ∀ d, d ≠ c → (s.queuePreempt c r).1.readback.get d = s.readback.get d := by
  obtain ⟨-, hpending, hserial, hothers⟩ := s.preempted_units c
  cases hresolved : (s.preempted c).resolveEntry c (readbackEntry r (s.readback.get c).nextSerial false) with
  | ok span =>
    obtain ⟨a, b⟩ := span
    obtain ⟨-, mark, hunit⟩ := State.queuePreempt_plays r hresolved
    rw [hunit, PerChannel.get_set_self]
    exact ⟨hserial, hpending, fun d hd => by rw [PerChannel.get_set_ne _ _ hd, hothers d hd]⟩
  | error why =>
    rw [(State.queuePreempt_skips r hresolved).2]
    exact ⟨hserial, hpending, hothers⟩

/-- CHAIN no frees no mark of a session the entry does not name, but for those the abort frees. -/
theorem State.queuePreempt_keeps (s : State) (c : ChannelId) (r : QueueReadbackReq) {m : Mark} (hm : m ∈ (s.preempted c).marks)
    (hr : r.session ≠ m.session) : m ∈ (s.queuePreempt c r).1.marks := by
  have hdiscarded : m ∈ ((s.preempted c).discardPending c).marks := by
    rw [((s.preempted c).discardPending_moves c).marks (by decide)]
    exact hm
  rw [State.queuePreempt_eq, State.drainTest_marks]
  cases hresolved : ((s.preempted c).discardPending c).resolveEntry c (readbackEntry r (s.readback.get c).nextSerial false) with
  | ok span =>
    rw [State.startEntry_ok hresolved]
    exact State.playEntry_keeps _ c _ _ hdiscarded hr
  | error why =>
    rw [State.startEntry_error hresolved]
    exact hdiscarded

/-! ### CANCEL_READBACK (R161) -/

theorem State.cancelCurrent_moves (s : State) (c : ChannelId) (k : ReadbackCurrent) : Reach unitKinds s (s.cancelCurrent c k).1 :=
  (((s.finishEntry_reach c .aborted).trans (State.startNext_reach ..)).mono (by decide)).trans
    (State.drainTest_reach (hK := by decide) ..)

theorem State.cancelAll_moves (s : State) (c : ChannelId) (scope : Nat) : Reach unitKinds s (s.cancelAll c scope).1 :=
  (((s.discardPending_moves c).mono (by decide)).trans ((State.finishEntry_reach ..).mono (by decide))).trans
    (State.drainTest_reach (hK := by decide) ..)

theorem State.cancelCurrent_others (s : State) (c : ChannelId) (k : ReadbackCurrent) {d : ChannelId} (hd : d ≠ c) :
    (s.cancelCurrent c k).1.readback.get d = s.readback.get d := by
  obtain ⟨-, -, -, hothers⟩ := s.finishEntry_units c .aborted
  unfold State.cancelCurrent State.startNext
  dsimp only
  rw [State.drainTest_readback, State.startPending_others _ _ _ hd, hothers d hd]

theorem State.cancelCurrent_keeps (s : State) (c : ChannelId) (k : ReadbackCurrent) {m : Mark}
    (hm : m ∈ (s.finishEntry c .aborted).marks) (hother : ∀ e ∈ (s.readback.get c).pending, e.session ≠ m.session) :
    m ∈ (s.cancelCurrent c k).1.marks := by
  obtain ⟨-, hpending, -, -⟩ := s.finishEntry_units c .aborted
  unfold State.cancelCurrent State.startNext
  dsimp only
  rw [State.drainTest_marks]
  exact State.startPending_keeps _ c _ hm (hpending ▸ hother)

/-- Scope CURRENT on a unit with nothing pending. -/
theorem State.cancelCurrent_empty {s : State} {c : ChannelId} (k : ReadbackCurrent) (hempty : (s.readback.get c).pending = []) :
    (s.cancelCurrent c k).2 = ⟨.ok, cancelBody (some k.entry.serial) 0 none⟩
      ∧ (s.cancelCurrent c k).1.readback = (s.finishEntry c .aborted).readback := by
  obtain ⟨-, hpending, -, -⟩ := s.finishEntry_units c .aborted
  have hnext : (s.finishEntry c .aborted).startNext c = (s.finishEntry c .aborted, []) :=
    State.startPending_empty (hpending.trans hempty) _
  unfold State.cancelCurrent
  dsimp only
  rw [hnext, hempty]
  exact ⟨rfl, State.drainTest_readback ..⟩

/-- Scope CURRENT on a unit whose next entry passes its tests. -/
theorem State.cancelCurrent_plays {s : State} {c : ChannelId} (k : ReadbackCurrent) {e : ReadbackEntry} {rest : List ReadbackEntry}
    (hcons : (s.readback.get c).pending = e :: rest) {a b : Nat}
    (hresolved : (s.finishEntry c .aborted).resolveEntry c e = .ok (a, b)) :
    (s.cancelCurrent c k).2 = ⟨.ok, cancelBody (some k.entry.serial) 0 (some (e.serial, .playing))⟩
      ∧ ∃ (u : Readback) (mark : Option Nat), (s.cancelCurrent c k).1.readback.get c = u.playing e a b mark ∧ u.pending = rest := by
  obtain ⟨-, hpending, -, -⟩ := s.finishEntry_units c .aborted
  have hnext : (s.finishEntry c .aborted).startNext c = (((s.finishEntry c .aborted).headTaken c rest).playEntry c e a b, []) := by
    rw [State.startNext, hpending, hcons]
    exact State.startPending_plays (hpending.trans hcons) hresolved _
  obtain ⟨mark, hunit⟩ := ((s.finishEntry c .aborted).headTaken c rest).playEntry_unit c e a b
  unfold State.cancelCurrent
  dsimp only
  rw [hnext, hcons]
  refine ⟨rfl, _, mark, ?_, (s.finishEntry c .aborted).headTaken_pending c rest⟩
  rw [State.drainTest_readback, hunit, PerChannel.get_set_self]

/-- Scope CURRENT on a unit whose next entry fails its tests. -/
theorem State.cancelCurrent_skips {s : State} {c : ChannelId} (k : ReadbackCurrent) {e : ReadbackEntry} {rest : List ReadbackEntry}
    (hcons : (s.readback.get c).pending = e :: rest) {why : Skip}
    (hresolved : (s.finishEntry c .aborted).resolveEntry c e = .error why) :
    (s.cancelCurrent c k).2 = ⟨.ok, cancelBody (some k.entry.serial) 0 (some (e.serial, .skipped why.reason))⟩ := by
  obtain ⟨-, hpending, -, -⟩ := s.finishEntry_units c .aborted
  have hnext : ∃ t l, (s.finishEntry c .aborted).startNext c = (t, (e.serial, why.reason) :: l) := by
    rw [State.startNext, hpending, hcons]
    exact ⟨_, _, State.startPending_skips (hpending.trans hcons) hresolved _⟩
  obtain ⟨t, l, hnext⟩ := hnext
  unfold State.cancelCurrent
  dsimp only
  rw [hnext, hcons]
  simp [startedAfter]

/-- Scope ALL. -/
theorem State.cancelAll_units (s : State) (c : ChannelId) (scope : Nat) :
    ((s.cancelAll c scope).1.readback.get c).current = none ∧ ((s.cancelAll c scope).1.readback.get c).pending = []
      ∧ ∀ d, d ≠ c → (s.cancelAll c scope).1.readback.get d = s.readback.get d := by
  obtain ⟨hcurrent, hpending, -, hothers⟩ := (s.discardPending c).finishEntry_units c .aborted
  have hunits := s.discardPending_unit c
  unfold State.cancelAll
  dsimp only
  rw [State.drainTest_readback]
  refine ⟨hcurrent, hpending.trans ?_, fun d hd => (hothers d hd).trans ?_⟩
  · rw [hunits, PerChannel.get_set_self]
  · rw [hunits, PerChannel.get_set_ne _ _ hd]

end Sys2Proof.Machine
end

section
/-! SUPPORT. The requests of the read-back units, answered (R152 to R161). -/

namespace Sys2Proof.Machine

/-- The tests of an entry after an abort do not turn on the link. -/
theorem State.finishEntry_resolve (s : State) (l : Link) (c : ChannelId) (event : ReadbackEvent) (e : ReadbackEntry) :
    ((s.withLink l).finishEntry c event).resolveEntry c e = (s.finishEntry c event).resolveEntry c e := by
  obtain ⟨l', hl⟩ := State.finishEntry_linkFree c event s l
  dsimp only at hl
  rw [hl]
  exact State.resolveEntry_congr (s := s.finishEntry c event) rfl rfl rfl c e

theorem State.taking_eq_withLink (s : State) (q : Request) : s.taking q = s.withLink (s.taking q).link := rfl

/-- What a request of a unit leaves outside the units, the marks, the sessions and the store. -/
theorem Reach.unitFrame {s v : State} (h : Reach unitKinds s v) :
    v.queue = s.queue ∧ v.stations = s.stations ∧ v.exporter = s.exporter :=
  ⟨h.queue (by decide), h.stations (by decide), h.exporter (by decide)⟩

/-! ### The checks (R153) -/

theorem State.onReadback_unknown {s : State} {r : QueueReadbackReq} (h : 3 < r.channel ∨ s.session? r.session = none)
    (f : ChannelId → State × Answer) : s.onReadback r f = (s, refuse .noSuch) := by
  unfold State.onReadback
  cases hc : channelOf r.channel with
  | none => rfl
  | some c =>
    rcases h with h | h
    · rw [channelOf, dif_neg (by omega)] at hc
      cases hc
    · dsimp only
      rw [h]

theorem State.onReadback_known {s : State} {r : QueueReadbackReq} {c : ChannelId} {x : Session} (hc : r.channel = c.val)
    (hx : s.session? r.session = some x) (f : ChannelId → State × Answer) :
    s.onReadback r f = if x.channel ≠ c then (s, refuse .notPermitted) else f c := by
  unfold State.onReadback
  rw [hc, channelOf_val]
  dsimp only
  rw [hx]

theorem channelOf_none {n : Nat} (h : 3 < n) : channelOf n = none := dif_neg (by omega)

/-- The entry of a request, by the forms it gives. -/
theorem readbackEntry_eq (r : QueueReadbackReq) (serial : Nat) (chain : Bool) : readbackEntry r serial chain =
    { serial := serial, session := r.session, chain := chain
      start := if r.startForm = 0 then .frame r.startValue else .mark (r.startValue % 65536)
      stop := if r.endForm = 0 then .frame r.endValue else if r.endForm = 1 then .mark (r.endValue % 65536)
        else .length (max 1 (min 112500 r.endValue)) } := by
  rw [readbackEntry, readbackStart, readbackStop, clamp_eq (by decide)]

theorem cancelBody_none (a : Option Nat) (d : Nat) : cancelBody a d none = opt16 a ++ u8 d ++ [0xFF, 0xFF, 0xFF, 0xFF] :=
  List.append_assoc (opt16 a ++ u8 d) [0xFF, 0xFF] [0xFF, 0xFF]

theorem cancelBody_plays (a e : Nat) : cancelBody (some a) 0 (some (e, .playing)) = u16 a ++ [0] ++ u16 e ++ [0, 0xFF] := rfl

theorem cancelBody_skips (a e : Nat) (why : SkipReason) :
    cancelBody (some a) 0 (some (e, .skipped why)) = u16 a ++ [0] ++ u16 e ++ [2] ++ u8 why.code := rfl

/-- Settles O43: each rule of the unit as R41 states it, and the END mark by `State.finishEntry_mark`. -/
theorem readbackRequestsAct : Obligations.ReadbackRequestsAct := by
  intro s tag c u refused frame plays ended
  have hended {v : State} {k : ReadbackCurrent} {next : List ReadbackEntry}
      (h : ∀ rec, s.recordingOn c = some rec → rec.markIssued < 65535 → s.marks.length < 2048 →
        (∀ e ∈ s.marks, e.session = rec.number → e.frame ≠ nextFrame rec.arrivedHead) →
        (∀ e ∈ next, e.session ≠ rec.number) →
        { readbackMark rec .readbackEnd k.entry k.start k.stop with number := rec.markIssued + 1 } ∈ v.marks) : ended v k next := by
    intro rec hrec f hnext hissued hroom hfree
    exact ⟨_, h rec hrec hissued hroom hfree hnext, rfl, rfl, rfl, rfl, rfl, rfl, rfl⟩
  have hframe {q : Request} {w : State} {p : Reply} (hreach : Reach unitKinds (s.taking q) w)
      (hothers : ∀ d, d ≠ c → w.readback.get d = s.readback.get d) : frame (w.recordReply p) := by
    obtain ⟨hqueue, hstations, hexporter⟩ := hreach.unitFrame
    exact ⟨hqueue, hstations, hexporter, hothers⟩
  have hplays {v : State} {e : ReadbackEntry} {a b : Nat} {mark : Option Nat} {u' : Readback}
      (hself : v.readback.get c = u'.playing e a b mark) : plays v e a b := by
    show (v.readback.get c).fetch = some a ∧ (v.readback.get c).finished = false ∧ (v.readback.get c).fifo = []
      ∧ ∃ mark, (v.readback.get c).current = some _
    rw [hself]
    exact ⟨rfl, rfl, rfl, mark, rfl⟩
  refine ⟨fun r i hi h => ?_, fun r x hc hx hxc => ?_, fun i hi h => ?_, fun i scope hi h => ?_, fun i k hi h => ?_,
    fun channel k hchannel => ⟨fun h => ?_, fun h => ?_, fun h => ?_⟩⟩
  · refine ⟨fun hnone => ?_, fun x hc hx hxc => ?_⟩
    · rcases hi with rfl | rfl
      · exact State.requestMoving_refuses h rfl rfl (State.onReadback_unknown (s := s.taking _) hnone _)
      · exact State.requestMoving_refuses h rfl rfl (State.onReadback_unknown (s := s.taking _) hnone _)
    · rcases hi with rfl | rfl
      · exact State.requestMoving_refuses h rfl rfl ((State.onReadback_known (s := s.taking _) hc hx _).trans (if_pos hxc))
      · exact State.requestMoving_refuses h rfl rfl ((State.onReadback_known (s := s.taking _) hc hx _).trans (if_pos hxc))
  · intro entry answer serial
    have hentry (chain : Bool) : readbackEntry r u.nextSerial chain = entry chain := readbackEntry_eq r u.nextSerial chain
    refine ⟨fun h => ?_, fun h => ?_⟩
    · intro i
      generalize hq : (⟨0x48, tag, encodeQueueReadback r true⟩ : Request) = q
      have hrule : (s.taking q).onReadback r (fun c => if Config.readbackPending ≤ ((s.taking q).readback.get c).pending.length
          then (s.taking q, refuse .full) else (s.taking q).queueChain c r) =
          if 8 ≤ u.pending.length then (s.taking q, refuse .full) else (s.taking q).queueChain c r :=
        (State.onReadback_known (s := s.taking q) hc hx _).trans (if_neg (not_not.mpr hxc))
      refine ⟨fun hfull => ?_, fun hroom hbusy => ?_, fun hempty hidle => ?_⟩
      · exact State.requestMoving_refuses (r := q) h (hq ▸ rfl) rfl (hrule.trans (if_pos hfull))
      · have hchained := State.queueChain_busy (s := s.taking q) (c := c) r hbusy
        obtain ⟨v, w, ht, hv, hanswered⟩ := State.requestMoving_answers (r := q) h (hq ▸ rfl) rfl
          (hrule.trans ((if_neg (Nat.not_le.mpr hroom)).trans hchained)) rfl
        refine ⟨v, ht, ?_, fun hnew => ?_⟩
        · rw [hv, ← hentry]
          rfl
        · have hunit : (((s.taking q).chained c r).readback.get c).pending = u.pending ++ [readbackEntry r u.nextSerial true] := by
            rw [State.chained, State.modReadback_readback, PerChannel.get_set_self]
            rfl
          have hstanding := Readback.standing_tail hunit hnew
          rw [show ((s.taking q).readback.get c).nextSerial = (readbackEntry r u.nextSerial true).serial from rfl, hstanding]
            at hanswered
          exact hanswered
      · have hreplied {w : State} {k : Standing} (hchain : (s.taking q).queueChain c r = (w, queueAnswer r u.nextSerial k))
            (hreach : Reach unitKinds (s.taking q) w) : ∃ v p, exec i s = .next (State.settleAll s v) ∧ v = w.recordReply p
              ∧ Answered i s v (queueAnswer r u.nextSerial k) :=
          State.requestMoving_answers (r := q) h (hq ▸ rfl) rfl
            (hrule.trans ((if_neg (by rw [hempty]; decide)).trans hchain)) (hreach.inProgress (by decide) (by decide))
        cases hresolved : s.resolveEntry c (readbackEntry r u.nextSerial true) with
        | ok span =>
          obtain ⟨a, b⟩ := span
          obtain ⟨w, mark, hchain, hreach, hunit⟩ := State.queueChain_plays (s := s.taking q) r hidle hempty hresolved
          obtain ⟨v, p, ht, rfl, hanswered⟩ := hreplied hchain hreach
          have hself : w.readback.get c = ({ u.takeSerial with pending := [] } : Readback).playing
              (readbackEntry r u.nextSerial true) a b mark := by
            rw [hunit, PerChannel.get_set_self]
            rfl
          rw [← hentry, hresolved]
          refine ⟨_, ht, (congrArg Readback.nextSerial hself :), (congrArg Readback.pending hself :), hframe hreach fun d hd => ?_,
            fun a' b' hok => ?_, fun why herror => nomatch herror⟩
          · rw [hunit, PerChannel.get_set_ne _ _ hd]
            rfl
          · cases hok
            exact ⟨hplays hself, hanswered⟩
        | error why =>
          obtain ⟨w, hchain, hreach, hunit⟩ := State.queueChain_skips (s := s.taking q) r hidle hempty hresolved
          obtain ⟨v, p, ht, rfl, hanswered⟩ := hreplied hchain hreach
          have hself : w.readback.get c = { u.takeSerial with pending := [] } := by
            rw [hunit, PerChannel.get_set_self]
            rfl
          rw [← hentry, hresolved]
          refine ⟨_, ht, (congrArg Readback.nextSerial hself :), (congrArg Readback.pending hself :), hframe hreach fun d hd => ?_,
            (fun a' b' hok => nomatch hok), fun why' herror => ?_⟩
          · rw [hunit, PerChannel.get_set_ne _ _ hd]
            rfl
          · cases herror
            exact ⟨((congrArg Readback.current hself :) : (w.readback.get c).current = _).trans hidle, hanswered⟩
    · intro i aborted
      generalize hq : (⟨0x48, tag, encodeQueueReadback r false⟩ : Request) = q
      have hrule : (s.taking q).onReadback r (fun c => (s.taking q).queuePreempt c r) = (s.taking q).queuePreempt c r :=
        (State.onReadback_known (s := s.taking q) hc hx _).trans (if_neg (not_not.mpr hxc))
      have hreach := (s.taking q).queuePreempt_moves c r
      obtain ⟨hserial, hpending, hothers⟩ := (s.taking q).queuePreempt_units c r
      obtain ⟨v, p, ht, rfl, hanswered⟩ := State.requestMoving_answers (r := q)
        (u := ((s.taking q).queuePreempt c r).1) (a := ((s.taking q).queuePreempt c r).2) h (hq ▸ rfl) rfl (by exact hrule)
        (hreach.inProgress (by decide) (by decide))
      have hsame : ((s.taking q).preempted c).resolveEntry c (readbackEntry r u.nextSerial false) =
          aborted.resolveEntry c (readbackEntry r u.nextSerial false) :=
        State.finishEntry_resolve (s.modReadback c Readback.takeSerial) _ c .aborted _
      rw [← hentry]
      refine ⟨_, ht, hserial, hpending, hframe hreach hothers, fun k hk => hended fun rec hrec hissued hroom hfree hnext => ?_,
        fun a b hok => ?_, fun why herror => ?_⟩
      · have hmark := State.finishEntry_mark (s := (s.taking q).modReadback c Readback.takeSerial) (c := c) (k := k)
          (by rw [State.modReadback_readback, PerChannel.get_set_self]; exact hk) .aborted hrec hissued hroom hfree
        exact (s.taking q).queuePreempt_keeps c r hmark (hnext _ (List.mem_singleton.mpr rfl))
      · obtain ⟨hanswer, mark, hunit⟩ := State.queuePreempt_plays (s := s.taking q) r (hsame.trans hok)
        rw [hanswer] at hanswered
        exact ⟨hplays ((congrArg (PerChannel.get · c) hunit).trans (PerChannel.get_set_self ..)), hanswered⟩
      · obtain ⟨hanswer, hunit⟩ := State.queuePreempt_skips (s := s.taking q) r (hsame.trans herror)
        obtain ⟨hcurrent, -⟩ := (s.taking q).preempted_units c
        rw [hanswer] at hanswered
        exact ⟨((congrArg (fun p => (PerChannel.get p c).current) hunit)).trans hcurrent, hanswered⟩
  · subst hi
    generalize hq : (⟨0x49, tag, u8 c.val ++ u8 0⟩ : Request) = q
    refine ⟨fun hidle => ?_, fun k hk => ?_⟩
    · refine State.requestMoving_refuses h rfl rfl ?_
      rw [channelOf_val]
      dsimp only
      rw [show ((s.taking _).readback.get c).current = none from hidle]
      rfl
    · have hreach := (s.taking q).cancelCurrent_moves c k
      obtain ⟨v, p, ht, rfl, hanswered⟩ := State.requestMoving_answers (r := q) (u := ((s.taking q).cancelCurrent c k).1)
        (a := ((s.taking q).cancelCurrent c k).2) h (hq ▸ rfl) rfl
        (by rw [channelOf_val]; dsimp only; rw [show ((s.taking q).readback.get c).current = some k from hk])
        (hreach.inProgress (by decide) (by decide))
      have hsame (e : ReadbackEntry) : ((s.taking q).finishEntry c .aborted).resolveEntry c e =
          (s.finishEntry c .aborted).resolveEntry c e := State.finishEntry_resolve s _ c .aborted e
      refine ⟨_, ht, hframe hreach fun d hd => (s.taking q).cancelCurrent_others c k hd,
        hended fun rec hrec hissued hroom hfree hnext => ?_, fun hempty => ?_, fun e rest hcons => ⟨fun a b hok => ?_, fun why herror => ?_⟩⟩
      · exact (s.taking q).cancelCurrent_keeps c k
          (State.finishEntry_mark (s := s.taking q) hk .aborted hrec hissued hroom hfree) hnext
      · obtain ⟨hanswer, hunit⟩ := State.cancelCurrent_empty (s := s.taking q) k hempty
        obtain ⟨hcurrent, hpending, -⟩ := (s.taking q).finishEntry_units c .aborted
        rw [hanswer] at hanswered
        refine ⟨(congrArg (fun p => (PerChannel.get p c).current) hunit).trans hcurrent,
          (congrArg (fun p => (PerChannel.get p c).pending) hunit).trans (hpending.trans hempty), ?_⟩
        exact cancelBody_none (some k.entry.serial) 0 ▸ hanswered
      · obtain ⟨hanswer, u', mark, hunit, hpending⟩ := State.cancelCurrent_plays (s := s.taking q) k hcons ((hsame e).trans hok)
        rw [hanswer] at hanswered
        refine ⟨hplays hunit, (congrArg Readback.pending hunit).trans hpending, ?_⟩
        exact cancelBody_plays k.entry.serial e.serial ▸ hanswered
      · rw [State.cancelCurrent_skips (s := s.taking q) k hcons ((hsame e).trans herror)] at hanswered
        exact cancelBody_skips k.entry.serial e.serial why.reason ▸ hanswered
  · subst hi
    generalize hq : (⟨0x49, tag, u8 c.val ++ u8 scope⟩ : Request) = q
    refine ⟨fun hnone => ?_, fun hsome => ?_⟩
    · refine State.requestMoving_refuses h rfl rfl ?_
      rw [channelOf_val]
      exact if_pos hnone
    · have hreach := (s.taking q).cancelAll_moves c scope
      obtain ⟨hcurrent, hpending, hothers⟩ := (s.taking q).cancelAll_units c scope
      obtain ⟨v, p, ht, rfl, hanswered⟩ := State.requestMoving_answers (r := q) (u := ((s.taking q).cancelAll c scope).1)
        (a := ((s.taking q).cancelAll c scope).2) h (hq ▸ rfl) rfl (by rw [channelOf_val]; exact if_neg hsome)
        (hreach.inProgress (by decide) (by decide))
      refine ⟨_, ht, hcurrent, hpending, hframe hreach hothers, fun k hk => hended fun rec hrec hissued hroom hfree _ => ?_, ?_⟩
      · have hdiscarded := (s.taking q).discardPending_moves c
        have hmarks : ((s.taking q).discardPending c).marks = s.marks := hdiscarded.marks (by decide)
        have hrecording : ((s.taking q).discardPending c).recordingOn c = some rec := by
          rw [← hrec, State.recordingOn, State.recordingOn, State.channelSession?, State.channelSession?,
            hdiscarded.channels (by decide)]
          simp only [State.session?, hdiscarded.sessions (by decide)]
          rfl
        have hmark := State.finishEntry_mark (s := (s.taking q).discardPending c) (c := c) (k := k)
          (by rw [State.discardPending_unit, PerChannel.get_set_self]; exact hk) .aborted hrecording hissued (hmarks ▸ hroom)
          (hmarks ▸ hfree)
        unfold State.cancelAll
        rw [← State.drainTest_marks _ c ((s.taking q).readback.get c).outstanding] at hmark
        exact hmark
      · have hstatus : adjusted (decide (1 < scope)) = if 1 < scope then .adjusted else .ok := by simp [adjusted]
        rw [← hstatus, ← cancelBody_none]
        exact hanswered
  · subst hi
    generalize hq : (⟨0x4A, tag, u8 c.val ++ u8 k⟩ : Request) = q
    have hclamp : clamp 0 7 k = min 7 k := (clamp_eq (by decide) k).trans (Nat.zero_max _)
    have hunit : ((s.taking q).modReadback c fun u => { u with threshold := min 7 k }).readback.get c =
        { u with threshold := min 7 k } := by
      rw [State.modReadback_readback, PerChannel.get_set_self]
      rfl
    have hstatus : adjusted (decide (min 7 k ≠ k)) = if 7 < k then .adjusted else .ok := by
      by_cases hk : 7 < k
      · rw [if_pos hk, decide_eq_true (by omega)]
        rfl
      · rw [if_neg hk, decide_eq_false (by omega)]
        rfl
    rw [← hstatus]
    obtain ⟨t, ht, hanswered, hleft⟩ := State.request_answers (r := q)
      (u := (s.taking q).modReadback c fun u => { u with threshold := min 7 k })
      (a := ⟨adjusted (decide (min 7 k ≠ k)), u8 (min 7 k) ++ u8 u.outstanding⟩) h (hq ▸ rfl) rfl
      (by
        rw [channelOf_val]
        dsimp only
        rw [hclamp, hunit]
        rfl) rfl
    exact ⟨t, ht, hanswered, hleft⟩
  · exact State.requestMoving_refuses h rfl rfl (by rw [channelOf_none hchannel]; rfl)
  · exact State.requestMoving_refuses h rfl rfl (by rw [channelOf_none hchannel]; rfl)
  · exact State.request_keeps h rfl rfl (by rw [channelOf_none hchannel]; rfl)

end Sys2Proof.Machine
end

section
/-! SUPPORT. Notices told, and the room of the pending notice set (R182, R183). -/

namespace Sys2Proof.Machine

/-! ### What has been told stays told -/

/-- Recording a notice keeps an entry for every kind and subject there was one for. -/
theorem Link.merge_keeps {l : Link} {k k' : NoticeKind} {sub sub' : Subject} {contents : List Byte}
    (h : ∃ n ∈ l.notices, n.kind = k ∧ n.subject = sub) : ∃ n ∈ (l.merge k' sub' contents).notices, n.kind = k ∧ n.subject = sub := by
  obtain ⟨n, hn, hkind, hsub⟩ := h
  unfold Link.merge
  split
  · exact ⟨_, List.mem_map_of_mem hn, by rw [mergeNotice_kind]; exact hkind, by rw [mergeNotice_subject]; exact hsub⟩
  · exact ⟨n, List.mem_append_left _ hn, hkind, hsub⟩

theorem Link.raise_keeps {l : Link} {k k' : NoticeKind} {sub sub' : Subject} {contents : List Byte}
    (h : ∃ n ∈ l.notices, n.kind = k ∧ n.subject = sub) : ∃ n ∈ (l.raise k' sub' contents).notices, n.kind = k ∧ n.subject = sub := by
  unfold Link.raise
  split
  · split
    · exact Link.merge_keeps h
    · exact Link.merge_keeps (l := { l with dropped := _ }) h
  · exact h

/-- A notice that waits goes on waiting until the transmitter takes it. -/
theorem Move.waits {k : Kind} {s t : State} (h : Move k s t) (hk : k ∉ [Kind.sending, .link, .mask]) {kind : NoticeKind}
    {sub : Subject} (hn : ∃ n ∈ s.link.notices, n.kind = kind ∧ n.subject = sub) :
    ∃ n ∈ t.link.notices, n.kind = kind ∧ n.subject = sub := by
  cases h with
  | notice k' sub' contents => exact Link.raise_keeps hn
  | sending => exact absurd (by decide) hk
  | link => exact absurd (by decide) hk
  | mask => exact absurd (by decide) hk
  | _ => exact hn

theorem Reach.waits {K : List Kind} {s t : State} (h : Reach K s t) (hK : ∀ k ∈ K, k ∉ [Kind.sending, .link, .mask])
    {kind : NoticeKind} {sub : Subject} (hn : ∃ n ∈ s.link.notices, n.kind = kind ∧ n.subject = sub) :
    ∃ n ∈ t.link.notices, n.kind = kind ∧ n.subject = sub := by
  induction h with
  | refl => exact hn
  | tail _ hstep ih =>
    obtain ⟨k, hk, hmove⟩ := hstep
    exact hmove.waits (hK k hk) ih

theorem Reach.told {K : List Kind} {s t : State} (h : Reach K s t) (hK : ∀ k ∈ K, k ∉ [Kind.sending, .link, .mask])
    {kind : NoticeKind} {sub : Subject} (hs : s.told kind sub) : t.told kind sub := by
  rcases hs with hn | hline
  · exact .inl (h.waits hK hn)
  · refine .inr ?_
    rw [h.line hK]
    exact hline

/-! ### The room -/

/-- The notices that count against the limit of the set. -/
def State.waitingNotices (s : State) : Nat := s.link.notices.countP fun n => n.kind ≠ .device

theorem Link.merge_count (l : Link) (k : NoticeKind) (sub : Subject) (contents : List Byte) :
    (l.merge k sub contents).notices.countP (fun n => n.kind ≠ .device) ≤
      l.notices.countP (fun n => n.kind ≠ .device) + if k = .device then 0 else 1 := by
  unfold Link.merge
  split
  · rw [List.countP_map]
    refine Nat.le_add_right_of_le (le_of_eq (List.countP_congr fun n _ => ?_))
    simp
  · rw [List.countP_append]
    refine Nat.add_le_add_left ?_ _
    by_cases hk : k = .device
    · simp [hk]
    · simp [hk]

/-- A notice raised takes at most one place. -/
theorem State.raise_waiting (s : State) (k : NoticeKind) (sub : Subject) (contents : List Byte) :
    (s.raise k sub contents).waitingNotices ≤ s.waitingNotices + 1 := by
  have hone (k' : NoticeKind) : (if k' = .device then 0 else 1) ≤ 1 := by split <;> omega
  unfold State.waitingNotices
  rw [State.raise_link]
  unfold Link.raise
  split
  · split
    · exact (Link.merge_count ..).trans (Nat.add_le_add_left (hone k) _)
    · exact (Link.merge_count { s.link with dropped := _ } ..).trans (Nat.add_le_add_left (hone .device) _)
  · exact Nat.le_succ _

theorem State.recomputeTrim_waiting (s : State) (n : Nat) : (s.recomputeTrim n).waitingNotices ≤ s.waitingNotices + 1 := by
  unfold State.waitingNotices
  rcases s.recomputeTrim_link n with hlink | ⟨contents, hlink⟩
  · rw [hlink]
    exact Nat.le_succ _
  · rw [hlink]
    exact s.raise_waiting .store .whole contents

/-- Where a kind is in the mask and the set has room, a notice of the kind is told. -/
theorem State.raise_told_of_room {s : State} {k : NoticeKind} (hmask : s.link.mask.getLsbD k.code = true)
    (hroom : s.waitingNotices < 255) (sub : Subject) (contents : List Byte) : (s.raise k sub contents).told k sub :=
  State.raise_told ⟨hmask, hroom⟩ sub contents

theorem Link.raise_mask (l : Link) (k : NoticeKind) (sub : Subject) (contents : List Byte) :
    (l.raise k sub contents).mask = l.mask := by
  have hmerge (l : Link) (k : NoticeKind) (sub : Subject) (contents : List Byte) : (l.merge k sub contents).mask = l.mask := by
    unfold Link.merge
    split <;> rfl
  unfold Link.raise
  split
  · split
    · exact hmerge ..
    · exact hmerge ..
  · rfl

theorem Reach.mask {K : List Kind} {s t : State} (h : Reach K s t) (hK : Kind.mask ∉ K) : t.link.mask = s.link.mask :=
  h.keeps (fun u => u.link.mask) fun k hk _ _ hm => by
    cases hm with
    | notice => exact Link.raise_mask ..
    | link f hmask => exact hmask
    | mask => exact absurd hk hK
    | _ => rfl

end Sys2Proof.Machine
end

section
/-! SUPPORT. A frame that arrives on a channel (R5 to R8, R13 to R18, R47 to R54). -/

namespace Sys2Proof.Machine

/-! ### The frame numbered, analysed and counted for LEVEL -/

/-- The LEVEL counter after an arrived frame, for a period (R18). -/
def nextLevelCount (period count : Nat) : Nat := if period = 0 then count else if period ≤ count + 1 then 0 else count + 1

/-- A channel on which frame `f` has arrived. -/
def Channel.arrive (ch : Channel) (f : Nat) (samples : Option (List Sample)) : Channel :=
  { ch with
    arrivedHead := some f, detector := ch.detector.analyse ch.config samples
    levelCounter := nextLevelCount ch.config.levelPeriod ch.levelCounter }

/-- The state in which a frame has been numbered, analysed and counted. -/
def State.arrived (s : State) (c : ChannelId) (n f : Nat) (samples : Option (List Sample)) : State :=
  (s.numberFrame c n f samples).countLevel c n f samples.isSome

theorem State.numberFrame_channels (s : State) (c : ChannelId) (n f : Nat) (samples : Option (List Sample)) :
    (s.numberFrame c n f samples).channels = s.channels.set c { s.channels.get c with
      arrivedHead := some f, detector := (s.channels.get c).detector.analyse (s.channels.get c).config samples } :=
  (State.recomputeTrim_reach _ n).channels (by decide)

theorem State.countLevel_channels (s : State) (c : ChannelId) (n f : Nat) (b : Bool) : (s.countLevel c n f b).channels =
    s.channels.set c { s.channels.get c with
      levelCounter := nextLevelCount (s.channels.get c).config.levelPeriod (s.channels.get c).levelCounter } := by
  have hself : s.channels.set c (s.channels.get c) = s.channels := by fin_cases c <;> rfl
  unfold State.countLevel nextLevelCount
  dsimp only
  split
  · exact hself.symm
  · split <;> rfl

theorem State.arrived_channels (s : State) (c : ChannelId) (n f : Nat) (samples : Option (List Sample)) :
    (s.arrived c n f samples).channels = s.channels.set c ((s.channels.get c).arrive f samples) := by
  rw [State.arrived, State.countLevel_channels, State.numberFrame_channels, PerChannel.get_set_self, PerChannel.set_set]
  rfl

theorem State.arrived_reach (s : State) (c : ChannelId) (n f : Nat) (samples : Option (List Sample)) :
    Reach (.capture :: .session :: trimKinds) s (s.arrived c n f samples) :=
  (s.numberFrame_reach ..).trans ((State.countLevel_reach ..).mono (by decide))

/-- The session once the frame has arrived. -/
theorem State.arrived_session? {s : State} {n : Nat} {x : Session} (hx : s.session? n = some x) (c : ChannelId) (f : Nat)
    (samples : Option (List Sample)) : ∃ x', (s.arrived c n f samples).session? n = some x'
      ∧ x'.sansTrim = { x with arrivedHead := some f, planInForce := x.plan }.sansTrim := by
  let ch : Channel → Channel := fun ch => { ch with arrivedHead := some f, detector := ch.detector.analyse ch.config samples }
  have hset : ((s.modChannel c ch).modSession n fun x => { x with arrivedHead := some f, planInForce := x.plan }).session? n =
      some { x with arrivedHead := some f, planInForce := x.plan } :=
    State.session?_modSession (s := s.modChannel c ch) hx fun _ => rfl
  have hrest : Reach (.capture :: trimKinds) _ (s.arrived c n f samples) :=
    ((State.recomputeTrim_reach ((s.modChannel c ch).modSession n fun x =>
      { x with arrivedHead := some f, planInForce := x.plan }) n).mono (by decide)).trans ((State.countLevel_reach ..).mono (by decide))
  have hsame := hrest.session?_sansTrim (by decide) n
  rw [hset, Option.map_some] at hsame
  exact Option.map_eq_some_iff.mp hsame

/-- The records free for a take do not change with what trimming and numbering leave of a session. -/
theorem State.takesFree_congr {s t : State} (htakes : t.takes = s.takes)
    (hsessions : t.sessions.map Session.sansTrim = s.sessions.map Session.sansTrim) : t.takesFree = s.takesFree := by
  have hcount (u : State) : u.takesReserved = (u.sessions.map Session.sansTrim).countP fun x => x.reserved := by
    rw [List.countP_map]
    rfl
  rw [State.takesFree, State.takesFree, State.takesInUse, State.takesInUse, htakes, hcount, hcount, hsessions]

theorem State.modSession_takesFree (s : State) (n : Nat) {f : Session → Session} (hf : ∀ x, (f x).reserved = x.reserved) :
    (s.modSession n f).takesFree = s.takesFree := by
  have hcount : (s.modSession n f).takesReserved = s.takesReserved := by
    rw [State.takesReserved, State.takesReserved, State.modSession_sessions, List.countP_map]
    refine List.countP_congr fun x _ => ?_
    rw [Function.comp_apply]
    split
    · rw [hf]
    · rfl
  rw [State.takesFree, State.takesFree, hcount]
  rfl

theorem State.arrived_takesFree (s : State) (c : ChannelId) (n f : Nat) (samples : Option (List Sample)) :
    (s.arrived c n f samples).takesFree = s.takesFree := by
  let t := (s.modChannel c fun ch =>
    { ch with arrivedHead := some f, detector := ch.detector.analyse ch.config samples }).modSession n fun x =>
      { x with arrivedHead := some f, planInForce := x.plan }
  have hrest : Reach (.capture :: trimKinds) t (s.arrived c n f samples) :=
    ((State.recomputeTrim_reach t n).mono (by decide)).trans ((State.countLevel_reach ..).mono (by decide))
  have hkinds : ∀ k ∈ Kind.capture :: trimKinds, k ∉ [Kind.session, .sessionMarks, .takeCount, .sessionGone, .sessionOpen] := by
    decide
  have hsessions := hrest.keeps (fun u => u.sessions.map Session.sansTrim) fun k hk _ _ hm => hm.sansTrim (hkinds k hk)
  exact (State.takesFree_congr (hrest.takes (by decide)) hsessions).trans
    (State.modSession_takesFree _ n fun _ => rfl)

/-- The LEVEL notice that falls due at a frame (R18). -/
theorem State.arrived_told {s : State} {c : ChannelId} {n f : Nat} {samples : Option (List Sample)}
    (hperiod : 0 < (s.channels.get c).config.levelPeriod)
    (hdue : (s.channels.get c).config.levelPeriod ≤ (s.channels.get c).levelCounter + 1)
    (hmask : s.link.mask.getLsbD 5 = true) (hroom : s.waitingNotices + 2 ≤ 255) :
    (s.arrived c n f samples).told .level (.channel c) := by
  have hchannel : (s.numberFrame c n f samples).channels.get c = { s.channels.get c with
      arrivedHead := some f, detector := (s.channels.get c).detector.analyse (s.channels.get c).config samples } := by
    rw [State.numberFrame_channels, PerChannel.get_set_self]
  have hwaiting : (s.numberFrame c n f samples).waitingNotices ≤ s.waitingNotices + 1 := State.recomputeTrim_waiting ..
  have hheard : (s.numberFrame c n f samples).link.mask.getLsbD 5 = true := by
    rw [(s.numberFrame_reach c n f samples).mask (by decide)]
    exact hmask
  unfold State.arrived State.countLevel
  dsimp only
  rw [hchannel]
  dsimp only
  rw [if_neg (by omega), if_pos hdue]
  exact State.raise_told_of_room (by exact hheard) (by exact lt_of_le_of_lt hwaiting (by omega)) _ _

theorem State.arrived_waiting (s : State) (c : ChannelId) (n f : Nat) (samples : Option (List Sample)) :
    (s.arrived c n f samples).waitingNotices ≤ s.waitingNotices + 2 := by
  have hwaiting : (s.numberFrame c n f samples).waitingNotices ≤ s.waitingNotices + 1 := State.recomputeTrim_waiting ..
  refine le_trans ?_ (Nat.add_le_add_right hwaiting 1)
  unfold State.arrived State.countLevel
  dsimp only
  split
  · exact Nat.le_succ _
  · split
    · exact State.raise_waiting ..
    · exact Nat.le_succ _

end Sys2Proof.Machine
end

section
/-! SUPPORT. Frames in ARMED and RECORDING (R5, R14 to R16, R48, R51). -/

namespace Sys2Proof.Machine

/-! ### What becomes of the channel -/

/-- A channel but for what the end of the taking of frames changes. -/
def Channel.sansEnd (ch : Channel) : Channel :=
  { ch with phase := .off, session := none, startMode := none, ring := [], fifo := [], lastFrame := none
            keypad := { ch.keypad with offRecord := none } }

theorem State.frameArrives_armed {s : State} {c : ChannelId} {n : Nat} {x : Session} (hn : (s.channels.get c).session = some n)
    (hx : s.session? n = some x) (harmed : (s.channels.get c).phase = .armed) (samples : Option (List Sample)) :
    s.frameArrives c samples = (s.arrived c n (nextFrame (s.channels.get c).arrivedHead) samples).armedFrame c n
      (nextFrame (s.channels.get c).arrivedHead) samples
      (decide ((s.channels.get c).detector.phase = .quiet)
        && decide (((s.channels.get c).detector.analyse (s.channels.get c).config samples).phase = .speech)) := by
  have hnumber : x.number = n := State.number_of_session? hx
  have hlook : s.channelSession? c = some x := by
    unfold State.channelSession?
    rw [hn]
    exact hx
  have hdetector : ((s.arrived c n (nextFrame (s.channels.get c).arrivedHead) samples).channels.get c).detector =
      (s.channels.get c).detector.analyse (s.channels.get c).config samples := by
    rw [State.arrived_channels, PerChannel.get_set_self]
    rfl
  unfold State.frameArrives
  dsimp only
  rw [hlook, harmed]
  dsimp only
  rw [hnumber, ← hdetector]
  rfl

theorem State.frameArrives_recording {s : State} {c : ChannelId} {n : Nat} {x : Session} (hn : (s.channels.get c).session = some n)
    (hx : s.session? n = some x) (hrecording : (s.channels.get c).phase = .recording) (samples : Option (List Sample)) :
    s.frameArrives c samples = (s.arrived c n (nextFrame (s.channels.get c).arrivedHead) samples).recordingFrame c x
      (nextFrame (s.channels.get c).arrivedHead) samples := by
  have hnumber : x.number = n := State.number_of_session? hx
  have hlook : s.channelSession? c = some x := by
    unfold State.channelSession?
    rw [hn]
    exact hx
  unfold State.frameArrives
  dsimp only
  rw [hlook, hrecording]
  dsimp only
  rw [hnumber]
  rfl

theorem State.frameArrives_other {s : State} {c : ChannelId} (h : (s.channels.get c).phase = .off ∨ (s.channels.get c).phase = .closing)
    (samples : Option (List Sample)) : s.frameArrives c samples = s := by
  unfold State.frameArrives
  dsimp only
  rcases h with h | h <;> rw [h] <;> cases s.channelSession? c <;> rfl

theorem State.closeArmed_channel (s : State) (c : ChannelId) (n : Nat) (why : CloseReason) (last : Option Nat) :
    (s.closeArmed c n why last).channels = s.channels.set c { (s.channels.get c).off with assembler := [], lastFrame := last } :=
  (State.freeIfDone_reach _ n).channels (by decide)

theorem State.startRecording_channel (s : State) (c : ChannelId) (n first : Nat) : (s.startRecording c n first).channels =
    s.channels.set c { s.channels.get c with phase := .recording, ring := [] } := by
  unfold State.startRecording
  exact ((State.openFirstTake_reach ..).channels (by decide)).trans
    ((State.raiseSession_reach (K := [.notice]) _ _ _ (by decide)).channels (by decide))

/-- The channel after a frame in ARMED, below the limit. -/
theorem State.armedFrame_channel {f : Nat} (hf : f ≠ Config.frameLimit) (s : State) (c : ChannelId) (n : Nat)
    (samples : Option (List Sample)) (onset : Bool) : (s.armedFrame c n f samples onset).channels.get c =
      if onset then { s.channels.get c with
        phase := .recording, ring := []
        fifo := (nextRing (s.channels.get c).ring f samples).map fun r => .preRoll r.frame r.samples }
      else { s.channels.get c with ring := nextRing (s.channels.get c).ring f samples } := by
  unfold State.armedFrame
  rw [if_neg hf]
  dsimp only
  split
  · rw [State.startRecording_channel, PerChannel.get_set_self, State.modChannel_channels, PerChannel.get_set_self]
  · rw [State.modChannel_channels, PerChannel.get_set_self]

theorem State.armedFrame_end (s : State) (c : ChannelId) (n f : Nat) (samples : Option (List Sample)) (onset : Bool) :
    ((s.armedFrame c n f samples onset).channels.get c).sansEnd = { (s.channels.get c).sansEnd with
      assembler := if f = Config.frameLimit then [] else (s.channels.get c).assembler } := by
  by_cases hf : f = Config.frameLimit
  · unfold State.armedFrame
    rw [if_pos hf, if_pos hf, State.closeArmed_channel, PerChannel.get_set_self]
    rfl
  · rw [State.armedFrame_channel hf, if_neg hf]
    split <;> rfl

/-- Beside the channels' own moves only an off-record toggle changes. -/
theorem Move.sansToggle {k : Kind} {s t : State} (h : Move k s t)
    (hk : k ∉ [Kind.keypad, .channelRun, .output, .capture, .channelConfig]) (c : ChannelId) :
    (t.channels.get c).sansToggle = (s.channels.get c).sansToggle := by
  cases h with
  | toggle d f hf =>
    rw [State.modChannel_channels]
    by_cases hc : c = d
    · subst hc
      rw [PerChannel.get_set_self]
      exact hf
    · rw [PerChannel.get_set_ne _ _ hc]
  | keypad | channelRun | output | capture | channelConfig => simp at hk
  | _ => rfl

theorem Reach.sansToggle {K : List Kind} {s t : State} (h : Reach K s t)
    (hK : ∀ k ∈ K, k ∉ [Kind.keypad, .channelRun, .output, .capture, .channelConfig]) (c : ChannelId) :
    (t.channels.get c).sansToggle = (s.channels.get c).sansToggle :=
  h.keeps (fun u => (u.channels.get c).sansToggle) fun k hk _ _ hm => hm.sansToggle (hK k hk) c

theorem State.stopTaking_channel (s : State) (c : ChannelId) (n : Nat) (why : CloseReason) :
    ((s.stopTaking c n why).channels.get c).sansToggle =
      ({ s.channels.get c with phase := .closing, assembler := [], lastFrame := s.arrivedOf n } : Channel).sansToggle := by
  have hrest : Reach [.marks, .ranges, .toggle, .notice] (s.takingEnded c n why (s.arrivedOf n)) (s.stopTaking c n why) := by
    rw [State.stopTaking_eq]
    exact ((State.fitted_reach ..).mono (by decide)).trans (State.raiseSession_reach (hK := by decide) ..)
  rw [hrest.sansToggle (by decide), State.takingEnded, State.modSession_channels, State.modChannel_channels,
    PerChannel.get_set_self]

/-- The state in which a frame in RECORDING has opened the first take or been searched for a cut. -/
def State.searched (s : State) (c : ChannelId) (x : Session) (f : Nat) : State :=
  match x.firstStored with
  | some _ => s.cutSearch x.number f (s.channels.get c).detector.quietRun
  | none => (s.modSession x.number fun y => { y with firstStored := some f }).openFirstTake x.number f

/-- The state in which the frame has joined the capture FIFO as well. -/
def State.joined (s : State) (c : ChannelId) (x : Session) (f : Nat) (samples : Option (List Sample)) : State :=
  (s.searched c x f).modChannel c fun ch => { ch with fifo := joinFifo ch.fifo f samples }

theorem State.recordingFrame_eq (s : State) (c : ChannelId) (x : Session) (f : Nat) (samples : Option (List Sample)) :
    s.recordingFrame c x f samples =
      if f = Config.frameLimit then (s.joined c x f samples).stopTaking c x.number .limit else s.joined c x f samples := rfl

theorem State.searched_reach (s : State) (c : ChannelId) (x : Session) (f : Nat) : Reach takeKinds s (s.searched c x f) := by
  unfold State.searched
  split
  · exact s.cutSearch_reach ..
  · exact (Reach.one (.session _ _ (by exact fun _ => ⟨rfl, rfl, rfl⟩)) (by decide)).trans (State.openFirstTake_reach ..)

theorem State.joined_channel (s : State) (c : ChannelId) (x : Session) (f : Nat) (samples : Option (List Sample)) :
    (s.joined c x f samples).channels.get c = { s.channels.get c with fifo := joinFifo (s.channels.get c).fifo f samples } := by
  rw [State.joined, State.modChannel_channels, PerChannel.get_set_self, (s.searched_reach c x f).channels (by decide)]

theorem State.recordingFrame_end (s : State) (c : ChannelId) (x : Session) (f : Nat) (samples : Option (List Sample)) :
    ((s.recordingFrame c x f samples).channels.get c).sansEnd = { (s.channels.get c).sansEnd with
      assembler := if f = Config.frameLimit then [] else (s.channels.get c).assembler } := by
  rw [State.recordingFrame_eq]
  split
  · have hstop := (s.joined c x f samples).stopTaking_channel c x.number .limit
    rw [State.joined_channel] at hstop
    exact (congrArg Channel.sansEnd hstop :)
  · rw [State.joined_channel]
    rfl

theorem State.recordingFrame_fifo (s : State) (c : ChannelId) (x : Session) (f : Nat) (samples : Option (List Sample)) :
    ((s.recordingFrame c x f samples).channels.get c).fifo = joinFifo (s.channels.get c).fifo f samples := by
  rw [State.recordingFrame_eq]
  split
  · have hstop := (s.joined c x f samples).stopTaking_channel c x.number .limit
    rw [State.joined_channel] at hstop
    exact (congrArg Channel.fifo hstop :)
  · rw [State.joined_channel]

end Sys2Proof.Machine
end

section
/-! SUPPORT. Completed frames (R6, R13, R16, R17): the statement about them. -/

namespace Sys2Proof.Machine

theorem State.frameArrives_noSession {s : State} {c : ChannelId} (h : s.channelSession? c = none)
    (samples : Option (List Sample)) : s.frameArrives c samples = s := by
  unfold State.frameArrives
  dsimp only
  rw [h]

/-- The channel once a frame has arrived in ARMED or RECORDING, but for what the end of the taking of frames changes. -/
theorem State.frameArrives_end {s : State} {c : ChannelId} {n : Nat} {x : Session} (hn : (s.channels.get c).session = some n)
    (hx : s.session? n = some x) (htaking : (s.channels.get c).phase = .armed ∨ (s.channels.get c).phase = .recording)
    (samples : Option (List Sample)) : ∃ assembler, (assembler = [] ∨ assembler = (s.channels.get c).assembler)
      ∧ ((s.frameArrives c samples).channels.get c).sansEnd =
        { ((s.channels.get c).arrive (nextFrame (s.channels.get c).arrivedHead) samples).sansEnd with assembler := assembler } := by
  have harrived (f : Nat) : (s.arrived c n f samples).channels.get c = (s.channels.get c).arrive f samples := by
    rw [State.arrived_channels, PerChannel.get_set_self]
  have hif (p : Prop) [Decidable p] : (if p then [] else (s.channels.get c).assembler) = []
      ∨ (if p then [] else (s.channels.get c).assembler) = (s.channels.get c).assembler := by
    split
    · exact .inl rfl
    · exact .inr rfl
  rcases htaking with harmed | hrecording
  · refine ⟨_, hif (nextFrame (s.channels.get c).arrivedHead = Config.frameLimit), ?_⟩
    rw [State.frameArrives_armed hn hx harmed, State.armedFrame_end, harrived]
    rfl
  · refine ⟨_, hif (nextFrame (s.channels.get c).arrivedHead = Config.frameLimit), ?_⟩
    rw [State.frameArrives_recording hn hx hrecording, State.recordingFrame_end, harrived]
    rfl

/-- A channel but for its assembler and for what an arrived frame changes. -/
def Channel.sansArrival (ch : Channel) : Channel :=
  { ch.sansEnd with assembler := [], arrivedHead := none, detector := Detector.reset, levelCounter := 0 }

theorem State.frameArrives_kept (s : State) (c : ChannelId) (samples : Option (List Sample)) :
    ((s.frameArrives c samples).channels.get c).sansArrival = (s.channels.get c).sansArrival
      ∧ ((s.channels.get c).assembler = [] → ((s.frameArrives c samples).channels.get c).assembler = []) := by
  by_cases htaking : (s.channels.get c).phase = .armed ∨ (s.channels.get c).phase = .recording
  · rcases hlook : s.channelSession? c with _ | x
    · rw [State.frameArrives_noSession hlook]
      exact ⟨rfl, id⟩
    · obtain ⟨n, hn, hx⟩ : ∃ n, (s.channels.get c).session = some n ∧ s.session? n = some x := by
        unfold State.channelSession? at hlook
        split at hlook
        · exact ⟨_, ‹_›, hlook⟩
        · exact nomatch hlook
      obtain ⟨assembler, hassembler, hend⟩ := State.frameArrives_end hn hx htaking samples
      refine ⟨(congrArg Channel.sansArrival hend :), fun hempty => ((congrArg Channel.assembler hend :).trans ?_)⟩
      rcases hassembler with rfl | rfl
      · rfl
      · exact hempty
  · have hother : (s.channels.get c).phase = .off ∨ (s.channels.get c).phase = .closing := by
      revert htaking
      cases (s.channels.get c).phase <;> simp
    rw [State.frameArrives_other hother]
    exact ⟨rfl, id⟩

/-- FRAME_COMPLETED when a frame is complete. -/
theorem exec_frameCompleted {s : State} {c : ChannelId} {samples : List Sample} (hlive : (s.channels.get c).input = .live)
    (hne : samples ≠ []) (hlen : ((s.channels.get c).assembler ++ samples).length = 256) :
    exec (.frameCompleted c samples) s =
      .next (State.settleAll s (s.completeFrame c ((s.channels.get c).assembler ++ samples))) := by
  rw [show exec (.frameCompleted c samples) s = execFrameCompleted c samples s from rfl, execFrameCompleted]
  exact if_pos ⟨hlive, hne, hlen⟩

/-- The channel with a completed frame as its echo source. -/
def Channel.completed (ch : Channel) (echo : Option (List Sample)) : Channel :=
  { ch with assembler := [], inputLossTimer := 0, echo := echo }

/-- Settles O47: the channel's part of a frame that arrives, read off its parts: the number and the analysis, then what ARMED or
RECORDING does with the frame. -/
theorem framesArrive : Obligations.FramesArrive := by
  unfold Obligations.FramesArrive
  intro s c samples ch frame echo hlive hne hlen
  let s₁ := s.modChannel c fun ch => ch.completed echo
  have hch : s₁.channels.get c = ch.completed echo := PerChannel.get_set_self ..
  refine ⟨s₁.frameArrives c (some frame), exec_frameCompleted hlive hne hlen, ?_⟩
  by_cases hidle : ch.phase = .off ∨ ch.phase = .closing
  · have hsame : s₁.frameArrives c (some frame) = s₁ := State.frameArrives_other (by rw [hch]; exact hidle) _
    dsimp only
    rw [hsame, hch]
    refine ⟨rfl, rfl, rfl, rfl, fun _ => rfl, fun n x _ _ htaking => ?_⟩
    rcases hidle with h | h <;> rw [h] at htaking <;> simp at htaking
  have htaking : ch.phase = .armed ∨ ch.phase = .recording := by
    revert hidle
    cases ch.phase <;> simp
  refine and_assoc.mp (and_assoc.mp (and_assoc.mp ⟨?_, fun h => absurd h hidle, ?_⟩))
  · have hkept := s₁.frameArrives_kept c (some frame)
    rw [hch] at hkept
    obtain ⟨hrest, hempty⟩ := hkept
    exact ⟨⟨⟨hempty rfl, (congrArg Channel.inputLossTimer hrest :)⟩, (congrArg Channel.echo hrest :)⟩,
      (congrArg Channel.config hrest :)⟩
  · intro n x hn hx _
    have hn₁ : (s₁.channels.get c).session = some n := by rw [hch]; exact hn
    obtain ⟨_, _, hend⟩ := State.frameArrives_end hn₁ hx (by rw [hch]; exact htaking) (some frame)
    rw [hch] at hend
    refine ⟨(congrArg Channel.arrivedHead hend :), (congrArg Channel.detector hend :), fun hrecording => ?_⟩
    have hfifo : ((s₁.frameArrives c (some frame)).channels.get c).fifo = joinFifo ch.fifo (nextFrame ch.arrivedHead) (some frame) := by
      rw [State.frameArrives_recording hn₁ hx (by rw [hch]; exact hrecording), State.recordingFrame_fifo, State.arrived_channels,
        PerChannel.get_set_self, hch]
      rfl
    rw [hfifo]
    unfold joinFifo nextFrame
    dsimp only [Config.fifoOrdinary]
    by_cases hroom : ch.fifo.countP CaptureEntry.isOrdinary < 4
    · exact (if_pos hroom).trans (congrArg (fun e => ch.fifo ++ [e]) (if_pos hroom)).symm
    · exact (if_neg hroom).trans (congrArg (fun e => ch.fifo ++ [e]) (if_neg hroom)).symm

end Sys2Proof.Machine
end

section
/-! SUPPORT. Frames counted lost, and the loss and return of an input (R7, R8). -/

namespace Sys2Proof.Machine

theorem State.countLostFrames_kept (s : State) (c : ChannelId) (k : Nat) :
    ((s.countLostFrames c k).channels.get c).sansArrival = (s.channels.get c).sansArrival
      ∧ ((s.channels.get c).assembler = [] → ((s.countLostFrames c k).channels.get c).assembler = []) := by
  induction k generalizing s with
  | zero => exact ⟨rfl, id⟩
  | succ k ih =>
    unfold State.countLostFrames
    split
    · obtain ⟨hrest, hempty⟩ := s.frameArrives_kept c none
      obtain ⟨hrest', hempty'⟩ := ih (s.frameArrives c none)
      exact ⟨hrest'.trans hrest, fun h => hempty' (hempty h)⟩
    · exact ⟨rfl, id⟩

theorem State.countLostFrames_other {s : State} {c : ChannelId}
    (h : (s.channels.get c).phase = .off ∨ (s.channels.get c).phase = .closing) (k : Nat) : s.countLostFrames c k = s := by
  induction k with
  | zero => rfl
  | succ k ih =>
    unfold State.countLostFrames
    rw [State.frameArrives_other h, ih, ite_self]

/-- A session stays in the table as long as none is freed or opened. -/
theorem Reach.session?_some {K : List Kind} {s t : State} (h : Reach K s t) (hK : Kind.sessionOpen ∉ K) (hK' : Kind.sessionGone ∉ K)
    {n : Nat} {x : Session} (hx : s.session? n = some x) : ∃ y, t.session? n = some y := by
  refine Option.ne_none_iff_exists'.mp fun hnone => ?_
  rw [State.session?_eq_none, h.numbers hK hK', ← State.session?_eq_none] at hnone
  exact nomatch hx.symm.trans hnone

/-- A frame counted lost in RECORDING, below the limit: it takes the next number and joins the FIFO. -/
theorem State.frameArrives_lost {s : State} {c : ChannelId} {n : Nat} {x : Session} {h : Nat}
    (hn : (s.channels.get c).session = some n) (hx : s.session? n = some x) (hrecording : (s.channels.get c).phase = .recording)
    (hhead : (s.channels.get c).arrivedHead = some h) (hf : h + 1 ≠ Config.frameLimit) :
    (s.frameArrives c none).channels.get c = { (s.channels.get c).arrive (h + 1) none with
        fifo := (s.channels.get c).fifo ++ [.lost (h + 1) .input] }
      ∧ ∃ y, (s.frameArrives c none).session? n = some y := by
  have harrives := State.frameArrives_recording hn hx hrecording none
  have hnext : nextFrame (s.channels.get c).arrivedHead = h + 1 := by
    rw [hhead]
    rfl
  rw [hnext, State.recordingFrame_eq, if_neg hf] at harrives
  have hreach : Reach (.channelRun :: .capture :: .session :: takeKinds) s (s.frameArrives c none) := by
    rw [harrives]
    exact ((State.arrived_reach ..).mono (by decide)).trans (((State.searched_reach ..).mono (by decide)).trans
      (.one (.channelRun _ _ (by rfl)) (by decide)))
  refine ⟨?_, hreach.session?_some (by decide) (by decide) hx⟩
  rw [harrives, State.joined_channel, State.arrived_channels, PerChannel.get_set_self]
  rfl

/-- The entries of `k` frames counted lost after frame `h`. -/
def lostEntries (h : Nat) : Nat → List CaptureEntry
  | 0 => []
  | k + 1 => .lost (h + 1) .input :: lostEntries (h + 1) k

theorem State.countLostFrames_recording {c : ChannelId} {n k : Nat} {s : State} {x : Session} {h : Nat}
    (hn : (s.channels.get c).session = some n) (hx : s.session? n = some x) (hrecording : (s.channels.get c).phase = .recording)
    (hhead : (s.channels.get c).arrivedHead = some h) (hf : h + k < Config.frameLimit) :
    ((s.countLostFrames c k).channels.get c).arrivedHead = some (h + k)
      ∧ ((s.countLostFrames c k).channels.get c).fifo = (s.channels.get c).fifo ++ lostEntries h k := by
  induction k generalizing s x h with
  | zero => exact ⟨hhead, (List.append_nil _).symm⟩
  | succ k ih =>
    obtain ⟨hchannel, y, hy⟩ := State.frameArrives_lost hn hx hrecording hhead (by omega)
    have hnext := ih (s := s.frameArrives c none) (x := y) (h := h + 1) (by rw [hchannel]; exact hn) hy
      (by rw [hchannel]; exact hrecording) (by rw [hchannel]; rfl) (by omega)
    rw [State.countLostFrames, if_pos (by rw [hrecording]; rfl)]
    refine ⟨hnext.1.trans (congrArg some (by omega)), hnext.2.trans ?_⟩
    rw [hchannel]
    exact List.append_assoc ..

/-- Settles O49: the frames counted lost leave the input and its tick, number themselves in RECORDING, and are none in OFF and
CLOSING. -/
theorem inputLossAndReturn : Obligations.InputLossAndReturn := by
  unfold Obligations.InputLossAndReturn
  intro s c ch taking
  refine ⟨fun hlive => ?_, fun hlost => ?_, fun sample hlost => ?_⟩
  · have hch : (s.loseInput c).channels.get c =
        { ch with input := .lost, assembler := [], inputLossTimer := 48, lostTick := some 0 } := PerChannel.get_set_self ..
    obtain ⟨hrest, hempty⟩ := (s.loseInput c).countLostFrames_kept c 3
    rw [hch] at hrest hempty
    refine ⟨(s.loseInput c).countLostFrames c 3, ?_, (congrArg Channel.input hrest :), hempty rfl,
      (congrArg Channel.lostTick hrest :), fun hidle => ?_, fun x h ⟨hrecording, hn, hx, hhead⟩ hlimit => ?_⟩
    · rw [show exec (.inputLossTimerExpiry c) s = execInputLossTimerExpiry c s from rfl, execInputLossTimerExpiry, hlive]
    · rw [State.countLostFrames_other (by rw [hch]; exact hidle)]
      exact ⟨State.raise_offLine .., fun hears => State.raise_told (by exact hears) _ _⟩
    · have hcount := State.countLostFrames_recording (s := s.loseInput c) (k := 3) (by rw [hch]; exact hn) (by exact hx)
        (by rw [hch]; exact hrecording) (by rw [hch]; exact hhead) hlimit
      rw [hch] at hcount
      exact hcount
  · have hch : (s.modChannel c fun ch => { ch with lostTick := some 0 }).channels.get c =
        { ch with lostTick := some 0 } := PerChannel.get_set_self ..
    obtain ⟨hrest, _⟩ := (s.modChannel c fun ch => { ch with lostTick := some 0 }).countLostFrames_kept c 1
    rw [hch] at hrest
    refine ⟨(s.modChannel c fun ch => { ch with lostTick := some 0 }).countLostFrames c 1, ?_,
      (congrArg Channel.lostTick hrest :), (congrArg Channel.input hrest :).trans hlost, fun hidle => ?_,
      fun x h ⟨hrecording, hn, hx, hhead⟩ hlimit => ?_⟩
    · rw [show exec (.lostFrameTick c) s = execLostFrameTick c s from rfl, execLostFrameTick, hlost]
    · exact State.countLostFrames_other (by rw [hch]; exact hidle) 1
    · have hcount := State.countLostFrames_recording (s := s.modChannel c fun ch => { ch with lostTick := some 0 }) (k := 1)
        (by rw [hch]; exact hn) (by exact hx) (by rw [hch]; exact hrecording) (by rw [hch]; exact hhead) hlimit
      rw [hch] at hcount
      exact hcount
  · refine ⟨State.finish s (s.returnInput c sample), ?_, ?_, fun hears => ?_⟩
    · rw [show exec (.inputReturned c sample) s = execInputReturned c sample s from rfl, execInputReturned, hlost]
    · rw [State.finish_offLine]
      exact State.raise_offLine ..
    · exact State.finish_told s (State.raise_told (by exact hears) _ _)

end Sys2Proof.Machine
end

section
/-! SUPPORT. The output of a channel at its frame time (R17, R158). -/

namespace Sys2Proof.Machine

theorem Channel.playMode_eq (ch : Channel) : ch.playMode =
    ch.play (match ch.config.outputMode with | .echo => .echo | .quiet => .quiet)
      (if ch.config.outputMode = .echo ∧ ch.input = .live then ch.echo else none) := by
  unfold Channel.playMode
  cases ch.config.outputMode
  · cases ch.input <;> rfl
  · rfl

theorem State.endEntry_channels (s : State) (c : ChannelId) (e : ReadbackEvent) : (s.endEntry c e).channels = s.channels :=
  (s.endEntry_reach c e).channels (by decide)

/-- While an entry plays with nothing buffered the output is silent, or the entry has ended and the output mode decides. -/
theorem State.readbackFrame_empty {s : State} {c : ChannelId} (hfifo : (s.readback.get c).fifo = []) :
    (s.readbackFrame c).channels = s.channels.set c ((s.channels.get c).play .readback none)
      ∨ (s.readback.get c).finished = true ∧ (s.readbackFrame c).channels = s.channels.set c (s.channels.get c).playMode := by
  unfold State.readbackFrame
  dsimp only
  rw [hfifo]
  dsimp only
  split
  · rename_i hfinished
    split
    · rw [State.modChannel_channels, State.endEntry_channels]
      exact .inl rfl
    · rw [State.modChannel_channels, State.endEntry_channels]
      exact .inr ⟨hfinished, rfl⟩
  · split <;> exact .inl rfl

theorem State.readbackFrame_underrun {s : State} {c : ChannelId} (hfifo : (s.readback.get c).fifo = [])
    (hfinished : (s.readback.get c).finished = false) (hreader : (s.readback.get c).reader ≠ .waiting) :
    s.readbackFrame c = (s.modReadback c fun u => { u with underruns := min 65535 (u.underruns + 1) }).modChannel c fun ch =>
      ch.play .readback none := by
  unfold State.readbackFrame
  dsimp only
  rw [hfifo, hfinished]
  exact if_neg hreader

theorem State.readbackFrame_head {s : State} {c : ChannelId} {e : ReadbackFrame} {rest : List ReadbackFrame}
    (hfifo : (s.readback.get c).fifo = e :: rest) : s.readbackFrame c = (s.modReadback c fun _ =>
      if e.samples.isSome then (s.readback.get c).pop.countPlayed else (s.readback.get c).pop).modChannel c fun ch =>
        ch.play .readback e.samples := by
  unfold State.readbackFrame
  dsimp only
  rw [hfifo]

/-- At an output frame time the output is set, the echo source passed, and no other channel touched. -/
theorem State.readbackFrame_plays (s : State) (c : ChannelId) : ∃ source frame,
    (s.readbackFrame c).channels = s.channels.set c ((s.channels.get c).play source frame) := by
  rcases hfifo : (s.readback.get c).fifo with _ | ⟨e, rest⟩
  · rcases State.readbackFrame_empty hfifo with h | ⟨_, h⟩
    · exact ⟨_, _, h⟩
    · rw [Channel.playMode_eq] at h
      exact ⟨_, _, h⟩
  · rw [State.readbackFrame_head hfifo]
    exact ⟨_, _, rfl⟩

/-- Settles O50: the cases of the output frame time, one lemma each. -/
theorem outputFollowsItsSource : Obligations.OutputFollowsItsSource := by
  unfold Obligations.OutputFollowsItsSource
  intro s c ch u
  have hexec : exec (.channelOutputFrameTime c) s = .next (State.settleAll s (match (s.readback.get c).current with
      | some _ => s.readbackFrame c
      | none => s.modChannel c Channel.playMode)) := rfl
  rcases hcurrent : (s.readback.get c).current with _ | k
  · refine ⟨s.modChannel c Channel.playMode, by rw [hexec, hcurrent], ?_⟩
    have hch : (s.modChannel c Channel.playMode).channels.get c = ch.playMode := PerChannel.get_set_self ..
    dsimp only
    rw [hch, Channel.playMode_eq]
    refine ⟨rfl, rfl, fun d hd => ?_, fun _ => ?_, (fun _ _ _ hk => nomatch hk),
      (fun _ hk => nomatch hk), (fun _ hk => nomatch hk)⟩
    · rw [State.modChannel_channels, PerChannel.get_set_ne _ _ hd]
    · have hfun : Channel.playMode = fun ch => ch.play (match ch.config.outputMode with | .echo => .echo | .quiet => .quiet)
          (if ch.config.outputMode = .echo ∧ ch.input = .live then ch.echo else none) := funext Channel.playMode_eq
      rw [hfun]
      rfl
  · refine ⟨s.readbackFrame c, by rw [hexec, hcurrent], ?_⟩
    obtain ⟨source, frame, hplays⟩ := s.readbackFrame_plays c
    dsimp only
    refine ⟨?_, ?_, fun d hd => ?_, (fun h => nomatch h), fun k' e rest hk hfifo => ?_,
      fun _ _ hfifo => ?_, fun _ _ hfifo hfinished hreader => ?_⟩
    · rw [hplays, PerChannel.get_set_self]
      rfl
    · rw [hplays, PerChannel.get_set_self]
      rfl
    · rw [hplays, PerChannel.get_set_ne _ _ hd]
    · have hu : (s.readback.get c).current = some k' := hcurrent.trans hk
      rw [State.readbackFrame_head hfifo, State.modChannel_channels, PerChannel.get_set_self]
      refine ⟨rfl, rfl, ?_, ?_, rfl, rfl⟩
      · show ((s.readback.set c _).get c).fifo = rest
        rw [PerChannel.get_set_self]
        refine Eq.trans ?_ (congrArg List.tail hfifo)
        split <;> rfl
      · show ((s.readback.set c _).get c).current = _
        rw [PerChannel.get_set_self]
        split
        · exact congrArg (Option.map fun k => { k with played := k.played + 1 }) hu
        · exact hu
    · rcases State.readbackFrame_empty hfifo with h | ⟨hfinished, h⟩
      · rw [h, PerChannel.get_set_self]
        exact .inl rfl
      · rw [h, PerChannel.get_set_self, Channel.playMode_eq]
        cases ch.config.outputMode
        · exact .inr ⟨hfinished, rfl⟩
        · exact .inl rfl
    · rw [State.readbackFrame_underrun hfifo hfinished hreader, State.modChannel_channels, PerChannel.get_set_self]
      refine ⟨rfl, ?_⟩
      show ((s.readback.set c _).get c).underruns = _
      rw [PerChannel.get_set_self]

end Sys2Proof.Machine
end

section
/-! SUPPORT. The session of a channel as its frames arrive: the first take, the cuts, the close at the limit (R48, R51 to R59). -/

namespace Sys2Proof.Machine

/-! ### A session's entry but for its trim point -/

/-- Session `n` is in the table and is `x` but for its trim point and gap run. -/
def State.holdsSession (s : State) (n : Nat) (x : Session) : Prop := ∃ z, s.session? n = some z ∧ z.sansTrim = x.sansTrim

theorem State.holdsSession_of {s : State} {n : Nat} {x : Session} (hx : s.session? n = some x) : s.holdsSession n x := ⟨x, hx, rfl⟩

theorem State.holdsSession.reach {K : List Kind} {s t : State} {n : Nat} {x : Session} (hx : s.holdsSession n x) (h : Reach K s t)
    (hK : ∀ k ∈ K, k ∉ [Kind.session, .sessionMarks, .takeCount, .sessionGone, .sessionOpen]) : t.holdsSession n x := by
  obtain ⟨z, hz, hzx⟩ := hx
  have hsame := h.session?_sansTrim hK n
  rw [hz, Option.map_some] at hsame
  obtain ⟨w, hw, hwz⟩ := Option.map_eq_some_iff.mp hsame
  exact ⟨w, hw, hwz.trans hzx⟩

theorem State.holdsSession.mod {s : State} {n : Nat} {x : Session} (hx : s.holdsSession n x) {f : Session → Session}
    (hf : ∀ z, (f z).sansTrim = (f z.sansTrim).sansTrim) (hnumber : ∀ z, (f z).number = z.number) :
    (s.modSession n f).holdsSession n (f x) := by
  obtain ⟨z, hz, hzx⟩ := hx
  exact ⟨f z, State.session?_modSession hz hnumber, by rw [hf z, hzx, ← hf x]⟩

/-! ### Takes opened -/

/-- A session with its next take open. -/
def Session.withTake (x : Session) : Session :=
  { x with takeCount := x.takeCount + 1, openTake := some (x.takeCount + 1), reserved := false }

theorem State.openFirstTake_holds {s : State} {n : Nat} {x : Session} (hx : s.holdsSession n x) (first : Nat) :
    (s.openFirstTake n first).holdsSession n x.withTake := by
  obtain ⟨z, hz, hzx⟩ := hx
  have hopening := State.openTake_reach_opening hz first first
  have hset : (s.opening n (newTake z first first (s.lostFrom z first))).session? n = some z.withTake :=
    State.session?_modSession (s := s.setTakes _) hz fun _ => rfl
  have hopened : (s.openTake n first first).holdsSession n x.withTake :=
    State.holdsSession.reach ⟨z.withTake, hset, (congrArg (fun y => (Session.withTake y).sansTrim) hzx :)⟩ hopening (by decide)
  have hrest : Reach dispatchKinds (s.openTake n first first) (s.openFirstTake n first) := by
    unfold State.openFirstTake
    dsimp only
    split
    · exact .thenIf .refl fun _ => State.handOver_reach ..
    · exact .refl
  exact hopened.reach hrest (by decide)

theorem State.startRecording_holds {s : State} {n : Nat} {x : Session} (hx : s.holdsSession n x) (c : ChannelId) (first : Nat) :
    (s.startRecording c n first).holdsSession n
      ({ x with phase := .recording, firstStored := some first } : Session).withTake := by
  have hset : ((s.modChannel c fun ch => { ch with phase := .recording, ring := [] }).modSession n fun x =>
      { x with phase := .recording, firstStored := some first }).holdsSession n
        { x with phase := .recording, firstStored := some first } :=
    State.holdsSession.mod (s := s.modChannel c _) hx (fun _ => rfl) fun _ => rfl
  exact State.openFirstTake_holds (hset.reach (State.raiseSession_reach (K := [.notice]) _ _ _ (by decide)) (by decide)) first

/-! ### The close at the limit -/

/-- A session without what the end of the taking of frames changes. -/
def Session.sansClose (x : Session) : Session :=
  { x.sansTrim with phase := .closing, closeReason := none, lastFrame := none }

theorem State.stopTaking_session? {s : State} {n : Nat} {x : Session} (hx : s.session? n = some x) (c : ChannelId)
    (why : CloseReason) : ∃ y, (s.stopTaking c n why).session? n = some y ∧ y.sansClose = x.sansClose := by
  have hrest : Reach [.marks, .ranges, .toggle, .notice] (s.takingEnded c n why (s.arrivedOf n)) (s.stopTaking c n why) := by
    rw [State.stopTaking_eq]
    exact ((State.fitted_reach ..).mono (by decide)).trans (State.raiseSession_reach (hK := by decide) ..)
  refine ⟨{ x with phase := .closing, closeReason := some why, lastFrame := s.arrivedOf n }, ?_, rfl⟩
  rw [State.session?, hrest.sessions (by decide)]
  exact State.takingEnded_session? hx c why (s.arrivedOf n)

/-! ### What a frame in RECORDING sets off -/

/-- After the first take or the cut search the FIFO, and at the limit the close, follow. -/
theorem State.searched_reach_frame (s : State) (c : ChannelId) (x : Session) (f : Nat) (samples : Option (List Sample)) :
    Reach frameKinds (s.searched c x f) (s.recordingFrame c x f samples) := by
  rw [State.recordingFrame_eq]
  have hjoin : Reach frameKinds (s.searched c x f) (s.joined c x f samples) := .one (.channelRun _ _ (by rfl)) (by decide)
  split
  · exact hjoin.trans ((State.stopTaking_reach ..).mono (by decide))
  · exact hjoin

theorem State.recordingFrame_takes (s : State) (c : ChannelId) (x : Session) (f : Nat) (samples : Option (List Sample)) :
    (s.recordingFrame c x f samples).takes = (s.searched c x f).takes := by
  rw [State.recordingFrame_eq]
  split
  · exact (State.stopTaking_reach ..).takes (by decide)
  · rfl

theorem State.recordingFrame_session? {s : State} {c : ChannelId} {x y : Session} {f : Nat}
    (hy : (s.searched c x f).holdsSession x.number y) (samples : Option (List Sample)) :
    ∃ z, (s.recordingFrame c x f samples).session? x.number = some z ∧ z.sansClose = y.sansClose := by
  obtain ⟨w, hw, hwy⟩ := hy
  have hclose : w.sansClose = y.sansClose := (congrArg Session.sansClose hwy :)
  have hjoin : (s.joined c x f samples).session? x.number = some w := hw
  rw [State.recordingFrame_eq]
  split
  · obtain ⟨z, hz, hzw⟩ := State.stopTaking_session? hjoin c .limit
    exact ⟨z, hz, hzw.trans hclose⟩
  · exact ⟨w, hjoin, hclose⟩

/-! ### The cut search, its outcomes -/

section
variable {s : State} {n m f quiet : Nat} {x : Session} {t : Take} (hx : s.session? n = some x) (hm : x.openTake = some m)
  (ht : s.take? ⟨n, m⟩ = some t)
include hx hm ht

theorem State.cutSearch_below (hf : f < t.core) : s.cutSearch n f quiet = s := by
  unfold State.cutSearch
  rw [hx]
  dsimp only
  rw [hm]
  dsimp only
  rw [ht]
  exact if_pos hf

theorem State.cutSearch_eq (hf : ¬ f < t.core) : s.cutSearch n f quiet =
    match dueCut x t.core f quiet (s.readback.get x.channel).current.isSome with
    | some (c, k) =>
      if 65535 ≤ x.takeCount then s
      else if s.takesFree = 0 then s.extendTake x m
      else s.makeCut n c k
    | none => s := by
  unfold State.cutSearch
  rw [hx]
  dsimp only
  rw [hm]
  dsimp only
  rw [ht]
  exact if_neg hf

end

theorem State.extendTake_takes (s : State) (x : Session) (m : Nat) : (s.extendTake x m).takes = s.takes := by
  unfold State.extendTake
  split <;> rfl

theorem State.extendTake_holds {s : State} {x : Session} (hx : s.session? x.number = some x) (m : Nat) :
    (s.extendTake x m).holdsSession x.number { x with extensionReported := true } := by
  unfold State.extendTake
  split
  · rename_i h
    exact ⟨x, hx, by rw [← h]⟩
  · exact State.holdsSession.mod (State.holdsSession_of hx) (fun _ => rfl) fun _ => rfl

theorem State.extendTake_told {s : State} {x : Session} (hnew : x.extensionReported = false)
    (hmask : s.link.mask.getLsbD 7 = true) (hroom : s.waitingNotices < 255) (m : Nat) :
    (s.extendTake x m).told .table (.table .takes) := by
  unfold State.extendTake
  rw [if_neg (by rw [hnew]; exact Bool.false_ne_true)]
  exact State.raise_told_of_room (by exact hmask) (by exact hroom) _ _

end Sys2Proof.Machine
end

section
/-! SUPPORT. What a completed frame sets off (R14, R15, R18, R47 to R59). -/

namespace Sys2Proof.Machine

section
variable {s : State} {c : ChannelId} {n : Nat} {x : Session}

/-! ### LEVEL -/

section
variable (hn : (s.channels.get c).session = some n) (hx : s.session? n = some x)
include hn hx

/-- What follows the numbering of a frame sends nothing. -/
theorem State.arrived_reach_frameArrives (htaking : (s.channels.get c).phase = .armed ∨ (s.channels.get c).phase = .recording)
    (samples : Option (List Sample)) :
    Reach frameKinds (s.arrived c n (nextFrame (s.channels.get c).arrivedHead) samples) (s.frameArrives c samples) := by
  rcases htaking with harmed | hrecording
  · rw [State.frameArrives_armed hn hx harmed]
    exact State.armedFrame_reach ..
  · rw [State.frameArrives_recording hn hx hrecording]
    exact State.recordingFrame_reach ..

theorem State.frameArrives_levelCounter (htaking : (s.channels.get c).phase = .armed ∨ (s.channels.get c).phase = .recording)
    (samples : Option (List Sample)) : ((s.frameArrives c samples).channels.get c).levelCounter =
      nextLevelCount (s.channels.get c).config.levelPeriod (s.channels.get c).levelCounter := by
  obtain ⟨_, _, hend⟩ := State.frameArrives_end hn hx htaking samples
  exact (congrArg Channel.levelCounter hend :)

theorem State.frameArrives_told (htaking : (s.channels.get c).phase = .armed ∨ (s.channels.get c).phase = .recording)
    (hperiod : 0 < (s.channels.get c).config.levelPeriod)
    (hdue : (s.channels.get c).config.levelPeriod ≤ (s.channels.get c).levelCounter + 1)
    (hmask : s.link.mask.getLsbD 5 = true) (hroom : s.waitingNotices + 2 ≤ 255) (samples : Option (List Sample)) :
    (s.frameArrives c samples).told .level (.channel c) :=
  (State.arrived_reach_frameArrives hn hx htaking samples).told (by decide) (State.arrived_told hperiod hdue hmask hroom)

/-! ### ARMED -/

/-- A frame in ARMED that is no onset joins the ring. -/
theorem State.frameArrives_ring (harmed : (s.channels.get c).phase = .armed) {samples : Option (List Sample)}
    (hf : nextFrame (s.channels.get c).arrivedHead ≠ Config.frameLimit)
    (honset : ¬ ((s.channels.get c).detector.phase = .quiet
      ∧ ((s.channels.get c).detector.analyse (s.channels.get c).config samples).phase = .speech)) :
    (s.frameArrives c samples).channels.get c = { (s.channels.get c).arrive (nextFrame (s.channels.get c).arrivedHead) samples with
        ring := nextRing (s.channels.get c).ring (nextFrame (s.channels.get c).arrivedHead) samples }
      ∧ (s.frameArrives c samples).takes = s.takes := by
  rw [State.frameArrives_armed hn hx harmed]
  have hfalse : (decide ((s.channels.get c).detector.phase = .quiet)
      && decide (((s.channels.get c).detector.analyse (s.channels.get c).config samples).phase = .speech)) = false := by
    rw [Bool.eq_false_iff, Ne, Bool.and_eq_true, decide_eq_true_eq, decide_eq_true_eq]
    exact honset
  refine ⟨?_, ?_⟩
  · rw [State.armedFrame_channel hf, hfalse, State.arrived_channels, PerChannel.get_set_self]
    rfl
  · unfold State.armedFrame
    rw [if_neg hf, hfalse]
    exact (State.arrived_reach ..).takes (by decide)

/-- The onset starts recording at the oldest frame of the ring (R15). -/
theorem State.frameArrives_onset (harmed : (s.channels.get c).phase = .armed) {samples : Option (List Sample)}
    (hf : nextFrame (s.channels.get c).arrivedHead ≠ Config.frameLimit)
    (honset : (s.channels.get c).detector.phase = .quiet
      ∧ ((s.channels.get c).detector.analyse (s.channels.get c).config samples).phase = .speech) {first : RingFrame}
    (hring : (nextRing (s.channels.get c).ring (nextFrame (s.channels.get c).arrivedHead) samples).head? = some first) :
    (s.frameArrives c samples).channels.get c = { (s.channels.get c).arrive (nextFrame (s.channels.get c).arrivedHead) samples with
        phase := .recording, ring := []
        fifo := (nextRing (s.channels.get c).ring (nextFrame (s.channels.get c).arrivedHead) samples).map fun r =>
          .preRoll r.frame r.samples }
      ∧ ∃ y, (s.frameArrives c samples).session? n = some y ∧ y.phase = .recording ∧ y.firstStored = some first.frame
        ∧ y.takeCount = x.takeCount + 1 ∧ y.openTake = some (x.takeCount + 1) := by
  rw [State.frameArrives_armed hn hx harmed]
  have htrue : (decide ((s.channels.get c).detector.phase = .quiet)
      && decide (((s.channels.get c).detector.analyse (s.channels.get c).config samples).phase = .speech)) = true := by
    rw [Bool.and_eq_true, decide_eq_true_eq, decide_eq_true_eq]
    exact honset
  have hchannel := s.arrived_channels c n (nextFrame (s.channels.get c).arrivedHead) samples
  refine ⟨?_, ?_⟩
  · rw [State.armedFrame_channel hf, htrue, hchannel, PerChannel.get_set_self]
    rfl
  · obtain ⟨y, hy, hyx⟩ := State.startRecording_holds (s := (s.arrived c n (nextFrame (s.channels.get c).arrivedHead)
      samples).modChannel c fun ch => { ch with
        fifo := (nextRing (s.channels.get c).ring (nextFrame (s.channels.get c).arrivedHead) samples).map fun r =>
          .preRoll r.frame r.samples }) (State.arrived_session? hx c (nextFrame (s.channels.get c).arrivedHead) samples) c first.frame
    refine ⟨y, ?_, (congrArg Session.phase hyx :), (congrArg Session.firstStored hyx :), (congrArg Session.takeCount hyx :),
      (congrArg Session.openTake hyx :)⟩
    unfold State.armedFrame
    rw [if_neg hf, htrue]
    dsimp only
    rw [hchannel, PerChannel.get_set_self, if_pos rfl]
    show ((State.startRecording _ c n (Option.getD (Option.map _
      (nextRing (s.channels.get c).ring (nextFrame (s.channels.get c).arrivedHead) samples).head?) _)).session? n = some y)
    rw [hring]
    exact hy

/-! ### RECORDING -/

/-- The first frame in RECORDING opens the first take (R48). -/
theorem State.frameArrives_first (hrecording : (s.channels.get c).phase = .recording) (hfirst : x.firstStored = none)
    (samples : Option (List Sample)) : ∃ y, (s.frameArrives c samples).session? n = some y
      ∧ y.firstStored = some (nextFrame (s.channels.get c).arrivedHead)
      ∧ y.takeCount = x.takeCount + 1 ∧ y.openTake = some (x.takeCount + 1) := by
  obtain rfl := State.number_of_session? hx
  rw [State.frameArrives_recording hn hx hrecording]
  have hset := State.holdsSession.mod (State.arrived_session? hx c (nextFrame (s.channels.get c).arrivedHead) samples)
    (f := fun y => { y with firstStored := some (nextFrame (s.channels.get c).arrivedHead) }) (fun _ => rfl) fun _ => rfl
  have hopened : ((s.arrived c x.number (nextFrame (s.channels.get c).arrivedHead) samples).searched c x
      (nextFrame (s.channels.get c).arrivedHead)).holdsSession x.number (Session.withTake { x with
        arrivedHead := some (nextFrame (s.channels.get c).arrivedHead), planInForce := x.plan
        firstStored := some (nextFrame (s.channels.get c).arrivedHead) }) := by
    unfold State.searched
    rw [hfirst]
    exact State.openFirstTake_holds hset _
  obtain ⟨y, hy, hyx⟩ := State.recordingFrame_session? hopened samples
  exact ⟨y, hy, (congrArg Session.firstStored hyx :), (congrArg Session.takeCount hyx :), (congrArg Session.openTake hyx :)⟩

end

/-! ### The search for a cut -/

/-- A later frame in RECORDING is searched for a cut. -/
theorem State.searched_later (hx : s.session? n = some x) {a : Nat} (hfirst : x.firstStored = some a) (f : Nat)
    (samples : Option (List Sample)) : (s.arrived c n f samples).searched c x f = (s.arrived c n f samples).cutSearch n f
      ((s.channels.get c).detector.analyse (s.channels.get c).config samples).quietRun := by
  unfold State.searched
  rw [hfirst]
  dsimp only
  rw [State.number_of_session? hx, State.arrived_channels, PerChannel.get_set_self]
  rfl

end

/-- The cut due, in the words of R50 to R56. -/
theorem dueCut_eq (y : Session) (core f quiet : Nat) (playing : Option ReadbackCurrent) :
    dueCut y core f quiet playing.isSome =
      if y.forcedPending = true ∧ 32 ≤ f + 1 - core ∧ f ≠ 5399999 then some (f + 1, .forced)
      else if y.planInForce.nominal ≤ f + 1 - core ∧ y.planInForce.pause ≤ quiet ∧ playing = none then
        some (f + 1 - (y.planInForce.pause + 1) / 2, .soft)
      else if y.planInForce.nominal + y.planInForce.grace ≤ f + 1 - core ∧ f ≠ 5399999 then some (f + 1, .hard)
      else none := by
  have hplaying : (!playing.isSome) = decide (playing = none) := by cases playing <;> rfl
  unfold dueCut
  rw [hplaying]
  simp only [Bool.and_eq_true, decide_eq_true_eq, Bool.not_eq_true', decide_eq_false_iff_not, and_assoc]
  rfl

end Sys2Proof.Machine
end

section
/-! SUPPORT. The cut search on a frame, and the statement about what a frame sets off (R47 to R59). -/

namespace Sys2Proof.Machine

/-- The cut that falls due on frame `f`, which the session's plan governs from its arrival on (R50, R51). -/
def searchedCut (x : Session) (core f quiet : Nat) (playing : Option ReadbackCurrent) : Option (Nat × CutKind) :=
  if f < core then none else dueCut { x with planInForce := x.plan } core f quiet playing.isSome

section
variable {s : State} {c : ChannelId} {n m a : Nat} {x : Session} {k : Take} (hx : s.session? n = some x) (hc : x.channel = c)
  (hfirst : x.firstStored = some a) (hm : x.openTake = some m) (hk : s.take? ⟨n, m⟩ = some k) (f : Nat)
  (samples : Option (List Sample))
include hx hc hfirst hm hk

/-- The cut search on an arrived frame: nothing is due, the take is extended, or it is cut. -/
theorem State.searched_cases : ∃ x', (s.arrived c n f samples).session? n = some x'
    ∧ x'.sansTrim = { x with arrivedHead := some f, planInForce := x.plan }.sansTrim
    ∧ (searchedCut x k.core f ((s.channels.get c).detector.analyse (s.channels.get c).config samples).quietRun
        (s.readback.get c).current = none → (s.arrived c n f samples).searched c x f = s.arrived c n f samples)
    ∧ ∀ cut kind, searchedCut x k.core f ((s.channels.get c).detector.analyse (s.channels.get c).config samples).quietRun
        (s.readback.get c).current = some (cut, kind) → x.takeCount < 65535 → (s.arrived c n f samples).searched c x f =
          if s.takesFree = 0 then (s.arrived c n f samples).extendTake x' m else (s.arrived c n f samples).makeCut n cut kind := by
  obtain ⟨x', hx', hxx⟩ := State.arrived_session? hx c f samples
  have hm' : x'.openTake = some m := (congrArg Session.openTake hxx :).trans hm
  have htakes : (s.arrived c n f samples).takes = s.takes := (State.arrived_reach ..).takes (by decide)
  have hk' : (s.arrived c n f samples).take? ⟨n, m⟩ = some k := by
    rw [State.take?, htakes]
    exact hk
  have hchannel : x'.channel = c := (congrArg Session.channel hxx :).trans hc
  have hcount : x'.takeCount = x.takeCount := (congrArg Session.takeCount hxx :)
  have hdue (quiet : Nat) (b : Bool) : dueCut x' k.core f quiet b = dueCut { x with planInForce := x.plan } k.core f quiet b :=
    (congrArg (fun y => dueCut y k.core f quiet b) hxx :)
  have hreadback : (s.arrived c n f samples).readback = s.readback := (State.arrived_reach ..).readback (by decide)
  have hsearched (hf : ¬ f < k.core) := State.cutSearch_eq
    (quiet := ((s.channels.get c).detector.analyse (s.channels.get c).config samples).quietRun) hx' hm' hk' hf
  rw [hdue, hchannel, hcount, hreadback, State.arrived_takesFree] at hsearched
  rw [State.searched_later hx hfirst]
  unfold searchedCut
  refine ⟨x', hx', hxx, fun hnone => ?_, fun cut kind hsome hroom => ?_⟩
  · split at hnone
    · rename_i hf
      exact State.cutSearch_below hx' hm' hk' hf
    · rename_i hf
      rw [hsearched hf, hnone]
  · split at hsome
    · exact nomatch hsome
    · rename_i hf
      rw [hsearched hf, hsome]
      exact if_neg (Nat.not_le.mpr hroom)

end

/-- The take a cut ends and the take it opens, named by their fields (R57, R58). -/
theorem State.makeCut_named {s : State} {n m cut : Nat} {kind : CutKind} {x : Session} {k : Take} (hx : s.session? n = some x)
    (hm : x.openTake = some m) (hk : s.take? ⟨n, m⟩ = some k) :
    (∃ u ∈ (s.makeCut n cut kind).takes, u.session = n ∧ u.number = m ∧ u.capture = .closed ∧ u.stop = some (cut - 1)
      ∧ u.cutKind = some kind ∧ u.leadIn = k.leadIn ∧ u.core = k.core)
    ∧ (∃ u ∈ (s.makeCut n cut kind).takes, u.session = n ∧ u.number = x.takeCount + 1 ∧ u.capture = .opened ∧ u.stop = none
      ∧ u.core = cut ∧ u.leadIn = leadInAt cut (overlapOf x.planInForce kind) k.leadIn (x.firstStored.getD 0)) := by
  obtain ⟨hsession, hnumber⟩ := TakeRef.mk.inj (State.ref_of_take? hk)
  obtain ⟨lost, lost', ⟨u, hu, hcut⟩, ⟨w, hw, hnew⟩, -⟩ := State.makeCut_spec (c := cut) (k := kind) hx hm hk
  exact ⟨⟨u, hu, (congrArg Take.session hcut).trans hsession, (congrArg Take.number hcut).trans hnumber, (congrArg Take.capture hcut :),
      (congrArg Take.stop hcut :), (congrArg Take.cutKind hcut :), (congrArg Take.leadIn hcut :), (congrArg Take.core hcut :)⟩,
    ⟨w, hw, (congrArg Take.session hnew).trans (State.number_of_session? hx), (congrArg Take.number hnew :),
      (congrArg Take.capture hnew :), (congrArg Take.stop hnew :), (congrArg Take.core hnew :), (congrArg Take.leadIn hnew :)⟩⟩

/-- Settles O48: each part of a frame's work by its own lemma, the search for a cut by the cases of the cut due. -/
theorem arrivedFramesAreSearched : Obligations.ArrivedFramesAreSearched := by
  unfold Obligations.ArrivedFramesAreSearched
  intro s c samples n x ch frame f d room hlive hne hlen hn hx hc htaking
  let s₁ := s.modChannel c fun ch => ch.completed (if (s.readback.get c).current.isSome then none else some frame)
  have hch : s₁.channels.get c = ch.completed (if (s.readback.get c).current.isSome then none else some frame) :=
    PerChannel.get_set_self ..
  have hn₁ : (s₁.channels.get c).session = some n := by rw [hch]; exact hn
  have hx₁ : s₁.session? n = some x := hx
  have htaking₁ : (s₁.channels.get c).phase = .armed ∨ (s₁.channels.get c).phase = .recording := by rw [hch]; exact htaking
  have hframe : nextFrame (s₁.channels.get c).arrivedHead = f := by rw [hch]; rfl
  have hlevel := State.frameArrives_levelCounter hn₁ hx₁ htaking₁ (some frame)
  rw [hch] at hlevel
  refine ⟨s₁.frameArrives c (some frame), exec_frameCompleted hlive hne hlen, fun hperiod => ?_, fun hcount => ?_,
    fun hperiod hdue => ⟨?_, fun hmask hroom => ?_⟩, fun harmed hf => ?_, fun hrecording hfirst => ?_,
    fun a m k hrecording hfirst hm hk => ?_⟩
  · exact hlevel.trans (if_pos hperiod)
  · exact hlevel.trans ((if_neg (by exact fun h => absurd (h ▸ hcount : ch.levelCounter + 1 < 0) (Nat.not_lt_zero _))).trans
      (if_neg (by exact Nat.not_le.mpr hcount)))
  · exact hlevel.trans ((if_neg (by exact fun h => absurd h (Nat.ne_of_gt hperiod))).trans (if_pos hdue))
  · exact State.frameArrives_told hn₁ hx₁ htaking₁ (by rw [hch]; exact hperiod) (by rw [hch]; exact hdue) hmask hroom _
  · have harmed₁ : (s₁.channels.get c).phase = .armed := by rw [hch]; exact harmed
    have hring (honset) := State.frameArrives_ring hn₁ hx₁ harmed₁ (samples := some frame) (by rw [hframe]; exact hf) honset
    have honset (first) (h) := State.frameArrives_onset hn₁ hx₁ harmed₁ (samples := some frame) (by rw [hframe]; exact hf) h
      (first := first)
    rw [hframe, hch] at hring honset
    refine ⟨fun hno => ?_, fun hyes => ?_⟩
    · obtain ⟨hchannel, htakes⟩ := hring hno
      rw [hchannel]
      exact ⟨harmed, rfl, rfl, htakes⟩
    · obtain ⟨first, hfirst⟩ : ∃ first, (nextRing ch.ring f (some frame)).head? = some first :=
        Option.ne_none_iff_exists'.mp fun hnone => by simp [nextRing] at hnone
      obtain ⟨hchannel, y, hy, hphase, hstored, hcount, hopen⟩ := honset first hyes hfirst
      rw [hchannel]
      exact ⟨rfl, rfl, rfl, y, first, hy, hfirst, hphase, hstored, hcount, hopen⟩
  · obtain ⟨y, hy, hstored, hrest⟩ := State.frameArrives_first hn₁ hx₁ (by rw [hch]; exact hrecording) hfirst (some frame)
    exact ⟨y, hy, by rw [hstored, hframe], hrest⟩
  · obtain ⟨x', hx', hxx, hnot, hcut⟩ := State.searched_cases hx₁ hc hfirst hm hk f (some frame)
    have harrives := State.frameArrives_recording hn₁ hx₁ (by rw [hch]; exact hrecording) (some frame)
    rw [hframe] at harrives
    rw [hch] at hnot hcut
    have htakes := (s₁.arrived c n f (some frame)).recordingFrame_takes c x f (some frame)
    have hreach := (s₁.arrived c n f (some frame)).searched_reach_frame c x f (some frame)
    have hsame : (s₁.arrived c n f (some frame)).takes = s.takes := (State.arrived_reach ..).takes (by decide)
    have hsession {y : Session} := State.recordingFrame_session? (s := s₁.arrived c n f (some frame)) (c := c) (x := x) (y := y) (f := f)
    rw [State.number_of_session? hx] at hsession
    rw [← harrives] at htakes hreach
    intro len due
    have hdueEq : due = searchedCut x k.core f d.quietRun (s.readback.get c).current := by
      rw [searchedCut, dueCut_eq]
    rw [hdueEq]
    refine ⟨fun hnone => ?_, fun cut kind hdue hcount => ?_⟩
    · rw [htakes, hnot hnone, hsame]
    · have hmade := hcut cut kind hdue hcount
      have hm' : x'.openTake = some m := (congrArg Session.openTake hxx :).trans hm
      have hk' : (s₁.arrived c n f (some frame)).take? ⟨n, m⟩ = some k := by
        rw [State.take?, hsame]
        exact hk
      refine ⟨fun hfree => ?_, fun hfull => ?_⟩
      · rw [if_neg (by exact hfree)] at hmade
        rw [hmade] at htakes
        obtain ⟨⟨u, hu, hclosed⟩, w, hw, hsn, hnum, hopen, hstop, hcore, hleadIn⟩ :=
          State.makeCut_named (cut := cut) (kind := kind) hx' hm' hk'
        obtain ⟨-, -, -, -, -, hheld⟩ := State.makeCut_spec (c := cut) (k := kind) hx' hm' hk'
        obtain ⟨y, hy, hyx⟩ := hsession (by rw [hmade]; exact hheld) (some frame)
        rw [← harrives] at hy
        refine ⟨⟨u, by rw [htakes]; exact hu, hclosed⟩, ⟨w, by rw [htakes]; exact hw, hsn, ?_, hopen, hstop, hcore, ?_⟩,
          y, hy, ?_, (congrArg Session.forcedPending hyx :), (congrArg Session.extensionReported hyx :)⟩
        · exact hnum.trans (congrArg (fun y => Session.takeCount y + 1) hxx :)
        · have hplan : x'.planInForce = x.plan := (congrArg Session.planInForce hxx :)
          have hstored : x'.firstStored = some a := (congrArg Session.firstStored hxx :).trans hfirst
          rw [hleadIn, hplan, hstored]
          rfl
        · exact (congrArg Session.openTake hyx :).trans (congrArg (fun y => some (Session.takeCount y + 1)) hxx :)
      · rw [if_pos (by exact hfull)] at hmade
        rw [hmade, State.extendTake_takes] at htakes
        rw [hmade] at hreach
        obtain rfl : x'.number = n := State.number_of_session? hx'
        obtain ⟨y, hy, hyx⟩ := hsession (by rw [hmade]; exact State.extendTake_holds hx' m) (some frame)
        rw [← harrives] at hy
        refine ⟨htakes.trans hsame, ⟨y, hy, (congrArg Session.openTake hyx :).trans hm', (congrArg Session.extensionReported hyx :)⟩,
          fun hnew hmask hroom => hreach.told (by decide) (State.extendTake_told ?_ ?_ ?_ m)⟩
        · exact (congrArg Session.extensionReported hxx :).trans hnew
        · rw [(State.arrived_reach ..).mask (by decide)]
          exact hmask
        · exact lt_of_le_of_lt (State.arrived_waiting ..) (by exact Nat.lt_of_succ_le hroom)

end Sys2Proof.Machine
end

section
/-! SUPPORT. The actions of a marker keypad's keys (R84 to R88, R96). -/

namespace Sys2Proof.Machine

/-! ### What keys and the start of a recording leave of a session, its marks and its ranges -/

/-- A key leaves of each session all but its mark and range numbers. -/
theorem Move.sansNumbers {k : Kind} {s t : State} (h : Move k s t) (hk : k ∈ keyKinds) :
    t.sessions.map Session.sansNumbers = s.sessions.map Session.sansNumbers := by
  cases h with
  | sessionMarks n f hf =>
    rw [State.modSession, List.map_map]
    refine List.map_congr_left fun x _ => ?_
    rw [Function.comp_apply]
    split
    · exact hf x
    · rfl
  | session | sessionTrim | takeCount | sessionGone | sessionOpen => simp [keyKinds] at hk
  | _ => rfl

theorem State.keyAction_session? (s : State) (c : ChannelId) (k : KeyId) (f n : Nat) :
    ((s.keyAction c k f).session? n).map Session.sansNumbers = (s.session? n).map Session.sansNumbers :=
  State.session?_congr (view := Session.sansNumbers) (number := Session.number) (fun _ => rfl)
    ((s.keyAction_reach c k f).keeps (fun u => u.sessions.map Session.sansNumbers) fun _ hk _ _ hm => hm.sansNumbers hk) n

/-- Marks, and closed ranges, may have been freed between the two states; nothing else of the two tables has changed. -/
def State.TrimmedTo (s t : State) : Prop :=
  t.marks.Sublist s.marks ∧ ∃ p : Range → Bool, (∀ g, g.stop = none → p g = true) ∧ t.ranges = s.ranges.filter p

theorem State.TrimmedTo.of_eq {s t : State} (hmarks : t.marks = s.marks) (hranges : t.ranges = s.ranges) : s.TrimmedTo t :=
  ⟨hmarks ▸ .refl _, fun _ => true, fun _ _ => rfl, by rw [hranges, List.filter_true]⟩

theorem State.recomputeTrim_trims (s : State) (n : Nat) : s.TrimmedTo (s.recomputeTrim n) := by
  refine ⟨(s.recomputeTrim_marks n).1, ?_⟩
  have hranges (u : State) : (u.trimStore n).ranges = u.ranges := (u.trimStore_reach n).ranges (by decide)
  have hsame : ∃ p : Range → Bool, (∀ g, g.stop = none → p g = true) ∧ s.ranges = s.ranges.filter p :=
    ⟨fun _ => true, fun _ _ => rfl, by rw [List.filter_true]⟩
  unfold State.recomputeTrim
  split
  · next x _ =>
    dsimp only
    split
    · rw [hranges]
      exact hsame
    · split
      · next p _ =>
        rw [hranges]
        exact ⟨_, fun g hg => by rw [hg, Bool.or_true], rfl⟩
      · exact hsame
  · exact hsame

/-- Moves that touch neither table, before and after. -/
theorem State.TrimmedTo.between {K L : List Kind} {s u v t : State} (h : u.TrimmedTo v) (hu : Reach K s u) (hv : Reach L v t)
    (hK : ∀ k ∈ K, k.part ≠ .marks ∧ k.part ≠ .ranges) (hL : ∀ k ∈ L, k.part ≠ .marks ∧ k.part ≠ .ranges) : s.TrimmedTo t := by
  unfold State.TrimmedTo at h ⊢
  rw [hv.marks fun k hk => (hL k hk).1, hv.ranges fun k hk => (hL k hk).2, ← hu.marks fun k hk => (hK k hk).1,
    ← hu.ranges fun k hk => (hK k hk).2]
  exact h

theorem State.openTake_trims (s : State) (n leadIn core : Nat) : s.TrimmedTo (s.openTake n leadIn core) := by
  rcases hx : s.session? n with _ | x
  · unfold State.openTake
    rw [hx]
    exact .of_eq rfl rfl
  · have hopen : Reach [.takeTable, .takeCount, .notice] s ((s.opening n (newTake x leadIn core (s.lostFrom x leadIn))).raiseTake
        (newTake x leadIn core (s.lostFrom x leadIn)).ref .opened) :=
      .trans (.trans (.one (.takeTable _) (by decide)) (.one (.takeCount n _ (by exact fun y => ⟨rfl, rfl, Nat.le_succ _⟩)) (by decide)))
        (State.raiseTake_reach (hK := by decide) ..)
    have htrims := (State.recomputeTrim_trims _ n).between hopen (Reach.refl (K := [])) (by decide) (by decide)
    simp only [State.openTake, hx]
    exact htrims

theorem State.openFirstTake_trims (s : State) (n first : Nat) : s.TrimmedTo (s.openFirstTake n first) := by
  have hrest : Reach dispatchKinds (s.openTake n first first) (s.openFirstTake n first) := by
    unfold State.openFirstTake
    dsimp only
    split
    · exact .thenIf .refl fun _ => State.handOver_reach ..
    · exact .refl
  exact (s.openTake_trims n first first).between (Reach.refl (K := [])) hrest (by decide) (by decide)

/-- Recording starts: closed ranges and marks below the new trim point may go. -/
theorem State.startRecording_trims (s : State) (c : ChannelId) (n first : Nat) : s.TrimmedTo (s.startRecording c n first) := by
  have hbegun : Reach [.channelRun, .session, .notice] s (((s.modChannel c fun ch =>
      { ch with phase := .recording, ring := [] }).modSession n fun x =>
        { x with phase := .recording, firstStored := some first }).raiseSession n .recording) :=
    .trans (.trans (.one (.channelRun _ _ (by rfl)) (by decide)) (.one (.session _ _ (by exact fun _ => ⟨rfl, rfl, rfl⟩)) (by decide)))
      (State.raiseSession_reach (hK := by decide) ..)
  exact (State.openFirstTake_trims _ n first).between hbegun (Reach.refl (K := [])) (by decide) (by decide)

/-- Open ranges stay, and only they are counted. -/
theorem State.TrimmedTo.openRanges {s t : State} (h : s.TrimmedTo t) (n : Nat) : t.openRanges n = s.openRanges n := by
  obtain ⟨-, p, hp, hranges⟩ := h
  unfold State.openRanges State.rangesOf
  rw [hranges, List.filter_filter, List.countP_filter, List.countP_filter]
  refine List.countP_congr fun g _ => ?_
  by_cases hopen : g.stop = none
  · simp [hp g hopen]
  · simp [hopen]

/-! ### Marks from a key -/

theorem State.addReportedMark_inserts {s : State} {c : ChannelId} {m : Mark} {x : Session} (hx : s.session? m.session = some x)
    (hnew : ∀ e ∈ s.marks, e.session = m.session → e.frame ≠ m.frame) (hissued : x.markIssued < 65535)
    (hroom : s.marks.length < m.source.room) :
    { m with number := x.markIssued + 1 } ∈ (s.addReportedMark c m).1.marks := by
  have hdistinct (e : Mark) (he : e ∈ s.marks) : e.identical m = false := by
    by_contra hsame
    simp only [Mark.identical, Bool.and_eq_true, decide_eq_true_eq, Bool.not_eq_false] at hsame
    exact hnew e he hsame.1.1.1.1.1.1 hsame.1.1.1.1.1.2
  unfold State.addReportedMark State.addMark
  rw [State.placeMark_inserts hx hdistinct hissued hroom]
  exact mem_insertBy.mpr (.inl rfl)

/-! ### The four keys -/

section
variable {s : State} {c : ChannelId} {n f : Nat} {x : Session} (hn : (s.channels.get c).session = some n)
  (hx : s.session? n = some x)
include hn hx

theorem State.keyAction_eq (k : KeyId) : s.keyAction c k f =
    if k = 0 then (s.addReportedMark c (plainMark n f .general .keypad)).1
    else if k = 1 then s.speakerKey c n f
    else if k = 2 then (s.addReportedMark c (plainMark n f .exhibit .keypad)).1
    else s.offRecordKey c x f := by
  obtain rfl := State.number_of_session? hx
  unfold State.keyAction State.channelSession?
  rw [hn]
  dsimp only
  rw [hx]
  fin_cases k <;> rfl

end

end Sys2Proof.Machine
end

section
/-! SUPPORT. The channel after a key, and the off-record key (R86 to R88, R96). -/

namespace Sys2Proof.Machine

theorem State.addReportedMark_channels (s : State) (c : ChannelId) (m : Mark) :
    (s.addReportedMark c m).1.channels = s.channels := (s.addReportedMark_reach c m).channels (by decide)

/-- A keypad after a key: the speaker it names, an off-record toggle, and its key states as they were. -/
def Keypad.after (p : Keypad) (speaker : Nat) (offRecord : Option Nat) : Keypad :=
  { p with speaker := speaker, offRecord := offRecord }

/-! ### The off-record key -/

section
variable {s : State} {c : ChannelId} {x : Session}

theorem State.closeRangeAt_keypad {k : Nat} (hn : (s.channels.get x.channel).session = some x.number)
    (hx : s.session? x.number = some x) (htoggle : (s.channels.get x.channel).keypad.offRecord = some k) (f : Nat) :
    ((s.closeRangeAt x.number k f).channels.get x.channel).keypad =
      (s.channels.get x.channel).keypad.after (s.channels.get x.channel).keypad.speaker none := by
  unfold State.closeRangeAt
  rw [State.keepToggle_ne (s := s.modRange x.number k fun g => { g with stop := some f }) hx]
  dsimp only
  rw [if_pos (by exact hn), PerChannel.get_set_self, if_pos (by exact htoggle)]
  rfl

theorem State.offRecordKey_closes {k : Nat} (hn : (s.channels.get c).session = some x.number) (hx : s.session? x.number = some x)
    (hc : x.channel = c) (htoggle : (s.channels.get c).keypad.offRecord = some k) (f : Nat) :
    ((s.offRecordKey c x f).channels.get c).keypad = (s.channels.get c).keypad.after (s.channels.get c).keypad.speaker none
      ∧ (s.offRecordKey c x f).ranges = s.ranges.map (fun g =>
          if g.session = x.number ∧ g.number = k then { g with stop := some f } else g)
      ∧ (s.hears .mark → (s.offRecordKey c x f).told .mark (.session x.number)) := by
  subst hc
  have hkeypad := State.closeRangeAt_keypad hn hx htoggle f
  have hclosed : s.closeRangeAt x.number k f = _ :=
    State.keepToggle_ne (s := s.modRange x.number k fun g => { g with stop := some f }) (k := k) hx
  unfold State.offRecordKey
  dsimp only
  rw [htoggle]
  dsimp only
  refine ⟨hkeypad, ?_, fun hears => State.raise_told ?_ _ _⟩
  · rw [hclosed]
    rfl
  · rw [hclosed]
    exact hears

theorem State.offRecordKey_opens (htoggle : (s.channels.get c).keypad.offRecord = none) (hroom : s.ranges.length < 64)
    (hopen : s.openRanges x.number < 4) (hissued : x.rangeIssued < 65535) (f : Nat) :
    ((s.offRecordKey c x f).channels.get c).keypad =
        (s.channels.get c).keypad.after (s.channels.get c).keypad.speaker (some (x.rangeIssued + 1))
      ∧ (s.offRecordKey c x f).ranges = insertBy Range.before
          { offRecordRange (s.channels.get c).config x.number f with number := x.rangeIssued + 1 } s.ranges
      ∧ (s.hears .mark → (s.offRecordKey c x f).told .mark (.session x.number)) := by
  have hlimit : s.rangeLimit? x true = none := by
    unfold State.rangeLimit?
    rw [if_neg (show ¬ Config.rangeRecords ≤ _ from Nat.not_le.mpr hroom), if_neg, if_neg (Nat.not_le.mpr hissued)]
    rw [Bool.true_and, decide_eq_true_eq]
    exact Nat.not_le.mpr hopen
  unfold State.offRecordKey
  dsimp only
  rw [htoggle]
  dsimp only
  rw [hlimit]
  refine ⟨?_, rfl, fun hears => State.raise_told (by exact hears) _ _⟩
  show ((s.channels.set c _).get c).keypad = _
  rw [PerChannel.get_set_self]
  rfl

theorem State.offRecordKey_full (htoggle : (s.channels.get c).keypad.offRecord = none)
    (hfull : 64 ≤ s.ranges.length ∨ 4 ≤ s.openRanges x.number ∨ 65535 ≤ x.rangeIssued) (f : Nat) :
    (s.offRecordKey c x f).channels = s.channels ∧ (s.offRecordKey c x f).ranges = s.ranges
      ∧ (s.hears .table → (s.offRecordKey c x f).told .table (.table .ranges)) := by
  obtain ⟨limit, hlimit⟩ : ∃ limit, s.rangeLimit? x true = some limit := by
    unfold State.rangeLimit?
    split
    · exact ⟨_, rfl⟩
    · split
      · exact ⟨_, rfl⟩
      · split
        · exact ⟨_, rfl⟩
        · rename_i hlength hopen hissued
          rw [Bool.true_and, decide_eq_true_eq] at hopen
          exact absurd hfull (by rintro (h | h | h) <;> contradiction)
  unfold State.offRecordKey
  dsimp only
  rw [htoggle]
  dsimp only
  rw [hlimit]
  exact ⟨rfl, rfl, fun hears => State.raise_told (by exact hears) _ _⟩

/-- The off-record key changes nothing of a channel but its toggle. -/
theorem State.offRecordKey_sansToggle (s : State) (c d : ChannelId) (x : Session) (f : Nat) :
    ((s.offRecordKey c x f).channels.get d).sansToggle = (s.channels.get d).sansToggle := by
  unfold State.offRecordKey
  dsimp only
  split
  · exact (((s.closeRangeAt_reach ..).mono (by decide)).trans
      (State.raise_reach (K := [.notice, .ranges, .toggle]) (hK := by decide) ..)).sansToggle (by decide) d
  · split
    · rfl
    · show ((s.channels.set c _).get d).sansToggle = _
      by_cases hd : d = c
      · rw [hd, PerChannel.get_set_self]
        rfl
      · rw [PerChannel.get_set_ne _ _ hd]

end

/-- What a key leaves of its channel. -/
theorem State.keyAction_channel {s : State} {c : ChannelId} {n f : Nat} {x : Session} (hn : (s.channels.get c).session = some n)
    (hx : s.session? n = some x) (k : KeyId) : ((s.keyAction c k f).channels.get c).sansToggle =
      { s.channels.get c with keypad := (s.channels.get c).keypad.after (if k = 1 then
          nextSpeaker (s.channels.get c).keypad.speaker (s.channels.get c).config.speakers
        else (s.channels.get c).keypad.speaker) none } := by
  rw [State.keyAction_eq hn hx]
  fin_cases k
  · exact congrArg (fun chs => (chs.get c).sansToggle) (s.addReportedMark_channels ..)
  · show ((State.addReportedMark _ c _).1.channels.get c).sansToggle = _
    rw [State.addReportedMark_channels, State.modChannel_channels, PerChannel.get_set_self]
    rfl
  · exact congrArg (fun chs => (chs.get c).sansToggle) (s.addReportedMark_channels ..)
  · exact State.offRecordKey_sansToggle ..

end Sys2Proof.Machine
end

section
/-! SUPPORT. Keypad keys, from the pin to the action: the statement about them (R84 to R88). -/

namespace Sys2Proof.Machine

/-- A key but the off-record key inserts its mark at the press frame (R86, R87). -/
theorem State.keyAction_marks {s : State} {c : ChannelId} {n f : Nat} {x : Session} {k : KeyId}
    (hn : (s.channels.get c).session = some n) (hx : s.session? n = some x) (hk : k ≠ 3)
    (hnew : ∀ e ∈ s.marks, e.session = n → e.frame ≠ f) (hissued : x.markIssued < 65535) (hroom : s.marks.length < 1984) :
    ∃ m ∈ (s.keyAction c k f).marks, m.session = n ∧ m.number = x.markIssued + 1 ∧ m.frame = f ∧ m.source = .keypad
      ∧ m.kind = (if k = 0 then .general else if k = 1 then .speaker else .exhibit) ∧ m.tag = none
      ∧ m.speaker = if k = 1 then some (nextSpeaker (s.channels.get c).keypad.speaker (s.channels.get c).config.speakers)
          else none := by
  have hplain (kind : MarkKind) := State.addReportedMark_inserts (c := c) (m := plainMark n f kind .keypad) hx hnew hissued hroom
  rw [State.keyAction_eq hn hx]
  fin_cases k
  · exact ⟨_, hplain .general, rfl, rfl, rfl, rfl, rfl, rfl, rfl⟩
  · exact ⟨_, State.addReportedMark_inserts (c := c)
      (s := s.modChannel c fun ch => { ch with keypad := { ch.keypad with
        speaker := nextSpeaker (s.channels.get c).keypad.speaker (s.channels.get c).config.speakers } })
      (m := { plainMark n f .speaker .keypad with
        speaker := some (nextSpeaker (s.channels.get c).keypad.speaker (s.channels.get c).config.speakers) })
      hx hnew hissued hroom, rfl, rfl, rfl, rfl, rfl, rfl, rfl⟩
  · exact ⟨_, hplain .exhibit, rfl, rfl, rfl, rfl, rfl, rfl, rfl⟩
  · exact absurd rfl hk

/-- The session a key acts on: in ARMED, the one the press has just set RECORDING. -/
def Session.pressed (x : Session) (armed : Bool) (f : Nat) : Session :=
  if armed then ({ x with phase := .recording, firstStored := some f } : Session).withTake else x

/-- A press in ARMED or RECORDING acts in a state in which the session records (R85). -/
theorem State.pressAction_acts {s : State} {c : ChannelId} {n : Nat} {x : Session} (hn : (s.channels.get c).session = some n)
    (hx : s.session? n = some x) (htaking : (s.channels.get c).phase = .armed ∨ (s.channels.get c).phase = .recording) (k : KeyId) :
    ∃ u, s.pressAction c k = u.keyAction c k (s.pressFrame c)
      ∧ u.channels.get c = { s.channels.get c with
          phase := .recording, ring := if (s.channels.get c).phase = .armed then [] else (s.channels.get c).ring }
      ∧ u.holdsSession n (x.pressed (decide ((s.channels.get c).phase = .armed)) (s.pressFrame c))
      ∧ s.TrimmedTo u ∧ ((s.channels.get c).phase = .recording → u = s) := by
  rcases htaking with harmed | hrecording
  · refine ⟨s.startRecording c n (s.pressFrame c), ?_, ?_, ?_, s.startRecording_trims c n _, fun h => ?_⟩
    · unfold State.pressAction
      rw [harmed, hn]
    · rw [State.startRecording_channel, PerChannel.get_set_self, if_pos harmed]
    · rw [harmed]
      exact State.startRecording_holds (State.holdsSession_of hx) c _
    · exact nomatch harmed.symm.trans h
  · refine ⟨s, ?_, ?_, ?_, .of_eq rfl rfl, fun _ => rfl⟩
    · unfold State.pressAction
      rw [hrecording, hn]
    · rw [hrecording, if_neg (by decide), ← hrecording]
    · rw [hrecording]
      exact State.holdsSession_of hx

theorem State.pressAction_other {s : State} {c : ChannelId} (h : (s.channels.get c).phase = .off ∨ (s.channels.get c).phase = .closing)
    (k : KeyId) : s.pressAction c k = s := by
  unfold State.pressAction
  rcases h with h | h <;> rw [h]

theorem State.keyAction_keys (s : State) (c : ChannelId) (k : KeyId) (f : Nat) :
    ((s.keyAction c k f).channels.get c).keypad.keys = (s.channels.get c).keypad.keys := by
  rcases hlook : s.channelSession? c with _ | x
  · unfold State.keyAction
    rw [hlook]
  · obtain ⟨n, hn, hx⟩ : ∃ n, (s.channels.get c).session = some n ∧ s.session? n = some x := by
      unfold State.channelSession? at hlook
      split at hlook
      · exact ⟨_, ‹_›, hlook⟩
      · exact nomatch hlook
    exact (congrArg (fun ch => ch.keypad.keys) (State.keyAction_channel hn hx k) :)

/-- What a press sets off changes no key's state. -/
theorem State.pressAction_keys (s : State) (c : ChannelId) (k : KeyId) :
    ((s.pressAction c k).channels.get c).keypad.keys = (s.channels.get c).keypad.keys := by
  unfold State.pressAction
  dsimp only
  split
  · rw [State.keyAction_keys, State.startRecording_channel, PerChannel.get_set_self]
  · exact State.keyAction_keys ..
  · rfl

theorem State.acceptKey_channel (s : State) (c : ChannelId) (k : KeyId) (pressed : Bool) :
    (s.acceptKey c k pressed).channels.get c = { s.channels.get c with keypad := { (s.channels.get c).keypad with
      keys := (s.channels.get c).keypad.keys.set k { pressed := pressed, debounce := 0 } } } := PerChannel.get_set_self ..

theorem State.acceptPress_key (s : State) (c : ChannelId) (k : KeyId) :
    ((s.acceptPress c k).channels.get c).keypad.keys.get k = { pressed := true, debounce := 0 } := by
  rw [State.acceptPress, State.pressAction_keys, State.acceptKey_channel]
  exact PerChannel.get_set_self ..

/-- What a finished event leaves of the state's parts but the lines. -/
theorem State.finish_parts (before s : State) : (State.finish before s).channels = s.channels
    ∧ (State.finish before s).marks = s.marks ∧ (State.finish before s).ranges = s.ranges
    ∧ ∀ n, (State.finish before s).session? n = s.session? n := by
  have hreach := State.finish_reach before s
  refine ⟨hreach.channels (by decide), hreach.marks (by decide), hreach.ranges (by decide), fun n => ?_⟩
  rw [State.session?, hreach.sessions (by decide)]
  rfl

/-! ### The events -/

theorem exec_keypadPressAccepted {s : State} {c : ChannelId} {k : KeyId} (henable : (s.channels.get c).config.enable.get k = true)
    (hkey : ((s.channels.get c).keypad.keys.get k).pressed = false) :
    exec (.keypadPressAccepted c k) s = .next (State.finish s (s.acceptPress c k)) := by
  rw [show exec (.keypadPressAccepted c k) s = execKeypadPressAccepted c k s from rfl, execKeypadPressAccepted, State.keyIs,
    henable, hkey]
  rfl

theorem exec_keypadReleaseAccepted {s : State} {c : ChannelId} {k : KeyId} (henable : (s.channels.get c).config.enable.get k = true)
    (hkey : ((s.channels.get c).keypad.keys.get k).pressed = true) :
    exec (.keypadReleaseAccepted c k) s = .next (State.finish s (s.acceptKey c k false)) := by
  rw [show exec (.keypadReleaseAccepted c k) s = execKeypadReleaseAccepted c k s from rfl, execKeypadReleaseAccepted, State.keyIs,
    henable, hkey]
  rfl

theorem Polarity.reads_iff (p : Polarity) (high : Bool) : p.reads high = true ↔ ((p = .activeHigh) = (high = true)) := by
  cases p <;> cases high <;> simp [Polarity.reads]

end Sys2Proof.Machine
end

section
/-! SUPPORT. The statement about a marker keypad's keys (R84 to R88, R96). -/

namespace Sys2Proof.Machine

theorem Session.pressed_numbers (x : Session) (armed : Bool) (f : Nat) : (x.pressed armed f).markIssued = x.markIssued
    ∧ (x.pressed armed f).rangeIssued = x.rangeIssued ∧ (x.pressed armed f).channel = x.channel := by
  cases armed <;> exact ⟨rfl, rfl, rfl⟩

/-- Settles O51: the samples by `State.sampleKey`'s cases; a press by the state it acts in (`State.pressAction_acts`) and the
action of its key there. -/
theorem keypadKeysAct : Obligations.KeypadKeysAct := by
  unfold Obligations.KeypadKeysAct
  intro s c k ch key f accepted
  refine ⟨fun hoff => ?_, fun henable => ⟨fun hpressed => ?_, ?_, fun hreleased => ?_⟩⟩
  · have hsample (high : Bool) : exec (.keySample c k high) s = .next s := if_neg (by rw [hoff]; exact Bool.false_ne_true)
    have hkey (pressed : Bool) : ¬ s.keyIs c k pressed = true := by
      rw [State.keyIs, hoff]
      exact Bool.false_ne_true
    exact ⟨hsample true, hsample false, if_neg (hkey false), if_neg (hkey true)⟩
  · exact ⟨_, exec_keypadReleaseAccepted henable hpressed, State.finish_offLine ..⟩
  · intro high reads
    have hexec : exec (.keySample c k high) s = .next (State.finish s (s.sampleKey c k high)) := if_pos henable
    have hreads : (ch.config.polarity.get k).reads high = true ↔ reads := Polarity.reads_iff ..
    have hagree : (reads ↔ key.pressed = true) ↔ (ch.config.polarity.get k).reads high = key.pressed := by
      rw [← hreads, ← Bool.eq_iff_iff]
    refine ⟨_, hexec, fun h => ?_, fun h hcount => ?_, fun h hcount => ?_⟩
    · rw [State.finish_offLine, State.sampleKey]
      dsimp only
      rw [if_pos (by exact hagree.mp h)]
      rfl
    · rw [hagree] at h
      rw [(State.finish_parts ..).1, State.sampleKey]
      dsimp only
      rw [if_neg (by exact h), if_pos (by exact hcount), State.modChannel_channels, PerChannel.get_set_self]
      exact PerChannel.get_set_self ..
    · rw [hagree] at h
      have hsample : s.sampleKey c k high = if key.pressed then s.acceptKey c k false else s.acceptPress c k := by
        unfold State.sampleKey
        dsimp only
        rw [if_neg (by exact h), if_neg (by exact Nat.not_lt.mpr hcount)]
        have hflip (b : Bool) (h : ¬ b = key.pressed) : b = !key.pressed := by
          revert h
          cases b <;> cases key.pressed <;> simp
        rw [hflip _ h]
        cases key.pressed <;> rfl
      rw [hsample]
      rcases hkey : key.pressed with _ | _
      · exact ⟨by rw [(State.finish_parts ..).1]; exact State.acceptPress_key .., exec_keypadPressAccepted henable hkey⟩
      · refine ⟨?_, exec_keypadReleaseAccepted henable hkey⟩
        rw [(State.finish_parts ..).1]
        exact (congrArg (fun ch => ch.keypad.keys.get k) (s.acceptKey_channel c k false) :).trans (PerChannel.get_set_self ..)
  · obtain ⟨hchannels, hmarks, hranges, hsession⟩ := State.finish_parts s (s.acceptPress c k)
    have hch₁ := s.acceptKey_channel c k true
    have hframe : (s.acceptKey c k true).pressFrame c = f := by
      rw [State.pressFrame, hch₁]
      rfl
    refine ⟨State.finish s (s.acceptPress c k), exec_keypadPressAccepted henable hreleased, ?_, fun hidle => ?_,
      fun n x harmed hn hx => ?_, fun n x htaking hn hx => ?_⟩
    · rw [hchannels]
      exact s.acceptPress_key c k
    · rw [State.finish_offLine, State.acceptPress, State.pressAction_other (by rw [hch₁]; exact hidle)]
      rfl
    · obtain ⟨u, hv, hu, ⟨y, hy, hyx⟩, -, -⟩ := State.pressAction_acts (s := s.acceptKey c k true) (by rw [hch₁]; exact hn) hx
        (by rw [hch₁]; exact .inl harmed) k
      rw [hframe] at hv hyx
      rw [hch₁] at hu hyx
      dsimp only at hyx hu
      rw [show (s.channels.get c).phase = .armed from harmed] at hyx hu
      have hafter := State.keyAction_channel (f := f) (by rw [hu]; exact hn) hy k
      rw [hu] at hafter
      have hkept := u.keyAction_session? c k f n
      rw [hy, Option.map_some] at hkept
      obtain ⟨z, hz, hzy⟩ := Option.map_eq_some_iff.mp hkept
      rw [hchannels, hsession, State.acceptPress, hv]
      refine ⟨(congrArg Channel.phase hafter :), (congrArg Channel.ring hafter :), z, hz, ?_, ?_, ?_⟩
      · exact (congrArg Session.phase hzy :).trans (congrArg Session.phase hyx :)
      · exact (congrArg Session.firstStored hzy :).trans (congrArg Session.firstStored hyx :)
      · exact (congrArg Session.takeCount hzy :).trans (congrArg Session.takeCount hyx :)
    · obtain ⟨u, hv, hu, ⟨y, hy, hyx⟩, htrim, hsame⟩ := State.pressAction_acts (s := s.acceptKey c k true) (by rw [hch₁]; exact hn) hx
        (by rw [hch₁]; exact htaking) k
      obtain ⟨hmarked, hranged, hchannel⟩ := x.pressed_numbers
        (decide (((s.acceptKey c k true).channels.get c).phase = .armed)) ((s.acceptKey c k true).pressFrame c)
      have hissued : y.markIssued = x.markIssued := (congrArg Session.markIssued hyx :).trans hmarked
      have hnumbers : y.rangeIssued = x.rangeIssued := (congrArg Session.rangeIssued hyx :).trans hranged
      have hplace : y.channel = x.channel := (congrArg Session.channel hyx :).trans hchannel
      have hn' : (u.channels.get c).session = some n := by rw [hu, hch₁]; exact hn
      rw [hframe] at hv
      rw [hch₁] at hu
      have hafter := State.keyAction_channel (f := f) hn' hy k
      have hkeypad : (u.channels.get c).keypad = { ch.keypad with keys := ch.keypad.keys.set k { pressed := true, debounce := 0 } } := by
        rw [hu]
      have hconfig : (u.channels.get c).config = ch.config := by rw [hu]
      intro speaker open? range
      have hspeaker := (congrArg (fun ch => ch.keypad.speaker) hafter :)
      refine ⟨fun hk => ?_, fun hk => ?_, fun hk hnew hmark hroom => ?_, fun hk hc harmed => ?_, fun hk hc hrecording => ?_⟩
      · rw [hchannels, State.acceptPress, hv]
        refine hspeaker.trans ((if_neg hk).trans ?_)
        rw [hkeypad]
      · rw [hchannels, State.acceptPress, hv]
        refine hspeaker.trans ((if_pos hk).trans ?_)
        rw [hkeypad, hconfig]
        rfl
      · rw [hmarks, State.acceptPress, hv]
        have hinserts := State.keyAction_marks (f := f) hn' hy hk (fun e he => hnew e (htrim.1.subset he)) (by rw [hissued]; exact hmark)
          (lt_of_le_of_lt htrim.1.length_le hroom)
        rw [hissued, hkeypad, hconfig] at hinserts
        exact hinserts
      · subst hk
        have hyn : y.number = n := State.number_of_session? hy
        have hoff : (u.channels.get c).keypad.offRecord = ch.keypad.offRecord := by rw [hkeypad]
        have hkey : (s.acceptKey c 3 true).pressAction c 3 = u.offRecordKey c y f := hv.trans (State.keyAction_eq hn' hy 3)
        obtain ⟨p, hp, htrimmed⟩ := htrim.2
        have hopen? : open? = ((u.offRecordKey c y f).channels.get c).keypad.offRecord := by
          rw [← hkey]
          exact congrArg (fun chs => (PerChannel.get chs c).keypad.offRecord) hchannels
        rw [State.acceptPress, hkey] at hranges
        have hsub : ∀ g ∈ u.ranges, g ∈ s.ranges := fun g hg => (List.mem_filter.mp (htrimmed ▸ hg)).1
        rw [hopen?]
        rw [State.acceptPress, hkey, hranges]
        refine ⟨fun j hj => ?_, fun hnone hlength hopen hnumber => ?_, fun hnone hfull => ?_⟩
        · obtain ⟨hkp, hrg, -⟩ := State.offRecordKey_closes (s := u) (c := c) (x := y) (k := j) (by rw [hyn]; exact hn')
            (by rw [hyn]; exact hy) (hplace.trans hc) (hoff.trans hj) f
          rw [hkp, hrg]
          refine ⟨rfl, fun g hg hgs hgn hstop => List.mem_map.mpr ⟨g, ?_, if_pos ⟨hgs.trans hyn.symm, hgn⟩⟩⟩
          rw [htrimmed]
          exact List.mem_filter.mpr ⟨hg, hp g hstop⟩
        · obtain ⟨hkp, hrg, -⟩ := State.offRecordKey_opens (s := u) (c := c) (x := y) (hoff.trans hnone)
            (lt_of_le_of_lt (by rw [htrimmed]; exact List.length_filter_le ..) hlength)
            (by rw [htrim.openRanges, hyn]; exact hopen) (by rw [hnumbers]; exact hnumber) f
          rw [hkp, hrg, hconfig, hyn, hnumbers]
          refine ⟨rfl, mem_insertBy.mpr (.inl rfl), fun g hg => ?_⟩
          rcases mem_insertBy.mp hg with h | h
          · exact .inl h
          · exact .inr (hsub g h)
        · obtain ⟨hkp, hrg, -⟩ := State.offRecordKey_full (s := u) (c := c) (x := y) (hoff.trans hnone)
            (.inr (by rw [htrim.openRanges, hyn, hnumbers]; exact hfull)) f
          rw [hkp, hrg]
          exact ⟨hoff.trans hnone, hsub⟩
      · subst hk
        obtain rfl := hsame (by rw [hch₁]; exact hrecording)
        have hyn : y.number = n := State.number_of_session? hy
        have hoff : (((s.acceptKey c 3 true)).channels.get c).keypad.offRecord = ch.keypad.offRecord := by rw [hkeypad]
        have hkey : (s.acceptKey c 3 true).pressAction c 3 = (s.acceptKey c 3 true).offRecordKey c y f :=
          hv.trans (State.keyAction_eq hn' hy 3)
        have hopen? : open? = (((s.acceptKey c 3 true).offRecordKey c y f).channels.get c).keypad.offRecord := by
          rw [← hkey]
          exact congrArg (fun chs => (PerChannel.get chs c).keypad.offRecord) hchannels
        rw [State.acceptPress, hkey] at hranges
        rw [hopen?]
        rw [State.acceptPress, hkey, hranges]
        refine ⟨fun j hj => ?_, fun hnone => ⟨fun hlength hopen hnumber => ?_, fun hfull => ?_⟩⟩
        · obtain ⟨hkp, hrg, htold⟩ := State.offRecordKey_closes (s := s.acceptKey c 3 true) (c := c) (x := y) (k := j)
            (by rw [hyn]; exact hn') (by rw [hyn]; exact hy) (hplace.trans hc) (hoff.trans hj) f
          rw [hyn] at hrg htold
          rw [hkp, hrg]
          exact ⟨rfl, fun hears => State.finish_told s (htold hears), rfl⟩
        · obtain ⟨hkp, hrg, htold⟩ := State.offRecordKey_opens (s := s.acceptKey c 3 true) (c := c) (x := y) (hoff.trans hnone)
            hlength (by rw [hyn]; exact hopen) (by rw [hnumbers]; exact hnumber) f
          rw [hkp, hrg, hconfig, hyn, hnumbers]
          rw [hyn] at htold
          obtain ⟨a, b, hsplit, hinsert, -⟩ := insertBy_split Range.before range s.ranges
          exact ⟨rfl, fun hears => State.finish_told s (htold hears), a, b, hsplit, hinsert⟩
        · obtain ⟨hkp, hrg, htold⟩ := State.offRecordKey_full (s := s.acceptKey c 3 true) (c := c) (x := y) (hoff.trans hnone)
            (by rw [hyn, hnumbers]; exact hfull) f
          rw [hkp, hrg]
          exact ⟨hoff.trans hnone, rfl, fun hears => State.finish_told s (htold hears)⟩

end Sys2Proof.Machine
end

section
/-! SUPPORT. The ends of the transfers (R31, R35, R140, R157, R171, R189). -/

namespace Sys2Proof.Machine

/-! ### The store's place of a slot -/

theorem Store.holds_iff {st : Store} {block slot : Nat} : st.holds block slot = true ↔ block < st.blocks ∧ slot < 64 := by
  rw [Store.holds, Bool.and_eq_true, decide_eq_true_eq, decide_eq_true_eq]
  rfl

theorem Store.readByte_writeFrame (st : Store) (block slot : Nat) (samples : List Sample) {a : Nat}
    (ha : a < block * 32768 + slot * 512 ∨ block * 32768 + slot * 512 + 2 * samples.length ≤ a) :
    readByte (st.writeFrame block slot samples).mem a = readByte st.mem a :=
  readByte_writeBytes_outside _ _ _ _ (by rw [samplesBytes_length]; exact ha)

/-! ### A frame settled as stored -/

theorem State.endGap_session? {s : State} {n : Nat} {x : Session} (hx : s.session? n = some x) :
    (s.endGap n).session? n = some { x with gapRun := none } := by
  unfold State.endGap
  rw [hx]
  dsimp only
  split
  · exact State.session?_modSession hx fun _ => rfl
  · rename_i hnone
    rw [hx, ← hnone]

theorem State.settleStored_session? {s : State} {n : Nat} {x : Session} (hx : s.session? n = some x) (f : Nat) :
    (s.settleStored n f).session? n = some { x with storedHead := some f, gapRun := none } := by
  have hset : (s.modSession n fun x => { x with storedHead := some f }).session? n = some { x with storedHead := some f } :=
    State.session?_modSession hx fun _ => rfl
  rw [State.settleStored, State.session?, (State.trimStore_reach _ n).sessions (by decide)]
  exact State.endGap_session? hset

theorem State.settleStored_reach_quiet (s : State) (n f : Nat) : Reach (.session :: .trim :: gapKinds) s (s.settleStored n f) :=
  .trans (.trans (.one (.session _ _ (by exact fun _ => ⟨rfl, rfl, rfl⟩)) (by decide)) ((State.endGap_reach ..).mono (by decide)))
    ((State.trimStore_reach ..).mono (by decide))

/-- Settles O52. -/
theorem captureTransferStoresTheFrame : Obligations.CaptureTransferStoresTheFrame := by
  unfold Obligations.CaptureTransferStoresTheFrame
  intro s g c x f samples hgrant hclient hn hx hhead
  have hlook : s.channelSession? c = some x := by
    unfold State.channelSession?
    rw [hn]
    exact hx
  have hexec : exec .captureTransferEnd s = if s.store.holds g.block g.slot then
      .next (State.settleAll s (s.captured c x.number f samples g)) else .fault .outsideStore := by
    rw [show exec .captureTransferEnd s = execCaptureTransferEnd s from rfl, execCaptureTransferEnd, hgrant]
    dsimp only
    rw [hclient]
    dsimp only
    rw [hhead, hlook]
  refine ⟨fun hblock hslot => ?_, fun hout => ?_⟩
  · let u := ((s.modStore fun st => st.writeFrame g.block g.slot samples).freePort).popCapture c
    have hreach : Reach _ u (s.captured c x.number f samples g) := u.settleStored_reach_quiet x.number f
    have hmem : (s.captured c x.number f samples g).store.mem = (s.store.writeFrame g.block g.slot samples).mem :=
      hreach.mem (by decide)
    refine ⟨s.captured c x.number f samples g, hexec.trans (if_pos (Store.holds_iff.mpr ⟨hblock, hslot⟩)), fun hlen => ?_,
      fun a ha => ?_, ?_, ?_, ?_, hreach.takes (by decide), hreach.stations (by decide), hreach.readback (by decide)⟩
    · rw [Store.readFrame, hmem]
      exact (framesAreStoredInTheirSlots s.store g.block g.slot samples hlen).1
    · rw [hmem]
      exact s.store.readByte_writeFrame _ _ _ ha
    · rw [hreach.channels (by decide)]
      exact congrArg Channel.fifo (PerChannel.get_set_self ..)
    · rw [hreach.arbiter (by decide)]
      rfl
    · exact ⟨_, State.settleStored_session? (s := u) hx f, rfl, rfl, rfl⟩
  · exact hexec.trans (if_neg fun hholds => hout (Store.holds_iff.mp hholds))

/-! ### The readers' transfers -/

/-- What every end of a reader's transfer does. -/
theorem State.endTransfer_moves {s : State} {g : Grant} {i : Instr} {samples : List Sample} {deliver : State → List Sample → State}
    {P : State → Prop} (hexec : exec i s = s.endTransfer g deliver)
    (hdeliver : ∀ l, Reach (.port :: .unit :: .exporter :: trimKinds) s.freePort (deliver s.freePort l))
    (hP : ∀ v, Reach [.notice, .trim] (deliver s.freePort samples) v → P v) :
    (g.live = true → g.block < s.store.blocks → g.slot < 64 → s.store.readFrame g.block g.slot = some samples →
      Moves i s fun v => P v ∧ v.arbiter.grant = none ∧ v.store.mem = s.store.mem ∧ v.takes = s.takes)
    ∧ (g.live = false → Moves i s fun v => v.arbiter.grant = none ∧ v.store.mem = s.store.mem ∧ v.takes = s.takes
      ∧ v.stations = s.stations ∧ v.readback = s.readback ∧ v.exporter = s.exporter) := by
  unfold State.endTransfer at hexec
  refine ⟨fun hlive hblock hslot hread => ?_, fun hdead => ?_⟩
  · rw [if_pos hlive, if_pos (Store.holds_iff.mpr ⟨hblock, hslot⟩), hread] at hexec
    have htrim := (deliver s.freePort samples).trimOwner_reach g.block
    have hboth := (hdeliver samples).trans (htrim.mono (by decide))
    refine ⟨_, hexec, hP _ htrim, ?_, hboth.mem (by decide), hboth.takes (by decide)⟩
    rw [hboth.arbiter (by decide)]
    rfl
  · rw [if_neg (by rw [hdead]; exact Bool.false_ne_true)] at hexec
    have htrim := s.freePort.trimOwner_reach g.block
    refine ⟨_, hexec, ?_, htrim.mem (by decide), htrim.takes (by decide), htrim.stations (by decide), htrim.readback (by decide),
      htrim.exporter (by decide)⟩
    rw [htrim.arbiter (by decide)]
    rfl

/-- Settles O53: `State.endTransfer_moves` for each of the three readers. -/
theorem readerTransfersDeliver : Obligations.ReaderTransfersDeliver := by
  unfold Obligations.ReaderTransfersDeliver
  intro s g samples f b slot hgrant ends
  refine ⟨fun n hclient hreader => ?_, fun c k hclient hreader hcurrent => ?_, fun hclient hreader => ?_⟩
  · have hdeliver (l : List Sample) : State.deliverStation n s.freePort l = s.freePort.modStation n fun st => st.push f (some l) := by
      unfold State.deliverStation
      rw [show (s.freePort.stations.get n).reader = .request f b slot from hreader]
    refine State.endTransfer_moves (deliver := State.deliverStation n) ?_ (fun l => ?_) fun v hv => ?_
    · rw [show exec .stationReaderTransferEnd s = execStationReaderTransferEnd s from rfl, execStationReaderTransferEnd, hgrant]
      dsimp only
      rw [hclient]
    · rw [hdeliver]
      exact .one (.port _ _ (by rfl)) (by decide)
    · rw [hdeliver] at hv
      have hst : v.stations.get n = (s.stations.get n).push f (some samples) := by
        rw [hv.stations (by decide)]
        exact PerStation.get_set_self ..
      rw [hst]
      refine ⟨rfl, rfl, fun hlen => ?_⟩
      unfold Station.push
      dsimp only
      rw [List.length_append, hlen]
      exact Bool.or_true _
  · have hdeliver (l : List Sample) : State.deliverReadback c s.freePort l =
        (s.freePort.modReadback c fun u => (u.push f (some l)).advance f k.stop).recomputeTrim k.entry.session := by
      unfold State.deliverReadback
      rw [show (s.freePort.readback.get c).reader = .request f b slot from hreader,
        show (s.freePort.readback.get c).current = some k from hcurrent]
    refine State.endTransfer_moves (deliver := State.deliverReadback c) ?_ (fun l => ?_) fun v hv => ?_
    · rw [show exec .readbackReaderTransferEnd s = execReadbackReaderTransferEnd s from rfl, execReadbackReaderTransferEnd, hgrant]
      dsimp only
      rw [hclient]
    · rw [hdeliver]
      refine .trans (.one (.unit _ _ ?_) (by decide)) ((State.recomputeTrim_reach ..).mono (by decide))
      unfold Readback.advance
      split <;> rfl
    · rw [hdeliver] at hv
      have hunit : v.readback.get c = ((s.readback.get c).push f (some samples)).advance f k.stop := by
        rw [hv.readback (by decide), State.recomputeTrim_readback]
        exact PerChannel.get_set_self ..
      rw [hunit]
      unfold Readback.advance
      refine ⟨?_, fun hstop => ?_, fun hstop => ?_⟩
      · split <;> rfl
      · rw [if_pos hstop]
      · rw [if_neg hstop]
  · have hdeliver (l : List Sample) : State.deliverExport s.freePort l =
        (s.freePort.modExporter fun e => (e.push f (.samples l)).advance f).recomputeTrim s.freePort.exporter.session := by
      unfold State.deliverExport
      rw [show s.freePort.exporter.reader = .request f b slot from hreader]
    refine State.endTransfer_moves (deliver := State.deliverExport) ?_ (fun l => ?_) fun v hv => ?_
    · rw [show exec .exportReaderTransferEnd s = execExportReaderTransferEnd s from rfl, execExportReaderTransferEnd, hgrant]
      dsimp only
      rw [hclient]
    · rw [hdeliver]
      exact .trans (.one (.exporter _) (by decide)) ((State.recomputeTrim_reach ..).mono (by decide))
    · rw [hdeliver] at hv
      have hexporter : v.exporter = (s.exporter.push f (.samples samples)).advance f := by
        rw [hv.exporter (by decide), State.recomputeTrim_exporter]
        rfl
      rw [hexporter]
      unfold Exporter.advance
      refine ⟨?_, fun hlast => ?_⟩
      · split <;> rfl
      · rw [if_neg (by exact hlast)]

end Sys2Proof.Machine
end

section
/-! SUPPORT. The choice of the arbiter and the grant (R165 to R171). -/

namespace Sys2Proof.Machine

/-! ### The choice (R170) -/

theorem mem_clientRank (p : StationId) (k : Client) : k ∈ clientRank p := by
  have hchannel (c : ChannelId) : c ∈ allChannels := by fin_cases c <;> decide
  have hstation (n : StationId) : n ∈ rotationOrder p := by
    refine List.mem_map.mpr ⟨n - (p + 1), ?_, add_sub_cancel _ _⟩
    generalize n - (p + 1) = m
    fin_cases m <;> decide
  simp only [clientRank, List.mem_append, List.mem_map, List.mem_singleton]
  cases k with
  | refresh => exact .inl (.inl (.inl (.inl rfl)))
  | capture c => exact .inl (.inl (.inl (.inr ⟨c, hchannel c, rfl⟩)))
  | readback c => exact .inl (.inl (.inr ⟨c, hchannel c, rfl⟩))
  | station n => exact .inl (.inr ⟨n, hstation n, rfl⟩)
  | exporter => exact .inr rfl

theorem le_foldl_max {l : List Nat} {a b : Nat} (h : a ≤ b ∨ a ∈ l) : a ≤ l.foldl max b := by
  induction l generalizing b with
  | nil => exact h.elim id fun h => absurd h (List.not_mem_nil)
  | cons x l ih =>
    refine ih ?_
    rcases h with h | h
    · exact .inl (h.trans (Nat.le_max_left ..))
    · rcases List.mem_cons.mp h with rfl | h
      · exact .inl (Nat.le_max_right ..)
      · exact .inr h

theorem foldl_max_mem (l : List Nat) (b : Nat) : l.foldl max b = b ∨ l.foldl max b ∈ l := by
  induction l generalizing b with
  | nil => exact .inl rfl
  | cons x l ih =>
    rcases ih (max b x) with h | h
    · rcases Nat.le_total b x with hle | hle
      · rw [Nat.max_eq_right hle] at h
        exact .inr (by rw [List.foldl_cons, Nat.max_eq_right hle, h]; exact List.mem_cons_self)
      · rw [Nat.max_eq_left hle] at h
        exact .inl (by rw [List.foldl_cons, Nat.max_eq_left hle, h])
    · exact .inr (List.mem_cons_of_mem _ h)

theorem State.level_le_topLevel (s : State) (k : Client) : s.level k ≤ s.topLevel :=
  le_foldl_max (.inr (List.mem_map_of_mem (mem_clientRank _ k)))

/-- The choice: none when no client requests, else the first in rank of the highest level. -/
theorem State.chooseClient_cases (s : State) : (s.chooseClient = none ∧ ∀ k, s.level k = 0)
    ∨ ∃ k, s.chooseClient = some k ∧ s.level k = s.topLevel ∧ s.topLevel ≠ 0
      ∧ ∃ before after, clientRank s.arbiter.stationPointer = before ++ k :: after ∧ ∀ j ∈ before, s.level j ≠ s.topLevel := by
  unfold State.chooseClient
  by_cases htop : s.topLevel = 0
  · exact .inl ⟨if_pos htop, fun k => Nat.le_zero.mp (htop ▸ s.level_le_topLevel k)⟩
  · rw [if_neg htop]
    rcases hfind : (clientRank s.arbiter.stationPointer).find? fun k => s.level k = s.topLevel with _ | k
    · rcases foldl_max_mem ((clientRank s.arbiter.stationPointer).map s.level) 0 with h | h
      · exact absurd h htop
      · obtain ⟨k, hk, hlevel⟩ := List.mem_map.mp h
        exact absurd (decide_eq_true hlevel) (List.find?_eq_none.mp hfind k hk)
    · obtain ⟨hlevel, before, after, hsplit, hbefore⟩ := List.find?_eq_some_iff_append.mp hfind
      exact .inr ⟨k, rfl, of_decide_eq_true hlevel, htop, before, after, hsplit, fun j hj => by simpa using hbefore j hj⟩

/-! ### Levels (R167) -/

theorem readerLevel_eq (entries : Nat) (resting : Bool) : readerLevel entries resting =
    match entries, resting with
    | 0, _ => 3 | 1, _ => 2 | 2, _ => 1 | 3, false => 1 | 3, true => 0 | _, _ => 0 := by
  match entries, resting with
  | 0, false | 0, true | 1, false | 1, true | 2, false | 2, true | 3, false | 3, true => rfl
  | n + 4, b =>
    unfold readerLevel
    rw [if_pos (show Config.playFifo ≤ n + 4 from Nat.le_add_left ..)]
    cases b <;> rfl

/-! ### The grant (R171) -/

theorem ReaderState.requests_iff {r : ReaderState} : r.requests = true ↔ ∃ f b slot, r = .request f b slot := by
  cases r with
  | request f b slot => exact ⟨fun _ => ⟨f, b, slot, rfl⟩, fun _ => rfl⟩
  | _ => exact ⟨(fun h => nomatch h), (fun ⟨_, _, _, h⟩ => nomatch h)⟩

theorem Readback.requests_of_level {u : Readback} (h : u.level ≠ 0) : u.reader.requests = true := by
  unfold Readback.level at h
  split at h
  · rename_i hand
    exact (Bool.and_eq_true _ _ ▸ hand).2
  · exact absurd rfl h

theorem Station.requests_of_level {st : Station} (h : st.level ≠ 0) : st.reader.requests = true := by
  unfold Station.level at h
  split at h
  · rename_i hand
    exact (Bool.and_eq_true _ _ ▸ hand).2
  · exact absurd rfl h

theorem Exporter.requests_of_level {e : Exporter} (h : e.level ≠ 0) : e.reader.requests = true := by
  unfold Exporter.level at h
  split at h
  · rename_i hand
    simp only [Bool.and_eq_true] at hand
    exact hand.1.2
  · exact absurd rfl h

theorem State.decideGrant_eq {s : State} {k : Client} (hfree : s.arbiter.grant = none) (hk : s.chooseClient = some k) :
    s.decideGrant = s.grantTo k := by
  unfold State.decideGrant
  rw [hfree]
  dsimp only
  rw [hk]

/-- The grant of the head entry of a capture FIFO. -/
theorem State.grantCapture_eq {s : State} {c : ChannelId} {x : Session} {f : Nat} {samples : List Sample}
    (hx : s.channelSession? c = some x) (hhead : (s.channels.get c).headFrame = some (f, samples)) :
    (∀ st b slot, s.store.place x.number f = some (st, b, slot) →
      s.grantCapture c = ((s.modStore fun _ => st).setGrant (.capture c) b slot).checkCondition)
    ∧ (s.store.place x.number f = none → s.grantCapture c = (s.popCapture c).settleLost x.number f .storeFull) := by
  unfold State.grantCapture
  rw [hx]
  dsimp only
  revert hhead
  unfold Channel.headFrame
  rcases (s.channels.get c).fifo with _ | ⟨e, rest⟩
  · exact fun h => nomatch h
  · cases e with
    | ordinary g l | preRoll g l =>
      intro hhead
      obtain ⟨rfl, rfl⟩ := Prod.mk.inj (Option.some.inj hhead)
      exact ⟨fun st b slot hplace => by dsimp only; rw [hplace], fun hplace => by dsimp only; rw [hplace]⟩
    | lost => exact fun h => nomatch h

theorem State.checkCondition_keeps (s : State) : s.checkCondition.arbiter = s.arbiter
    ∧ s.checkCondition.store = { s.store with condition := s.checkCondition.store.condition } := by
  unfold State.checkCondition
  dsimp only
  split <;> exact ⟨rfl, rfl⟩

/-! ### Settling until the port is BUSY -/

/-- Settling before the decision leaves of the arbiter all but whether a transfer still has its reader. -/
theorem Reach.arbiter_sansLive {K : List Kind} {s t : State} (h : Reach K s t) (hK : Kind.grant ∉ K) (hK' : Kind.refresh ∉ K) :
    { t.arbiter with grant := t.arbiter.grant.map Grant.sansLive } = { s.arbiter with grant := s.arbiter.grant.map Grant.sansLive } :=
  h.keeps (fun u => { u.arbiter with grant := u.arbiter.grant.map Grant.sansLive }) fun k hk _ _ hm => by
    cases hm with
    | orphan f hf => exact hf
    | grant => exact absurd hk hK
    | refresh => exact absurd hk hK'
    | _ => rfl

theorem State.settleOnce_arbiter (s : State) : s.settleOnce.arbiter.grant.map (·.client) = s.arbiter.grant.map (·.client)
    ∧ s.settleOnce.arbiter.stationPointer = s.arbiter.stationPointer := by
  have hsame := s.settleOnce_reach.arbiter_sansLive (by decide) (by decide)
  refine ⟨?_, (congrArg Arbiter.stationPointer hsame :)⟩
  have hgrant := (congrArg (fun a => a.grant.map (·.client)) hsame :)
  rw [Option.map_map, Option.map_map] at hgrant
  exact hgrant

end Sys2Proof.Machine
end

section
/-! SUPPORT. The statement about the arbiter (R34, R165 to R171). -/

namespace Sys2Proof.Machine

/-- The port granted for a block and slot, with the station pointer as given. -/
def State.grantedTo (s : State) (k : Client) (block slot : Nat) (pointer : StationId) : State :=
  { s with arbiter := { s.arbiter with grant := some ⟨k, true, block, slot⟩, stationPointer := pointer } }

section
variable {s : State}

/-! ### Grants to readers -/

theorem State.grantTo_readback {c : ChannelId} (h : s.level (.readback c) ≠ 0) : ∃ f b slot,
    (s.readback.get c).reader = .request f b slot
      ∧ s.grantTo (.readback c) = s.grantedTo (.readback c) b slot s.arbiter.stationPointer := by
  obtain ⟨f, b, slot, hreader⟩ := ReaderState.requests_iff.mp (Readback.requests_of_level h)
  refine ⟨f, b, slot, hreader, ?_⟩
  unfold State.grantTo
  dsimp only
  rw [hreader]
  rfl

theorem State.grantTo_station {n : StationId} (h : s.level (.station n) ≠ 0) : ∃ f b slot,
    (s.stations.get n).reader = .request f b slot ∧ s.grantTo (.station n) = s.grantedTo (.station n) b slot n := by
  obtain ⟨f, b, slot, hreader⟩ := ReaderState.requests_iff.mp (Station.requests_of_level h)
  refine ⟨f, b, slot, hreader, ?_⟩
  unfold State.grantTo
  dsimp only
  rw [hreader]
  rfl

theorem State.grantTo_exporter (h : s.level .exporter ≠ 0) : ∃ f b slot, s.exporter.reader = .request f b slot
    ∧ s.grantTo .exporter = s.grantedTo .exporter b slot s.arbiter.stationPointer := by
  obtain ⟨f, b, slot, hreader⟩ := ReaderState.requests_iff.mp (Exporter.requests_of_level h)
  refine ⟨f, b, slot, hreader, ?_⟩
  unfold State.grantTo
  dsimp only
  rw [hreader]
  rfl

/-! ### Grants to capture writers -/

theorem State.grantTo_capture {c : ChannelId} {x : Session} {f : Nat} {samples : List Sample}
    (hx : s.channelSession? c = some x) (hhead : (s.channels.get c).headFrame = some (f, samples)) :
    (∀ st b slot, s.store.place x.number f = some (st, b, slot) →
      (s.grantTo (.capture c)).arbiter = (s.grantedTo (.capture c) b slot s.arbiter.stationPointer).arbiter
      ∧ (s.grantTo (.capture c)).store = { st with condition := (s.grantTo (.capture c)).store.condition })
    ∧ (s.store.place x.number f = none → (s.grantTo (.capture c)).arbiter = s.arbiter
      ∧ ((s.grantTo (.capture c)).channels.get c).fifo = (s.channels.get c).fifo.tail) := by
  obtain ⟨hplaced, hfull⟩ := State.grantCapture_eq hx hhead
  refine ⟨fun st b slot hplace => ?_, fun hplace => ?_⟩
  · obtain ⟨harbiter, hstore⟩ := State.checkCondition_keeps ((s.modStore fun _ => st).setGrant (.capture c) b slot)
    rw [State.grantTo, hplaced st b slot hplace]
    exact ⟨harbiter, hstore⟩
  · have hreach := (s.popCapture c).settleLost_reach x.number f .storeFull
    rw [State.grantTo, hfull hplace]
    refine ⟨hreach.arbiter (by decide), ?_⟩
    rw [hreach.channels (by decide)]
    exact congrArg Channel.fifo (PerChannel.get_set_self ..)

/-- A client that requests holds the port after the decision for it; a capture writer, where its frame finds a place. -/
theorem State.grantTo_client {k : Client} (hlevel : s.level k ≠ 0)
    (hcapture : ∀ c, k = .capture c → ∃ x f samples, s.channelSession? c = some x
      ∧ (s.channels.get c).headFrame = some (f, samples) ∧ s.store.place x.number f ≠ none) :
    (s.grantTo k).arbiter.grant.map (·.client) = some k
      ∧ (∀ n, k = .station n → (s.grantTo k).arbiter.stationPointer = n)
      ∧ ((∀ n, k ≠ .station n) → (s.grantTo k).arbiter.stationPointer = s.arbiter.stationPointer) := by
  cases k with
  | refresh => exact ⟨rfl, (fun _ h => nomatch h), fun _ => rfl⟩
  | capture c =>
    obtain ⟨x, f, samples, hx, hhead, hplace⟩ := hcapture c rfl
    obtain ⟨⟨st, b, slot⟩, hplaced⟩ := Option.ne_none_iff_exists'.mp hplace
    rw [((State.grantTo_capture hx hhead).1 st b slot hplaced).1]
    exact ⟨rfl, (fun _ h => nomatch h), fun _ => rfl⟩
  | readback c =>
    obtain ⟨f, b, slot, -, hgrant⟩ := State.grantTo_readback hlevel
    rw [hgrant]
    exact ⟨rfl, (fun _ h => nomatch h), fun _ => rfl⟩
  | station n =>
    obtain ⟨f, b, slot, -, hgrant⟩ := State.grantTo_station hlevel
    rw [hgrant]
    exact ⟨rfl, fun _ h => Client.station.inj h, fun h => absurd rfl (h n)⟩
  | exporter =>
    obtain ⟨f, b, slot, -, hgrant⟩ := State.grantTo_exporter hlevel
    rw [hgrant]
    exact ⟨rfl, (fun _ h => nomatch h), fun _ => rfl⟩

theorem State.level_of_chooseClient {k : Client} (h : s.chooseClient = some k) : s.level k ≠ 0 ∧ (∀ j, s.level j ≤ s.level k)
    ∧ ∃ before after, clientRank s.arbiter.stationPointer = before ++ k :: after ∧ ∀ j ∈ before, s.level j < s.level k := by
  rcases s.chooseClient_cases with ⟨hnone, -⟩ | ⟨k', hk', hlevel, htop, before, after, hsplit, hbefore⟩
  · exact nomatch hnone.symm.trans h
  · obtain rfl := Option.some.inj (hk'.symm.trans h)
    rw [hlevel]
    exact ⟨htop, s.level_le_topLevel, before, after, hsplit, fun j hj => lt_of_le_of_ne (s.level_le_topLevel j) (hbefore j hj)⟩

/-- One decision settles who holds the port: a round after it grants nothing (R165). -/
theorem State.settle_client {k : Client} (hfree : s.settleOnce.arbiter.grant = none) (hk : s.settleOnce.chooseClient = some k)
    (hgranted : (s.settleOnce.grantTo k).arbiter.grant.map (·.client) = some k) :
    s.settle = (s.settleOnce.grantTo k).settleOnce := by
  have hround : s.settle = (s.settleOnce.grantTo k).settleRounds (s.waitingFrames + 1) := by
    rw [State.settle, State.settleRounds_succ, if_pos ⟨hfree, by rw [hk]; exact Option.some_ne_none _⟩, State.decideGrant_eq hfree hk]
  have hbusy : (s.settleOnce.grantTo k).settleOnce.arbiter.grant ≠ none := fun hnone => by
    have hsame := (s.settleOnce.grantTo k).settleOnce_arbiter.1
    rw [hnone, hgranted] at hsame
    exact nomatch hsame
  rw [hround, State.settleRounds_succ, if_neg fun h => hbusy h.1]

/-- Who holds the port once everything has settled, and where the station pointer stands. -/
theorem State.settle_arbiter {k : Client} (hfree : s.settleOnce.arbiter.grant = none) (hk : s.settleOnce.chooseClient = some k)
    (hcapture : ∀ c, k = .capture c → ∃ x f samples, s.settleOnce.channelSession? c = some x
      ∧ (s.settleOnce.channels.get c).headFrame = some (f, samples) ∧ s.settleOnce.store.place x.number f ≠ none) :
    s.settle.arbiter.grant.map (·.client) = some k ∧ (∀ n, k = .station n → s.settle.arbiter.stationPointer = n)
      ∧ ((∀ n, k ≠ .station n) → s.settle.arbiter.stationPointer = s.arbiter.stationPointer) := by
  obtain ⟨hgranted, hstation, hother⟩ := State.grantTo_client (State.level_of_chooseClient hk).1 hcapture
  obtain ⟨hclient, hpointer⟩ := (s.settleOnce.grantTo k).settleOnce_arbiter
  rw [State.settle_client hfree hk hgranted]
  exact ⟨hclient.trans hgranted, fun n h => hpointer.trans (hstation n h),
    fun h => hpointer.trans ((hother h).trans s.settleOnce_arbiter.2)⟩

end

/-- Settles O54: the choice by `State.chooseClient_cases`, the grants client by client, the outcome of settling by the one decision
it makes. -/
theorem arbiterGrantsByLevelAndRank : Obligations.ArbiterGrantsByLevelAndRank := by
  unfold Obligations.ArbiterGrantsByLevelAndRank
  refine ⟨fun s => ⟨?_, fun k hk => (State.level_of_chooseClient hk).2⟩, fun p => ?_, fun s => rfl, fun s c => ?_,
    fun s c hcurrent hrequests => ?_, fun s n henable htransport htakes hrequests => ?_, fun s hphase hrequests => ?_,
    fun s => ⟨fun n h => ?_, fun c h => ?_, fun h => ?_⟩, fun s => ⟨fun h => ?_, fun k hfree hk => ?_⟩,
    fun s k hfree hk hcapture => ?_, fun s => ⟨_, rfl, rfl⟩, fun s g hgrant hclient => ?_⟩
  · rcases s.chooseClient_cases with ⟨hnone, hzero⟩ | ⟨k, hk, hlevel, htop, -⟩
    · exact ⟨fun _ => hzero, fun _ => hnone⟩
    · rw [hk]
      exact ⟨(fun h => nomatch h), fun hzero => absurd (hlevel.symm.trans (hzero k)) htop⟩
  · fin_cases p <;> rfl
  · exact congrArg (min 3) List.countP_eq_length_filter
  · rw [State.level, Readback.level, hrequests, Option.isSome_iff_ne_none.mpr hcurrent, readerLevel_eq]
    rfl
  · rw [State.level, Station.level, henable, hrequests, decide_eq_true htransport, readerLevel_eq]
    rw [show (s.stations.get n).takes.isEmpty = false from by simpa using htakes]
    rfl
  · rw [State.level, Exporter.level, hphase, hrequests]
    simp only [decide_true, Bool.true_and, decide_eq_true_eq]
    rfl
  · by_contra hne
    exact nomatch h.symm.trans (Station.requests_of_level hne)
  · by_contra hne
    exact nomatch h.symm.trans (Readback.requests_of_level hne)
  · by_contra hne
    exact nomatch h.symm.trans (Exporter.requests_of_level hne)
  · unfold State.decideGrant
    rcases h with h | h
    · obtain ⟨g, hg⟩ := Option.ne_none_iff_exists'.mp h
      rw [hg]
    · rw [h]
      cases s.arbiter.grant <;> rfl
  · intro granted
    have hlevel := (State.level_of_chooseClient hk).1
    rw [State.decideGrant_eq hfree hk]
    refine ⟨fun h => ?_, fun c h => ?_, fun n h => ?_, fun h => ?_, fun c x f samples h hx hhead => ?_⟩
    · subst h
      rfl
    · subst h
      exact State.grantTo_readback hlevel
    · subst h
      exact State.grantTo_station hlevel
    · subst h
      exact State.grantTo_exporter hlevel
    · subst h
      exact State.grantTo_capture hx hhead
  · obtain ⟨hclient, hstation, hother⟩ := State.settle_arbiter hfree hk hcapture
    refine ⟨hclient, ?_⟩
    cases k with
    | station n => exact hstation n rfl
    | _ => exact hother fun n h => nomatch h
  · refine ⟨_, ?_, rfl⟩
    rw [show exec .refreshBurstEnd s = execRefreshBurstEnd s from rfl, execRefreshBurstEnd, hgrant]
    dsimp only
    rw [hclient]
    rfl

end Sys2Proof.Machine
end

section
/-! SUPPORT. The packets of a station line (R129, R147, R201, R202). -/

namespace Sys2Proof.Machine

/-! ### The body of a STATE packet (R201) -/

/-- The body of the STATE packet of a port as it stands, with its current take. -/
def Station.stateBytes (st : Station) (current : Option Take) : List Byte :=
  u8 st.link.code ++ yesNo st.config.enable ++ yesNo st.accepting ++ u8 st.transport.code ++ yesNo st.parked
    ++ num16 (st.takes.head?.map (·.session)) ++ num16 (st.takes.head?.map (·.number))
    ++ opt8 (current.map (·.capture.code)) ++ opt8 (current.map (·.dispatch.code)) ++ opt8 (current.map (·.takeClass.code))
    ++ opt32 st.cursor ++ yesNo st.cursorPlayed ++ u8 st.takes.length ++ u8 st.config.depth ++ u8 st.status.code
    ++ num16 st.statusMark ++ yesNo st.skipFlag ++ st.config.text

theorem State.stateBody_eq (s : State) (n : StationId) :
    s.stateBody n = (s.stations.get n).stateBytes ((s.currentOf n).map (·.1)) := by
  simp only [State.stateBody, State.stateHead, Station.stateTail, Station.stateBytes, List.append_assoc]

/-- The current take of a port is found in the list, the take table and the session table. -/
theorem State.currentOf_congr {s t : State} {n : StationId} (htakes : t.takes = s.takes) (hsessions : t.sessions = s.sessions)
    (hlist : (t.stations.get n).takes = (s.stations.get n).takes) : t.currentOf n = s.currentOf n := by
  have htake (r : TakeRef) : t.take? r = s.take? r := by rw [State.take?, htakes]; rfl
  have hsession (k : Nat) : t.session? k = s.session? k := by rw [State.session?, hsessions]; rfl
  unfold State.currentOf
  simp only [hlist, htake, hsession]

/-! ### A line served at the end of a command (R147, R202) -/

theorem State.transmit_stateBody (s : State) (n : StationId) : s.transmit.stateBody n = s.stateBody n := by
  have hreach := s.transmit_reach
  rw [State.stateBody_eq, State.stateBody_eq, State.transmit_stations,
    State.currentOf_congr (hreach.takes (by decide)) (hreach.sessions (by decide)) (by rw [State.transmit_stations])]

theorem Station.sendsAudio_iff {st : Station} : st.sendsAudio = true ↔ st.config.enable = true ∧ st.transport ≠ .stopped := by
  rw [Station.sendsAudio, Bool.and_eq_true, decide_eq_true_eq]

section
variable {before v : State} {n : StationId} (hready : v.link.device = .ready)
include hready

/-- What begins on a free line. -/
theorem State.finish_serves (hline : (v.stations.get n).line = none) :
    (∀ a, (v.stations.get n).sendsAudio = true → (v.stations.get n).audioWaiting = some a →
      ((State.finish before v).stations.get n).line = some (.audio a))
    ∧ ((v.stations.get n).audioWaiting = none ∨ (v.stations.get n).sendsAudio = false →
      ((State.finish before v).stations.get n).audioWaiting = none
        ∧ (∀ a, ((State.finish before v).stations.get n).line ≠ some (.audio a))
        ∧ ((v.stations.get n).stateDue = true → ((State.finish before v).stations.get n).line =
          some (.state (v.stateBody n) (v.stations.get n).skipFlag))) := by
  have hspec := Station.startPacket_spec
    { v.stations.get n with stateDue := (v.stations.get n).stateDue || before.stateChanged v.transmit n } (v.transmit.stateBody n)
  obtain ⟨-, hfree⟩ := hspec
  obtain ⟨haudio, hstate⟩ := hfree hline
  rw [State.finish_get hready]
  refine ⟨fun a hsends hwaits => ?_, fun hquiet => ?_⟩
  · rw [haudio a hwaits hsends]
  · rw [hstate hquiet]
    refine ⟨?_, fun a => ?_, fun hdue => ?_⟩
    · split <;> rfl
    · split
      · exact fun h => nomatch h
      · exact fun h => nomatch hline.symm.trans h
    · dsimp only
      rw [hdue, Bool.true_or, if_pos rfl, State.transmit_stateBody]

theorem State.finish_busyLine {p : Packet} (hline : (v.stations.get n).line = some p)
    (hdue : (v.stations.get n).stateDue = true) : ((State.finish before v).stations.get n).line = some p
      ∧ ((State.finish before v).stations.get n).stateDue = true := by
  have hspec := Station.startPacket_spec
    { v.stations.get n with stateDue := (v.stations.get n).stateDue || before.stateChanged v.transmit n } (v.transmit.stateBody n)
  rw [State.finish_get hready, hspec.1 p hline]
  exact ⟨hline, by rw [hdue]; rfl⟩

end

/-- The station part of a change to one port. -/
theorem State.modStation_get (s : State) (n : StationId) (f : Station → Station) :
    (s.modStation n f).stations.get n = f (s.stations.get n) := PerStation.get_set_self ..

/-- Two changes of a port that differ in the packets of its line alone. -/
theorem State.modStation_offLine_congr {s : State} {n : StationId} {f g : Station → Station}
    (h : (f (s.stations.get n)).offLine = (g (s.stations.get n)).offLine) :
    (s.modStation n f).offLine = (s.modStation n g).offLine := by
  have hboth : s.modStation n f = (s.modStation n g).modStation n fun _ => f (s.stations.get n) := by
    fin_cases n <;> rfl
  rw [hboth]
  exact State.modStation_offLine _ _ _ (by rw [State.modStation_get]; exact h)

theorem State.modStation_body {s : State} {n : StationId} {f : Station → Station}
    (hlist : (f (s.stations.get n)).takes = (s.stations.get n).takes) : (s.modStation n f).stateBody n =
      (f (s.stations.get n)).stateBytes ((s.currentOf n).map (·.1)) := by
  rw [State.stateBody_eq, State.modStation_get]
  rw [State.currentOf_congr (s := s) (t := s.modStation n f) rfl rfl (by rw [State.modStation_get, hlist])]

/-- Settles O60: what begins on a line is decided by `State.finish_serves` at the end of each of the three events. -/
theorem stationLinesSendPackets : Obligations.StationLinesSendPackets := by
  unfold Obligations.StationLinesSendPackets
  intro s n st sends quiet current body
  have hquiet (w : Station) (hw : w.config = st.config) (hw' : w.transport = st.transport) (ha : w.audioWaiting = st.audioWaiting)
      (h : quiet) : w.audioWaiting = none ∨ w.sendsAudio = false := by
    rcases h with h | h
    · exact .inl (ha.trans h)
    · refine .inr (Bool.eq_false_iff.mpr fun hsends => h ?_)
      rw [Station.sendsAudio_iff, hw, hw'] at hsends
      exact hsends
  refine ⟨fun hready => ?_, fun hstarting => ?_, fun sent skip hline => ?_, fun samples hline => ?_⟩
  · have hst : (s.modStation n fun st => { st with stateDue := true }).stations.get n = { st with stateDue := true } :=
      State.modStation_get ..
    refine ⟨State.finish s (s.modStation n fun st => { st with stateDue := true }), ?_, ?_, fun hfree hq => ?_, fun hbusy => ?_⟩
    · rw [show exec (.stateRefreshTimer n) s = execStateRefreshTimer n s from rfl, execStateRefreshTimer, hready]
    · rw [State.finish_offLine, State.modStation_offLine _ _ _ rfl]
    · have hserves := (State.finish_serves (before := s) (v := s.modStation n fun st => { st with stateDue := true }) (n := n) hready
        (by rw [hst]; exact hfree)).2 (by rw [hst]; exact hquiet _ rfl rfl rfl hq)
      have hbegins := hserves.2.2 (by rw [hst])
      rw [State.modStation_body rfl, hst] at hbegins
      exact hbegins
    · obtain ⟨p, hp⟩ := Option.ne_none_iff_exists'.mp hbusy
      have hkept := State.finish_busyLine (before := s) (v := s.modStation n fun st => { st with stateDue := true }) (n := n) hready
        (p := p) (by rw [hst]; exact hp) (by rw [hst])
      exact ⟨hkept.1.trans hp.symm, hkept.2⟩
  · rw [show exec (.stateRefreshTimer n) s = execStateRefreshTimer n s from rfl, execStateRefreshTimer, hstarting]
  · let f : Station → Station := fun st => { st with line := none, stateTimer := some 0, skipFlag := st.skipFlag && !skip }
    have hst : (s.modStation n f).stations.get n = f st := State.modStation_get ..
    refine ⟨State.finish s (s.modStation n f), ?_, ?_, fun hready => ?_⟩
    · rw [show exec (.statePacketSent n) s = execStatePacketSent n s from rfl, execStatePacketSent, hline]
    · rw [State.finish_offLine]
      exact State.modStation_offLine_congr rfl
    · obtain ⟨haudio, hstate⟩ := State.finish_serves (before := s) (v := s.modStation n f) (n := n) hready (by rw [hst])
      rw [hst, State.modStation_body rfl] at hstate
      rw [hst] at haudio
      refine ⟨fun a hsends hwaits => haudio a (Station.sendsAudio_iff.mpr hsends) hwaits, fun hq => ?_, fun hq hdue => ?_⟩
      · obtain ⟨hnone, hline, -⟩ := hstate (hquiet _ rfl rfl rfl hq)
        exact ⟨hnone, hline⟩
      · exact (hstate (hquiet _ rfl rfl rfl hq)).2.2 hdue
  · let f : Station → Station := fun st => { st with line := none }
    have hst : (s.modStation n f).stations.get n = f st := State.modStation_get ..
    refine ⟨State.finish s (s.modStation n f), ?_, ?_, fun hready => ?_⟩
    · rw [show exec (.audioPacketSent n) s = execAudioPacketSent n s from rfl, execAudioPacketSent, hline]
    · rw [State.finish_offLine, State.modStation_offLine _ _ _ rfl]
    · obtain ⟨haudio, hstate⟩ := State.finish_serves (before := s) (v := s.modStation n f) (n := n) hready (by rw [hst])
      rw [hst, State.modStation_body rfl] at hstate
      rw [hst] at haudio
      refine ⟨fun a hsends hwaits => haudio a (Station.sendsAudio_iff.mpr hsends) hwaits, fun hq => ?_, fun hq hdue => ?_⟩
      · obtain ⟨hnone, hline, -⟩ := hstate (hquiet _ rfl rfl rfl hq)
        exact ⟨hnone, hline⟩
      · exact (hstate (hquiet _ rfl rfl rfl hq)).2.2 hdue

end Sys2Proof.Machine
end

section
/-! SUPPORT. The motion of a station port: its playout emptied, its reader begun afresh, its transport changed (R131 to R140). -/

namespace Sys2Proof.Machine

/-- A port without its cursor and its playout. -/
def Station.sansMotion (st : Station) : Station :=
  { st with
    cursor := none, cursorPlayed := false, fifo := [], resting := false, cycle := none, reader := .stopped, fetch := none
    frameTimer := none }

/-- A port whose playout has been emptied (R140). -/
def Station.emptied (st : Station) : Station :=
  { st with fifo := [], resting := false, cycle := none, reader := .stopped, fetch := none, frameTimer := some 0 }

theorem State.emptyPlayout_get (s : State) (n : StationId) :
    (s.emptyPlayout n).stations.get n = (s.stations.get n).emptied := State.modStation_get (s.killGrant (.station n)) n _

theorem Station.takeMove_sansMotion (st : Station) (land : Nat) : (st.takeMove land).sansMotion = st.sansMotion := by
  unfold Station.takeMove
  split <;> rfl

theorem Station.beginBackward_sansMotion (st : Station) (playable : Nat → Bool) (start ub p : Nat) :
    (st.beginBackward playable start ub p).sansMotion = st.sansMotion := by
  unfold Station.beginBackward
  dsimp only
  split
  · rfl
  · exact (st.takeMove_sansMotion _ :)

theorem State.beginMotion_sansMotion (s : State) (n : StationId) :
    ((s.beginMotion n).stations.get n).sansMotion = (s.stations.get n).sansMotion := by
  unfold State.beginMotion
  dsimp only
  split
  · split
    · rfl
    · rw [State.modStation_get]
      rfl
    · rw [State.modStation_get]
      rfl
    · rw [State.modStation_get]
      rfl
    · rw [State.modStation_get]
      exact Station.beginBackward_sansMotion ..
  · rfl

theorem State.restartPlayout_sansMotion (s : State) (n : StationId) :
    ((s.restartPlayout n).stations.get n).sansMotion = (s.stations.get n).sansMotion := by
  rw [State.restartPlayout, State.beginMotion_sansMotion, State.emptyPlayout_get]
  rfl

theorem State.backspace_sansMotion (s : State) (n : StationId) :
    ((s.backspace n).stations.get n).sansMotion = (s.stations.get n).sansMotion := by
  unfold State.backspace
  dsimp only
  split
  · rw [State.modStation_get]
    rfl
  · rfl

/-- A port at the change of its transport, before its playout restarts (R135, R136). -/
def Station.turned (st : Station) (t : Transport) : Station :=
  { st with
    transport := t, parked := false, backspaceDue := nextBackspaceDue st.transport t st.backspaceDue, stateDue := true
    audioWaiting := waitingUnder t st.audioWaiting }

theorem State.setTransport_same {s : State} {n : StationId} {t : Transport} (h : (s.stations.get n).transport = t) :
    s.setTransport n t = s := if_pos h

theorem State.setTransport_sansMotion {s : State} {n : StationId} {t : Transport} (h : (s.stations.get n).transport ≠ t) :
    ((s.setTransport n t).stations.get n).sansMotion = ((s.stations.get n).turned t).sansMotion := by
  unfold State.setTransport
  dsimp only
  rw [if_neg h, State.restartPlayout_sansMotion]
  split
  · rw [State.backspace_sansMotion, State.modStation_get]
    rfl
  · rw [State.modStation_get]
    rfl

/-- The playout of a STOPPED port restarts with nothing to fetch. -/
theorem State.restartPlayout_stopped {s : State} {n : StationId} (h : (s.stations.get n).transport = .stopped) :
    s.restartPlayout n = s.emptyPlayout n := by
  unfold State.restartPlayout State.beginMotion
  dsimp only
  rw [State.emptyPlayout_get, show (s.stations.get n).emptied.transport = .stopped from h]
  split <;> rfl

/-- A port that stops: its cursor stays, its playout is emptied. -/
theorem State.setTransport_stopped {s : State} {n : StationId} (h : (s.stations.get n).transport ≠ .stopped) :
    (s.setTransport n .stopped).stations.get n = ((s.stations.get n).turned .stopped).emptied := by
  let u := s.modStation n fun st => st.turned .stopped
  have hu : u.stations.get n = (s.stations.get n).turned .stopped := State.modStation_get ..
  have hset : s.setTransport n .stopped = u.restartPlayout n := by
    unfold State.setTransport
    dsimp only
    rw [if_neg h, if_neg fun hand => h hand.1]
    rfl
  rw [hset, State.restartPlayout_stopped (by rw [hu]; rfl), State.emptyPlayout_get, hu]

theorem State.setTransport_transport (s : State) (n : StationId) (t : Transport) :
    ((s.setTransport n t).stations.get n).transport = t := by
  by_cases h : (s.stations.get n).transport = t
  · rw [State.setTransport_same h, h]
  · exact (congrArg Station.transport (State.setTransport_sansMotion h) :)

end Sys2Proof.Machine
end

section
/-! SUPPORT. The frame times of a station (R137 to R141). -/

namespace Sys2Proof.Machine

/-- The state in which a frame time is worked off: its timer has restarted. -/
def State.ticked (s : State) (n : StationId) : State := s.modStation n fun st => { st with frameTimer := some 0 }

theorem State.ticked_get (s : State) (n : StationId) :
    (s.ticked n).stations.get n = { s.stations.get n with frameTimer := some 0 } := State.modStation_get ..

theorem exec_stationFrameTime {s : State} {n : StationId} (hready : s.link.device = .ready)
    (henable : (s.stations.get n).config.enable = true) (hmoving : (s.stations.get n).transport ≠ .stopped) :
    exec (.stationFrameTime n) s = .next (State.settleAll s (s.stationFrame n)) := if_pos ⟨hready, henable, hmoving⟩

section
variable {s : State} {n : StationId}

theorem State.stationFrame_head {e : PlayEntry} {rest : List PlayEntry} (hfifo : (s.stations.get n).fifo = e :: rest) :
    (s.stationFrame n).stations.get n = if (s.stations.get n).transport = .holding then
        { ({ s.stations.get n with frameTimer := some 0 } : Station).sendHead e with transport := .playing }
      else ({ s.stations.get n with frameTimer := some 0 } : Station).sendHead e := by
  have hst := s.ticked_get n
  have hhead : ((s.ticked n).stations.get n).fifo = e :: rest := by rw [hst]; exact hfifo
  unfold State.stationFrame
  dsimp only
  rw [show s.modStation n (fun st => { st with frameTimer := some 0 }) = s.ticked n from rfl, hhead]
  dsimp only
  rw [State.modStation_get, hst]

theorem State.stationFrame_empty {t : Take} {x : Session} (hfifo : (s.stations.get n).fifo = [])
    (hcurrent : s.currentOf n = some (t, x)) : s.stationFrame n =
      if (s.stations.get n).transport.isScan then (s.ticked n).scanEmpty n t x else (s.ticked n).playEmpty n t := by
  have hst := s.ticked_get n
  have hhead : ((s.ticked n).stations.get n).fifo = [] := by rw [hst]; exact hfifo
  have hticked : (s.ticked n).currentOf n = some (t, x) := by
    rw [← hcurrent]
    exact State.currentOf_congr rfl rfl (by rw [hst])
  unfold State.stationFrame
  dsimp only
  rw [show s.modStation n (fun st => { st with frameTimer := some 0 }) = s.ticked n from rfl, hhead]
  dsimp only
  rw [hticked]
  dsimp only
  rw [hst]

theorem State.underrun_get (s : State) (n : StationId) : (s.underrun n).stations.get n =
    { (s.stations.get n).send none with underruns := min 65535 ((s.stations.get n).underruns + 1) } :=
  s.modStation_get n fun st => { st.send none with underruns := min 65535 (st.underruns + 1) }

/-! ### Scans -/

theorem State.scanEmpty_parked {t : Take} {x : Session} (hparked : (s.stations.get n).parked = true) :
    (s.scanEmpty n t x).stations.get n = (s.stations.get n).send none := by
  unfold State.scanEmpty
  dsimp only
  rw [if_pos hparked, State.modStation_get]

theorem State.scanEmpty_cycle {t : Take} {x : Session} {k : ScanCycle} {p : Nat} (hparked : (s.stations.get n).parked = false)
    (hcycle : (s.stations.get n).cycle = some k) (hcursor : (s.stations.get n).cursor = some p) :
    (s.scanEmpty n t x).stations.get n = if k.scanPlay = 0 then
        ((s.stations.get n).send none).strideMove (s.playable (s.stations.get n) x) t.leadIn (upperBound x t) p k.scanStride
      else { (s.stations.get n).send none with underruns := min 65535 ((s.stations.get n).underruns + 1) } := by
  unfold State.scanEmpty
  dsimp only
  rw [if_neg (by rw [hparked]; exact Bool.false_ne_true), hcycle, hcursor]
  dsimp only
  split
  · rw [State.modStation_get]
  · exact s.underrun_get n

end

/-- A stride with X = 0 sends the silence that was asked for and counts nothing (R138, R139). -/
theorem Station.strideMove_keeps {st : Station} (hx : st.config.scanPlay = 0) (hmoving : st.transport.isScan = true)
    (playable : Nat → Bool) (start ub p y : Nat) : (st.strideMove playable start ub p y).audioWaiting = st.audioWaiting
      ∧ (st.strideMove playable start ub p y).cursorPlayed = false
      ∧ (st.strideMove playable start ub p y).underruns = st.underruns := by
  unfold Station.strideMove
  split
  · split <;> exact ⟨rfl, rfl, rfl⟩
  · split
    · exact ⟨rfl, rfl, rfl⟩
    · dsimp only
      unfold Station.beginBackward
      rw [if_pos (by exact hx)]
      exact ⟨rfl, rfl, rfl⟩
  · rename_i h
    rw [h] at hmoving
    exact nomatch hmoving
  · rename_i h
    rw [h] at hmoving
    exact nomatch hmoving
  · rename_i h
    rw [h] at hmoving
    exact nomatch hmoving

theorem Station.strideMove_fwd {st : Station} (h : st.transport = .scanFwd) (playable : Nat → Bool) (start ub p y : Nat) :
    (ub < p + y → (st.strideMove playable start ub p y).cursor = some ub ∧ (st.strideMove playable start ub p y).parked = true)
    ∧ (p + y ≤ ub → (st.strideMove playable start ub p y).cursor = some (landForward playable ub (p + y))
      ∧ (st.strideMove playable start ub p y).parked = st.parked) := by
  unfold Station.strideMove
  rw [h]
  dsimp only
  refine ⟨fun hpast => ?_, fun hwithin => ?_⟩
  · rw [if_pos hpast]
    exact ⟨rfl, rfl⟩
  · rw [if_neg (Nat.not_lt.mpr hwithin)]
    exact ⟨rfl, rfl⟩

theorem Station.strideMove_back {st : Station} (h : st.transport = .scanBack) (hx : st.config.scanPlay = 0) (playable : Nat → Bool)
    (start ub p y : Nat) : (p < start + y → (st.strideMove playable start ub p y).cursor = some (landBackward playable start ub start)
      ∧ (st.strideMove playable start ub p y).parked = true)
    ∧ (start + y ≤ p → (st.strideMove playable start ub p y).cursor = some (landBackward playable start ub (p - y))
      ∧ (st.strideMove playable start ub p y).parked = st.parked) := by
  unfold Station.strideMove
  rw [h]
  dsimp only
  refine ⟨fun hpast => ?_, fun hwithin => ?_⟩
  · rw [if_pos hpast]
    exact ⟨rfl, rfl⟩
  · rw [if_neg (Nat.not_lt.mpr hwithin)]
    unfold Station.beginBackward
    rw [if_pos (by exact hx)]
    exact ⟨rfl, rfl⟩

section
variable {s : State} {n : StationId}

/-! ### Playing -/

/-- The end of the take (R137). -/
theorem State.endOfTake_get (hmoving : (s.stations.get n).transport ≠ .stopped) (e : Nat) : (s.endOfTake n e).stations.get n =
    { (({ s.stations.get n with cursor := some e, cursorPlayed := true } : Station).turned .stopped).emptied with
      stoppedByPart := true, status := .endOfTake, statusMark := none, stateDue := true } := by
  have hst : (s.modStation n fun st => { st with cursor := some e, cursorPlayed := true }).stations.get n =
      { s.stations.get n with cursor := some e, cursorPlayed := true } := State.modStation_get ..
  rw [State.endOfTake, State.setStatus, State.modStation_get, State.stopByPart, State.modStation_get,
    State.setTransport_stopped (by rw [hst]; exact hmoving), hst]

theorem State.playEmpty_ends {t : Take} {e : Nat} (hstop : t.stop = some e) (hreader : (s.stations.get n).reader = .stopped) :
    s.playEmpty n t = s.endOfTake n e := by
  unfold State.playEmpty
  dsimp only
  rw [hstop, hreader]

theorem State.playEmpty_waits {t : Take} (hreader : (s.stations.get n).reader = .waiting) :
    (s.playEmpty n t).stations.get n = { (s.stations.get n).send none with transport := .holding } := by
  unfold State.playEmpty
  dsimp only
  split
  · next h => exact nomatch hreader.symm.trans h
  · next h _ =>
    rw [State.modStation_get, ← h]
    rfl
  · exact State.modStation_get ..
  · next h _ _ => exact absurd hreader h

theorem State.playEmpty_underrun {t : Take} {f b slot : Nat} (hreader : (s.stations.get n).reader = .request f b slot)
    (hplaying : (s.stations.get n).transport = .playing) : s.playEmpty n t = s.underrun n := by
  unfold State.playEmpty
  dsimp only
  rw [hreader, hplaying]
  cases t.stop <;> rfl

end

/-- Settles O59: a frame time by what is buffered and what the transport is, one lemma for each outcome. -/
theorem stationFrameTimesPlay : Obligations.StationFrameTimesPlay := by
  unfold Obligations.StationFrameTimesPlay
  intro s n st
  refine ⟨fun hidle => ?_, fun hready henable hmoving =>
    ⟨fun e rest hfifo => ?_, fun t x hfifo hcurrent hscan => ?_, fun t x hfifo hcurrent hplays => ?_⟩⟩
  · refine if_neg fun ⟨hready, henable, hmoving⟩ => ?_
    rcases hidle with h | h | h
    · exact nomatch hready.symm.trans h
    · exact nomatch henable.symm.trans h
    · exact hmoving h
  · have hst := State.stationFrame_head hfifo
    refine ⟨s.stationFrame n, exec_stationFrameTime hready henable hmoving, ?_⟩
    dsimp only
    rw [hst]
    have hsent (w : Station) (hw : w = ({ st with frameTimer := some 0 } : Station).sendHead e) :
        w.fifo = rest ∧ w.audioWaiting = some (e.samples.getD (List.replicate 256 0)) ∧ w.underruns = st.underruns
        ∧ w.transport = st.transport ∧ (e.move = none → w.cursor = some e.frame ∧ w.cursorPlayed = true)
        ∧ (∀ m, e.move = some m → w.cursor = some m ∧ w.cursorPlayed = false) ∧ w.parked = st.parked
        ∧ w.resting = (st.resting && decide (2 < st.fifo.tail.length)) := by
      subst hw
      have htail : st.fifo.tail = rest := congrArg List.tail hfifo
      unfold Station.sendHead
      rcases e.move with _ | m
      · exact ⟨htail, rfl, rfl, rfl, fun _ => ⟨rfl, rfl⟩, (fun _ h => nomatch h), rfl, rfl⟩
      · exact ⟨htail, rfl, rfl, rfl, (fun h => nomatch h), fun m' h => ⟨h ▸ rfl, rfl⟩, rfl, rfl⟩
    obtain ⟨hrest, haudio, hunder, htransport, hcursor, hmoved, hparked, hresting⟩ := hsent _ rfl
    have hrested (hlen : rest.length ≤ 2) : (st.resting && decide (2 < st.fifo.tail.length)) = false := by
      rw [show st.fifo.tail = rest from congrArg List.tail hfifo, decide_eq_false (Nat.not_lt.mpr hlen), Bool.and_false]
    split
    · exact ⟨hrest, haudio, hunder, rfl, hcursor, hmoved, hparked, fun hlen => hresting.trans (hrested hlen)⟩
    · exact ⟨hrest, haudio, hunder, htransport, hcursor, hmoved, hparked, fun hlen => hresting.trans (hrested hlen)⟩
  · have hisScan : st.transport.isScan = true := by
      rcases hscan with h | h <;> rw [h] <;> rfl
    have hframe : s.stationFrame n = (s.ticked n).scanEmpty n t x :=
      (State.stationFrame_empty hfifo hcurrent).trans (if_pos hisScan)
    have hexec := exec_stationFrameTime hready henable hmoving
    have hst := s.ticked_get n
    rw [hframe] at hexec
    intro silent
    refine ⟨fun hparked => ⟨_, hexec, ?_⟩, fun k p hparked hcycle hcursor => ?_⟩
    · dsimp only
      rw [State.scanEmpty_parked (by rw [hst]; exact hparked), hst]
      rfl
    · have hmade := State.scanEmpty_cycle (s := s.ticked n) (t := t) (x := x) (k := k) (p := p) (by rw [hst]; exact hparked)
        (by rw [hst]; exact hcycle) (by rw [hst]; exact hcursor)
      rw [hst] at hmade
      refine ⟨fun hplay => ⟨_, hexec, ?_⟩, fun hplay hx => ⟨_, hexec, ?_⟩⟩
      · dsimp only
        rw [hmade, if_neg hplay]
        rfl
      · rw [if_pos hplay] at hmade
        dsimp only
        rw [hmade]
        obtain ⟨haudio, hplayed, hunder⟩ := Station.strideMove_keeps (st := silent) hx hisScan
          (s.playable st x) t.leadIn (upperBound x t) p k.scanStride
        have hfwd (h) := Station.strideMove_fwd (st := silent) h (s.playable st x) t.leadIn (upperBound x t) p k.scanStride
        have hback (h) := Station.strideMove_back (st := silent) h hx (s.playable st x) t.leadIn (upperBound x t) p k.scanStride
        refine ⟨haudio, hplayed, hunder, fun h => (hfwd h).1, fun h hle => ?_, fun h => (hback h).1, fun h hle => ?_⟩
        · obtain ⟨hland, hpark⟩ := (hfwd h).2 hle
          exact ⟨hland, hpark.trans hparked⟩
        · obtain ⟨hland, hpark⟩ := (hback h).2 hle
          exact ⟨hland, hpark.trans hparked⟩
  · have hnoScan : ¬ st.transport.isScan = true := by
      rcases hplays with h | h <;> rw [h] <;> exact Bool.false_ne_true
    have hframe : s.stationFrame n = (s.ticked n).playEmpty n t :=
      (State.stationFrame_empty hfifo hcurrent).trans (if_neg hnoScan)
    have hexec := exec_stationFrameTime hready henable hmoving
    have hst := s.ticked_get n
    rw [hframe] at hexec
    refine ⟨fun e hstop hreader => ⟨_, hexec, ?_⟩, fun hreader => ⟨_, hexec, ?_⟩, fun f b slot hreader hplaying => ⟨_, hexec, ?_⟩⟩
    · dsimp only
      rw [State.playEmpty_ends hstop (by rw [hst]; exact hreader), State.endOfTake_get (by rw [hst]; exact hmoving), hst]
      exact ⟨rfl, rfl, rfl, rfl, rfl, rfl, rfl⟩
    · dsimp only
      rw [State.playEmpty_waits (by rw [hst]; exact hreader), hst]
      exact ⟨rfl, rfl, rfl, rfl⟩
    · dsimp only
      rw [State.playEmpty_underrun (by rw [hst]; exact hreader) (by rw [hst]; exact hplaying), State.underrun_get, hst]
      exact ⟨hplaying, rfl, rfl, rfl⟩

end Sys2Proof.Machine
end

section
/-! SUPPORT. Packets heard and pedals (R127, R135, R136). -/

namespace Sys2Proof.Machine

/-! ### A valid packet -/

/-- A port that has heard a valid packet (R127). -/
def Station.heard (st : Station) : Station :=
  if st.link = .present then { st with silenceTimer := some 0 }
  else { st with silenceTimer := some 0, link := .present, reclaimTimer := none }

theorem Station.heard_link (st : Station) : st.heard.link = .present ∧ st.heard.silenceTimer = some 0 := by
  unfold Station.heard
  split
  · exact ⟨‹_›, rfl⟩
  · exact ⟨rfl, rfl⟩

/-- A valid packet changes the link state alone. -/
def Station.sansLink (st : Station) : Station := { st with link := .absent, silenceTimer := none, reclaimTimer := none }

theorem Station.heard_sansLink (st : Station) : st.heard.sansLink = st.sansLink := by
  unfold Station.heard
  split <;> rfl

theorem State.validPacket_eq (s : State) (n : StationId) : s.validPacket n =
    if (s.stations.get n).link = .present then s.modStation n fun _ => (s.stations.get n).heard
    else (s.modStation n fun _ => (s.stations.get n).heard).raiseStation n .present none none := by
  have hset (w : Station) (f : Station → Station) (hf : f (s.stations.get n) = w) : s.modStation n f = s.modStation n fun _ => w := by
    rw [← hf]
    rfl
  unfold State.validPacket Station.heard
  split
  · next h =>
    rw [if_pos h, if_pos h]
    rfl
  · next h =>
    rw [if_neg (by rw [h]; decide), if_neg (by rw [h]; decide)]
    rfl
  · next h =>
    rw [if_neg (by rw [h]; decide), if_neg (by rw [h]; decide)]
    rfl

theorem State.validPacket_get (s : State) (n : StationId) : (s.validPacket n).stations.get n = (s.stations.get n).heard := by
  rw [State.validPacket_eq]
  split <;> exact State.modStation_get ..

theorem State.validPacket_offLine (s : State) (n : StationId) :
    (s.validPacket n).offLine = (s.modStation n fun _ => (s.stations.get n).heard).offLine := by
  rw [State.validPacket_eq]
  split
  · rfl
  · exact State.raise_offLine ..

theorem State.validPacket_currentOf (s : State) (n : StationId) : (s.validPacket n).currentOf n = s.currentOf n := by
  have hreach := s.validPacket_reach n
  exact State.currentOf_congr (hreach.takes (by decide)) (hreach.sessions (by decide)) (by
    rw [State.validPacket_get]
    exact (congrArg Station.takes (s.stations.get n).heard_sansLink :))

/-! ### The transport under the pedals -/

/-- A port without its motion, its transport and what a change of transport sets. -/
def Station.sansTransport (st : Station) : Station :=
  { st.sansMotion with
    transport := .stopped, parked := false, backspaceDue := false, stateDue := false, audioWaiting := none, stoppedByPart := false }

theorem State.setTransport_sansTransport (s : State) (n : StationId) (t : Transport) :
    ((s.setTransport n t).stations.get n).sansTransport = (s.stations.get n).sansTransport := by
  by_cases h : (s.stations.get n).transport = t
  · rw [State.setTransport_same h]
  · exact (congrArg Station.sansTransport (State.setTransport_sansMotion h) :)

theorem State.applyPedals_get (s : State) (n : StationId) :
    ((s.applyPedals n).stations.get n).sansTransport = (s.stations.get n).sansTransport
      ∧ ((s.applyPedals n).stations.get n).transport =
        if (s.stations.get n).transport = .holding ∧ wantedTransport (s.stations.get n).pedals = .playing then .holding
        else wantedTransport (s.stations.get n).pedals := by
  have hst : (s.modStation n fun st => { st with stoppedByPart := false }).stations.get n =
      { s.stations.get n with stoppedByPart := false } := State.modStation_get ..
  unfold State.applyPedals
  dsimp only
  rw [hst]
  dsimp only
  split
  · next h =>
    rw [hst]
    exact ⟨rfl, h.1⟩
  · rw [State.setTransport_sansTransport, hst, State.setTransport_transport]
    exact ⟨rfl, rfl⟩

theorem State.startWork_stations (s : State) (t : Take) : (s.startWork t).stations = s.stations :=
  (s.startWork_reach (K := [.notice, .takeDispatch]) t (by decide)).stations (by decide)

/-- The first PLAY on a take (R65, R136). -/
theorem State.startWork_take? {s : State} {t : Take} (ht : s.take? t.ref = some t) : (s.startWork t).take? t.ref =
    some { t with dispatch := if t.dispatch = .assigned then .inWork else t.dispatch } := by
  unfold State.startWork
  split
  · rw [State.raiseTake_take?]
    exact State.take?_modTake ht fun _ => rfl
  · exact ht

theorem State.pedalActs_get (s : State) (n : StationId) (t : Take) (governs starts : Bool) :
    ((s.pedalActs n t governs starts).stations.get n).sansTransport = (s.stations.get n).sansTransport
      ∧ ((s.pedalActs n t governs starts).stations.get n).transport =
        if (s.stations.get n).stoppedByPart = true ∧ governs = false
          ∨ (s.stations.get n).transport = .holding ∧ wantedTransport (s.stations.get n).pedals = .playing then
          (s.stations.get n).transport
        else wantedTransport (s.stations.get n).pedals := by
  have hstations : (if starts then s.startWork t else s).stations = s.stations := by
    split
    · exact s.startWork_stations t
    · rfl
  obtain ⟨hrest, htransport⟩ := State.applyPedals_get (if starts then s.startWork t else s) n
  rw [hstations] at hrest htransport
  unfold State.pedalActs
  dsimp only
  rw [hstations]
  by_cases hstay : ((s.stations.get n).stoppedByPart && !governs) = true
  · rw [if_pos hstay, hstations]
    rw [Bool.and_eq_true, Bool.not_eq_true'] at hstay
    exact ⟨rfl, (if_pos (.inl hstay)).symm⟩
  · rw [if_neg hstay]
    rw [Bool.and_eq_true, Bool.not_eq_true'] at hstay
    refine ⟨hrest, htransport.trans ?_⟩
    by_cases hholds : (s.stations.get n).transport = .holding ∧ wantedTransport (s.stations.get n).pedals = .playing
    · rw [if_pos hholds, if_pos (.inr hholds), hholds.1]
    · rw [if_neg hholds, if_neg (not_or.mpr ⟨hstay, hholds⟩)]

theorem State.pedalActs_take? {s : State} {n : StationId} {t : Take} (ht : s.take? t.ref = some t) (governs starts : Bool) :
    (s.pedalActs n t governs starts).take? t.ref =
      some { t with dispatch := if starts = true ∧ t.dispatch = .assigned then .inWork else t.dispatch } := by
  have hstart : (if starts then s.startWork t else s).take? t.ref =
      some { t with dispatch := if starts = true ∧ t.dispatch = .assigned then .inWork else t.dispatch } := by
    cases starts
    · rw [if_neg Bool.false_ne_true, ht, if_neg fun h => Bool.false_ne_true h.1]
    · rw [if_pos rfl, State.startWork_take? ht]
      simp only [true_and]
  rw [← hstart]
  unfold State.pedalActs
  dsimp only
  generalize (if starts then s.startWork t else s) = u
  split
  · rfl
  · exact State.take?_congr ((State.applyPedals_reach _ n).takes (by decide)) _

/-- The port under a pedal's event, before its transport follows (R135, R142). -/
def Station.pedalled (st : Station) (held : List Pedal) (p : Pedal) (press : Bool) : Station :=
  { st with
    pedals := heldAfter held p press
    status := if press && st.config.enable then .none else st.status
    statusMark := if press && st.config.enable then none else st.statusMark
    stateDue := if press && st.config.enable then true else st.stateDue }

/-- A pedal's event: the port it leaves before the transport, and what the transport then does. -/
theorem State.pedalEvent_cases (s : State) (n : StationId) (p : Pedal) (press : Bool) : ∃ u : State,
    u.stations.get n = (s.stations.get n).pedalled (s.stations.get n).pedals p press ∧ u.takes = s.takes
    ∧ u.currentOf n = s.currentOf n
    ∧ ((s.stations.get n).config.enable = false ∨ s.currentOf n = none → s.pedalEvent n p press = u)
    ∧ ∀ t x, (s.stations.get n).config.enable = true → s.currentOf n = some (t, x) → s.pedalEvent n p press =
        u.pedalActs n t (press || decide ((s.stations.get n).pedals.getLast? = some p)) (press && decide (p = .play)) := by
  let u₁ := s.modStation n fun st => { st with pedals := heldAfter (s.stations.get n).pedals p press }
  have hu₁ : u₁.stations.get n = { s.stations.get n with pedals := heldAfter (s.stations.get n).pedals p press } :=
    State.modStation_get ..
  let u := if press && (s.stations.get n).config.enable then u₁.setStatus n .none none else u₁
  have hu : u.stations.get n = (s.stations.get n).pedalled (s.stations.get n).pedals p press := by
    unfold Station.pedalled
    by_cases h : (press && (s.stations.get n).config.enable) = true
    · simp only [u, if_pos h]
      rw [State.setStatus, State.modStation_get, hu₁]
    · simp only [u, if_neg h]
      exact hu₁
  have htakes : u.takes = s.takes := by
    simp only [u]
    split <;> rfl
  have hsessions : u.sessions = s.sessions := by
    simp only [u]
    split <;> rfl
  have hcurrent : u.currentOf n = s.currentOf n := State.currentOf_congr htakes hsessions (by rw [hu]; rfl)
  have hpick (henable : (s.stations.get n).config.enable = true) : (if press then u₁.setStatus n .none none else u₁) = u := by
    simp only [u, henable, Bool.and_true]
  have hplain (hdisabled : (s.stations.get n).config.enable = false) : u = u₁ := by
    simp only [u, hdisabled, Bool.and_false, if_false, Bool.false_eq_true]
  refine ⟨u, hu, htakes, hcurrent, fun h => ?_, fun t x henable hsome => ?_⟩
  · unfold State.pedalEvent
    dsimp only
    rw [show s.modStation n _ = u₁ from rfl, hu₁]
    rcases henable : (s.stations.get n).config.enable with _ | _
    · rw [hplain henable]
      exact if_neg Bool.false_ne_true
    · have hnone : s.currentOf n = none := h.resolve_left (by rw [henable]; exact Bool.noConfusion)
      rw [if_pos rfl, hpick henable, hcurrent, hnone]
  · unfold State.pedalEvent
    dsimp only
    rw [show s.modStation n _ = u₁ from rfl, hu₁]
    dsimp only
    rw [if_pos henable, hpick henable, hcurrent, hsome]

/-- The take at the head of a list is found under its own name. -/
theorem State.take?_of_currentOf {s : State} {n : StationId} {t : Take} {x : Session} (h : s.currentOf n = some (t, x)) :
    s.take? t.ref = some t := by
  unfold State.currentOf at h
  split at h
  · split at h
    · next ht _ =>
      obtain ⟨rfl, rfl⟩ := Prod.mk.inj (Option.some.inj h)
      rw [State.ref_of_take? ht]
      exact ht
    · exact nomatch h
  · exact nomatch h

/-- Settles O57. -/
theorem pedalsGovernTheTransport : Obligations.PedalsGovernTheTransport := by
  unfold Obligations.PedalsGovernTheTransport
  intro s n p press hready i st held wanted
  have hexec : exec i s = .next (State.settleAll s ((s.validPacket n).pedalEvent n p press)) := by
    have honPedal : exec i s = s.onPedal n p press := by
      cases p <;> rfl
    rw [honPedal, State.onPedal, hready]
  have hheard := s.validPacket_get n
  have hsame : st.heard.sansLink = st.sansLink := st.heard_sansLink
  have hpacket := s.validPacket_reach n
  have hevent := (s.validPacket n).pedalEvent_reach n p press
  obtain ⟨u, hu, htakes, hcurrent, hidle, hacts⟩ := (s.validPacket n).pedalEvent_cases n p press
  rw [s.validPacket_currentOf n, hheard] at hidle hacts
  rw [hheard] at hu
  have hpedals : st.heard.pedals = st.pedals := (congrArg Station.pedals hsame :)
  have hconfig : st.heard.config = st.config := (congrArg Station.config hsame :)
  have hstopped : st.heard.stoppedByPart = st.stoppedByPart := (congrArg Station.stoppedByPart hsame :)
  have htransport : st.heard.transport = st.transport := (congrArg Station.transport hsame :)
  rw [hpedals, hconfig] at hacts
  rw [hconfig] at hidle
  have hheld : heldAfter st.heard.pedals p press = held := by rw [hpedals]; rfl
  obtain ⟨hlink, htimer⟩ := st.heard_link
  have hw : (((s.validPacket n).pedalEvent n p press).stations.get n).sansTransport =
      (st.heard.pedalled st.heard.pedals p press).sansTransport := by
    rw [← hu]
    by_cases hno : st.config.enable = false ∨ s.currentOf n = none
    · rw [hidle hno]
    · obtain ⟨henable, hsome⟩ := not_or.mp hno
      obtain ⟨⟨t, x⟩, htx⟩ := Option.ne_none_iff_exists'.mp hsome
      rw [hacts t x (Bool.not_eq_false _ ▸ henable) htx]
      exact (State.pedalActs_get ..).1
  refine ⟨_, hexec, (congrArg Station.pedals hw :).trans hheld, (congrArg Station.link hw :).trans hlink,
    (congrArg Station.silenceTimer hw :).trans htimer, (congrArg Station.config hw :).trans hconfig,
    (congrArg Station.takes hw :).trans (congrArg Station.takes hsame :),
    (hevent.channels (by decide)).trans (hpacket.channels (by decide)), (hevent.sessions (by decide)).trans (hpacket.sessions (by decide)),
    (hevent.store (by decide)).trans (hpacket.store (by decide)), (hevent.marks (by decide)).trans (hpacket.marks (by decide)),
    (hevent.queue (by decide)).trans (hpacket.queue (by decide)), fun hno => ?_, fun t x henable htx => ⟨fun hpress => ?_, ?_, ?_⟩⟩
  · rw [hidle hno, hu]
    exact ⟨htransport, htakes.trans (hpacket.takes (by decide))⟩
  · refine (congrArg Station.status hw :).trans (if_pos ?_)
    rw [hpress, hconfig, henable]
    rfl
  · have hturn := (State.pedalActs_get u n t (press || decide (st.pedals.getLast? = some p)) (press && decide (p = .play))).2
    rw [hu] at hturn
    rw [hacts t x henable htx, hturn]
    have hwanted : wantedTransport (st.heard.pedalled st.heard.pedals p press).pedals = wanted := by
      show wantedTransport (heldAfter st.heard.pedals p press) = wanted
      rw [hheld]
      rfl
    rw [hwanted]
    refine if_congr ?_ htransport rfl
    show st.heard.stoppedByPart = true ∧ _ ∨ st.heard.transport = .holding ∧ _ ↔ _
    rw [hstopped, htransport, Bool.or_eq_false_iff, decide_eq_false_iff_not]
  · have ht := State.take?_of_currentOf htx
    have hu? : u.take? t.ref = some t := by
      rw [State.take?_congr (htakes.trans (hpacket.takes (by decide)))]
      exact ht
    refine ⟨_, ?_, rfl⟩
    rw [hacts t x henable htx, State.pedalActs_take? hu?]
    simp only [Bool.and_eq_true, decide_eq_true_eq, and_assoc]

end Sys2Proof.Machine
end

section
/-! SUPPORT. A station's list and its current take, seen from the port and from the other ports (R107, R115, R131, R132). -/

namespace Sys2Proof.Machine

/-! ### What leaves the other ports alone -/

/-- Every port but `n` stands as it stood. -/
structure Elsewhere (n : StationId) (s t : State) : Prop where
  same : ∀ m, m ≠ n → t.stations.get m = s.stations.get m

section
variable {n : StationId}

theorem Elsewhere.refl {s : State} : Elsewhere n s s := ⟨fun _ _ => rfl⟩

theorem Elsewhere.trans {s t u : State} (h : Elsewhere n s t) (h' : Elsewhere n t u) : Elsewhere n s u :=
  ⟨fun m hm => (h'.same m hm).trans (h.same m hm)⟩

theorem Elsewhere.of_stations {s t : State} (h : t.stations = s.stations) : Elsewhere n s t := ⟨fun m _ => by rw [h]⟩

theorem Elsewhere.mod (s : State) (f : Station → Station) : Elsewhere n s (s.modStation n f) :=
  ⟨fun _ hm => PerStation.get_set_ne _ _ hm⟩

theorem Elsewhere.thenIf {p : Prop} [Decidable p] {s t u : State} (h : Elsewhere n s t) (h' : Elsewhere n t u) :
    Elsewhere n s (if p then u else t) := by
  split
  · exact h.trans h'
  · exact h

end

theorem State.emptyPlayout_elsewhere (s : State) (n : StationId) : Elsewhere n s (s.emptyPlayout n) :=
  ⟨fun _ hm => PerStation.get_set_ne _ _ hm⟩

theorem State.beginMotion_elsewhere (s : State) (n : StationId) : Elsewhere n s (s.beginMotion n) := by
  unfold State.beginMotion
  dsimp only
  split
  · split
    · exact .refl
    · exact .mod ..
    · exact .mod ..
    · exact .mod ..
    · exact .mod ..
  · exact .refl

theorem State.restartPlayout_elsewhere (s : State) (n : StationId) : Elsewhere n s (s.restartPlayout n) :=
  (s.emptyPlayout_elsewhere n).trans (State.beginMotion_elsewhere ..)

theorem State.backspace_elsewhere (s : State) (n : StationId) : Elsewhere n s (s.backspace n) := by
  unfold State.backspace
  dsimp only
  split
  · exact .mod ..
  · exact .refl

theorem State.setTransport_elsewhere (s : State) (n : StationId) (t : Transport) : Elsewhere n s (s.setTransport n t) := by
  unfold State.setTransport
  dsimp only
  split
  · exact .refl
  · exact (Elsewhere.thenIf (.mod ..) (State.backspace_elsewhere ..)).trans (State.restartPlayout_elsewhere ..)

theorem State.stopByPart_elsewhere (s : State) (n : StationId) : Elsewhere n s (s.stopByPart n) :=
  (s.setTransport_elsewhere n .stopped).trans (.mod ..)

theorem State.newCurrent_elsewhere (s : State) (n : StationId) : Elsewhere n s (s.newCurrent n) :=
  (s.stopByPart_elsewhere n).trans ((Elsewhere.mod ..).trans (State.restartPlayout_elsewhere ..))

theorem State.leaveList_elsewhere (s : State) (n : StationId) (r : TakeRef) : Elsewhere n s (s.leaveList n r) :=
  Elsewhere.thenIf (.mod ..) (State.newCurrent_elsewhere ..)

theorem State.joinList_elsewhere (s : State) (n : StationId) (r : TakeRef) : Elsewhere n s (s.joinList n r) :=
  Elsewhere.thenIf (.mod ..) (State.newCurrent_elsewhere ..)

/-! ### The port whose current take changes -/

theorem State.stopByPart_get (s : State) (n : StationId) :
    ((s.stopByPart n).stations.get n).sansTransport = (s.stations.get n).sansTransport
      ∧ ((s.stopByPart n).stations.get n).transport = .stopped ∧ ((s.stopByPart n).stations.get n).stoppedByPart = true := by
  rw [State.stopByPart, State.modStation_get]
  exact ⟨s.setTransport_sansTransport n .stopped, s.setTransport_transport n .stopped, rfl⟩

/-- A new current take, or none: the port is STOPPED with nothing buffered, and else as it was. -/
theorem State.newCurrent_get (s : State) (n : StationId) :
    ((s.newCurrent n).stations.get n).sansTransport = (s.stations.get n).sansTransport
      ∧ ((s.newCurrent n).stations.get n).transport = .stopped ∧ ((s.newCurrent n).stations.get n).fifo = [] := by
  obtain ⟨hrest, htransport, -⟩ := s.stopByPart_get n
  unfold State.newCurrent
  dsimp only
  rw [State.restartPlayout_stopped (by rw [State.modStation_get]; exact htransport), State.emptyPlayout_get, State.modStation_get]
  exact ⟨hrest, htransport, rfl⟩

/-- A port without its list, its motion and its transport. -/
def Station.sansWork (st : Station) : Station := { st.sansTransport with takes := [] }

theorem Station.sansWork_of {a b : Station} {l : List TakeRef}
    (h : a.sansTransport = ({ b with takes := l } : Station).sansTransport) : a.sansWork = b.sansWork := by
  unfold Station.sansWork
  rw [h]
  rfl

theorem State.leaveList_get (s : State) (n : StationId) (r : TakeRef) :
    ((s.leaveList n r).stations.get n).sansTransport = ({ s.stations.get n with takes := (s.stations.get n).takes.erase r } :
      Station).sansTransport := by
  unfold State.leaveList
  dsimp only
  split
  · rw [(State.newCurrent_get ..).1, State.modStation_get]
    rfl
  · rw [State.modStation_get]
    rfl

theorem State.joinList_get (s : State) (n : StationId) (r : TakeRef) :
    ((s.joinList n r).stations.get n).sansTransport = ({ s.stations.get n with takes := (s.stations.get n).takes ++ [r] } :
      Station).sansTransport := by
  unfold State.joinList
  dsimp only
  split
  · rw [(State.newCurrent_get ..).1, State.modStation_get]
    rfl
  · rw [State.modStation_get]
    rfl

end Sys2Proof.Machine
end

section
/-! SUPPORT. Whom a matching pass may give takes to (R109, R111 to R115). -/

namespace Sys2Proof.Machine

/-- What a matching pass may do from `s` to `t`, station by station: a port that does not want work stays as it is, and a take goes
to a wanting port that is eligible for it. -/
structure Allotted (s t : State) : Prop where
  idle : ∀ n, (s.stations.get n).wanting = false → t.stations.get n = s.stations.get n
  ports : ∀ n, (t.stations.get n).sansWork = (s.stations.get n).sansWork
  wants : ∀ n, (t.stations.get n).wanting = true → (s.stations.get n).wanting = true
  lists : ∀ n, ∃ more, (t.stations.get n).takes = (s.stations.get n).takes ++ more
    ∧ ∀ q ∈ more, ∃ u, s.take? q = some u ∧ (s.stations.get n).eligible n u = true
  takes : ∀ q, t.take? q = s.take? q ∨ ∃ u n, s.take? q = some u ∧ (s.stations.get n).wanting = true
    ∧ (s.stations.get n).eligible n u = true ∧ t.take? q = some (u.assignedTo n)

theorem Allotted.refl (s : State) : Allotted s s :=
  ⟨fun _ _ => rfl, fun _ => rfl, fun _ h => h, fun _ => ⟨[], (List.append_nil _).symm, fun _ hq => nomatch hq⟩, fun _ => .inl rfl⟩

/-- A port that a pass has been through is eligible for the takes it was eligible for. -/
theorem Allotted.eligible {s t : State} (h : Allotted s t) (n : StationId) (u : Take) :
    (t.stations.get n).eligible n u = (s.stations.get n).eligible n u := by
  have hconfig : (t.stations.get n).config = (s.stations.get n).config := (congrArg Station.config (h.ports n) :)
  unfold Station.eligible
  rw [hconfig]

theorem Allotted.trans {s t v : State} (h : Allotted s t) (h' : Allotted t v) : Allotted s v := by
  have hbefore {q : TakeRef} {u : Take} {n : StationId} (hu : t.take? q = some u) (he : (t.stations.get n).eligible n u = true) :
      ∃ w, s.take? q = some w ∧ (s.stations.get n).eligible n w = true ∧ u.assignedTo n = w.assignedTo n := by
    rw [h.eligible] at he
    rcases h.takes q with hsame | ⟨w, m, hw, -, -, hassigned⟩
    · exact ⟨u, hsame ▸ hu, he, rfl⟩
    · obtain rfl := Option.some.inj (hu.symm.trans hassigned)
      exact ⟨w, hw, he, rfl⟩
  refine ⟨fun n hn => ?_, fun n => (h'.ports n).trans (h.ports n), fun n hn => h.wants n (h'.wants n hn), fun n => ?_, fun q => ?_⟩
  · rw [h'.idle n (by rw [h.idle n hn]; exact hn), h.idle n hn]
  · obtain ⟨more, hmore, hin⟩ := h.lists n
    obtain ⟨more', hmore', hin'⟩ := h'.lists n
    refine ⟨more ++ more', by rw [hmore', hmore, List.append_assoc], fun q hq => ?_⟩
    rcases List.mem_append.mp hq with hq | hq
    · exact hin q hq
    · obtain ⟨u, hu, he⟩ := hin' q hq
      obtain ⟨w, hw, he', -⟩ := hbefore hu he
      exact ⟨w, hw, he'⟩
  · rcases h'.takes q with hsame | ⟨u, n, hu, hwants, he, hassigned⟩
    · rw [hsame]
      exact h.takes q
    · obtain ⟨w, hw, he', heq⟩ := hbefore hu he
      exact .inr ⟨w, n, hw, h.wants n hwants, he', hassigned.trans (congrArg some heq)⟩

theorem State.chooseStation_mayReceive {s : State} {t : Take} {n : StationId} (h : s.chooseStation t = some n) :
    s.mayReceive t n = true := by
  unfold State.chooseStation at h
  split at h
  · next m hm =>
    split at h
    · next o ho =>
      obtain rfl := Option.some.inj h
      unfold State.followStation at ho
      split at ho
      · split at ho
        · split at ho
          · exact (Option.filter_eq_some_iff.mp ho).2
          · exact nomatch ho
        · exact nomatch ho
      · exact nomatch ho
    · obtain rfl := Option.some.inj h
      exact List.find?_some hm
  · exact nomatch h

theorem State.assign_allotted {s : State} {r : TakeRef} {u : Take} {n : StationId} (hu : s.take? r = some u)
    (hmay : s.mayReceive u n = true) : Allotted s { s.assign r n with rotation := n } := by
  obtain ⟨hwanting, heligible⟩ := (Bool.and_eq_true _ _).mp hmay
  let w := (s.dequeue r).modTake r fun t => { t with dispatch := .assigned, station := some n, lastStation := some n }
  have hstations : (s.assign r n).stations = (w.joinList n r).stations := State.raiseTake_stations ..
  have hother (m : StationId) (hm : m ≠ n) : (s.assign r n).stations.get m = s.stations.get m := by
    rw [hstations]
    exact (w.joinList_elsewhere n r).same m hm
  have hown : ((s.assign r n).stations.get n).sansTransport =
      ({ s.stations.get n with takes := (s.stations.get n).takes ++ [r] } : Station).sansTransport := by
    rw [hstations]
    exact w.joinList_get n r
  have htakes (q : TakeRef) : (s.assign r n).take? q = ((s.dequeue r).modTake r (Take.assignedTo n)).take? q := by
    rw [State.assign, State.raiseTake_take?]
    exact State.take?_congr ((State.joinList_reach w n r).takes (by decide)) q
  have hwork (m : StationId) : ((s.assign r n).stations.get m).sansWork = (s.stations.get m).sansWork := by
    by_cases hmn : m = n
    · subst hmn
      exact Station.sansWork_of hown
    · rw [hother m hmn]
  refine ⟨fun m hm => hother m ?_, hwork, fun m hm => ?_, fun m => ?_, fun q => ?_⟩
  · rintro rfl
    exact nomatch hm.symm.trans hwanting
  · by_cases hmn : m = n
    · rw [hmn]
      exact hwanting
    · rw [← hother m hmn]
      exact hm
  · by_cases hmn : m = n
    · subst hmn
      refine ⟨[r], (congrArg Station.takes hown :), fun q hq => ⟨u, ?_, heligible⟩⟩
      rw [List.mem_singleton.mp hq]
      exact hu
    · exact ⟨[], (congrArg Station.takes (hother m hmn)).trans (List.append_nil _).symm, fun _ hq => nomatch hq⟩
  · show (s.assign r n).take? q = s.take? q ∨ ∃ _ _, _ ∧ _ ∧ _ ∧ (s.assign r n).take? q = _
    rw [htakes]
    by_cases hq : q = r
    · subst hq
      exact .inr ⟨u, n, hu, hwanting, heligible, State.take?_modTake (s := s.dequeue q) hu fun _ => rfl⟩
    · exact .inl (State.take?_modTake_ne _ (fun _ => rfl) hq)

theorem State.matching_allotted (s : State) (k : Nat) : Allotted s (s.matching k) := by
  induction k generalizing s with
  | zero => exact .refl s
  | succ k ih =>
    unfold State.matching
    split
    · next r n hfound =>
      obtain ⟨-, u, hu, hchosen⟩ := State.findMatch_mem hfound
      exact (State.assign_allotted hu (State.chooseStation_mayReceive hchosen)).trans (ih _)
    · exact .refl s

theorem State.matchingPass_allotted (s : State) : Allotted s s.matchingPass := s.matching_allotted 32

theorem State.passIfWanting_allotted (s : State) (n : StationId) : Allotted s (s.passIfWanting n) := by
  unfold State.passIfWanting
  split
  · exact s.matchingPass_allotted
  · exact .refl s

/-- The record of a take after a pass, with the station it went to. -/
theorem Allotted.record {s t : State} (h : Allotted s t) {q : TakeRef} {k : Take} (hk : s.take? q = some k) :
    ∃ u, t.take? q = some u ∧ (u = k ∨ ∃ n, (s.stations.get n).wanting = true ∧ (s.stations.get n).eligible n k = true
      ∧ u = k.assignedTo n) := by
  rcases h.takes q with hsame | ⟨u, n, hu, hwants, he, hassigned⟩
  · exact ⟨k, hsame.trans hk, .inl rfl⟩
  · obtain rfl := Option.some.inj (hk.symm.trans hu)
    exact ⟨_, hassigned, .inr ⟨n, hwants, he, rfl⟩⟩

end Sys2Proof.Machine
end

section
/-! SUPPORT. The takes of a station given up (R118, R128). -/

namespace Sys2Proof.Machine

/-! ### Takes put back -/

/-- A take that the table does not hold is not in it after a change of records either. -/
theorem State.take?_modTake_none {s : State} {r : TakeRef} (h : s.take? r = none) {f : Take → Take} (hf : ∀ t, (f t).ref = t.ref) :
    (s.modTake r f).take? r = none := by
  have hname (t : Take) : (f t).session = t.session ∧ (f t).number = t.number := by simpa [Take.ref] using hf t
  rw [State.take?] at h ⊢
  rw [State.modTake_takes, List.find?_eq_none]
  intro t ht
  obtain ⟨u, hu, rfl⟩ := List.mem_map.mp ht
  have hnot := List.find?_eq_none.mp h u hu
  split
  · simpa only [hname] using hnot
  · exact hnot

theorem State.enqueueAll_take? (l : List TakeRef) (s : State) (q : TakeRef) :
    (l.foldl (fun s r => s.modTake r Take.enqueue) s).take? q = if q ∈ l then (s.take? q).map Take.enqueue else s.take? q := by
  have hmod (s : State) (r : TakeRef) : (s.modTake r Take.enqueue).take? q =
      if q = r then (s.take? q).map Take.enqueue else s.take? q := by
    by_cases hq : q = r
    · subst hq
      rw [if_pos rfl]
      rcases hk : s.take? q with _ | k
      · rw [Option.map_none]
        exact State.take?_modTake_none hk fun _ => rfl
      · exact State.take?_modTake hk fun _ => rfl
    · rw [if_neg hq]
      exact State.take?_modTake_ne _ (fun _ => rfl) hq
  have htwice (o : Option Take) : (o.map Take.enqueue).map Take.enqueue = o.map Take.enqueue := by cases o <;> rfl
  induction l generalizing s with
  | nil => rfl
  | cons r l ih =>
    rw [List.foldl_cons, ih, hmod]
    by_cases hq : q = r
    · simp only [hq, if_true, List.mem_cons, true_or, htwice, ite_self]
    · simp only [hq, if_false, List.mem_cons, false_or]

theorem State.classOf_of_map {s t : State} {q : TakeRef} (h : (t.take? q).map Take.takeClass = (s.take? q).map Take.takeClass) :
    t.classOf q = s.classOf q := by
  have heq (v : State) : v.classOf q = (((v.take? q).map Take.takeClass).map TakeClass.code).getD TakeClass.regular.code := by
    unfold State.classOf
    cases v.take? q <;> rfl
  rw [heq, heq, h]

theorem State.enqueueAll_classOf (l : List TakeRef) (s : State) (q : TakeRef) :
    (l.foldl (fun s r => s.modTake r Take.enqueue) s).classOf q = s.classOf q := by
  have hclass (o : Option Take) : ((o.map Take.enqueue).map Take.takeClass) = o.map Take.takeClass := by cases o <;> rfl
  refine State.classOf_of_map ?_
  rw [State.enqueueAll_take?]
  split
  · exact hclass _
  · rfl

/-- A reference put at its class head goes ahead of its class, and leaves the order of the rest. -/
theorem filter_insertBy_head {α : Type} (cls : α → Nat) (a : α) (l : List α) (code : Nat) :
    (insertBy (fun a b => decide (cls a ≤ cls b)) a l).filter (fun q => decide (cls q = code)) =
      if cls a = code then a :: l.filter (fun q => decide (cls q = code)) else l.filter fun q => decide (cls q = code) := by
  obtain ⟨u, v, hl, hi, hu, -⟩ := insertBy_split (fun a b => decide (cls a ≤ cls b)) a l
  rw [hi, hl, List.filter_append, List.filter_cons]
  by_cases ha : cls a = code
  · have hnone : u.filter (fun q => decide (cls q = code)) = [] := List.filter_eq_nil_iff.mpr fun b hb heq => by
      have hlt := of_decide_eq_false (hu b hb)
      have := of_decide_eq_true heq
      omega
    rw [if_pos ha, if_pos (decide_eq_true ha), List.filter_append, hnone]
    rfl
  · rw [if_neg ha, if_neg (by simpa using ha), List.filter_append]

theorem State.placeAll_queue (l : List TakeRef) (s : State) (code : Nat) :
    ((l.foldl (fun s r => s.atClassHead r) s).queue.filter fun q => s.classOf q = code) =
      (l.reverse.filter fun q => s.classOf q = code) ++ s.queue.filter fun q => s.classOf q = code := by
  induction l generalizing s with
  | nil => rfl
  | cons r l ih =>
    have hone : ((s.atClassHead r).queue.filter fun q => s.classOf q = code) =
        if s.classOf r = code then r :: s.queue.filter (fun q => s.classOf q = code) else s.queue.filter fun q => s.classOf q = code :=
      filter_insertBy_head s.classOf r s.queue code
    have hrest := ih (s.atClassHead r)
    rw [List.foldl_cons, List.reverse_cons, List.filter_append, List.append_assoc]
    refine hrest.trans (congrArg (_ ++ ·) (hone.trans ?_))
    by_cases hr : s.classOf r = code <;> simp [hr]

/-! ### A station's list given up -/

/-- A port but for its list, its motion, its transport and the last status. -/
def Station.sansStatus (st : Station) : Station := { st.sansWork with status := .none, statusMark := none }

/-- A port that may be given takes as its list goes (R109). -/
def Station.accepts (st : Station) : Bool := st.config.enable && decide (st.link = .present) && st.accepting

theorem Station.wanting_of_accepts {st : Station} (h : st.accepts = false) : st.wanting = false := by
  unfold Station.wanting
  rw [show (st.config.enable && decide (st.link = .present) && st.accepting) = false from h, Bool.false_and]

/-- The takes of a list placed in the queue, before the port is told (R118). -/
def State.givenBack (s : State) (n : StationId) : State :=
  (s.stations.get n).takes.foldl (fun s r => s.raiseTake r .dispatch) ((s.stations.get n).takes.reverse.foldl
    (fun s r => s.atClassHead r) ((s.stations.get n).takes.foldl (fun s r => s.modTake r Take.enqueue)
      (s.modStation n fun st => { st with takes := [] })))

/-- The list given up, before the matching pass (R118). -/
def State.reclaimed (s : State) (n : StationId) : State :=
  if (s.stations.get n).takes.isEmpty then s.givenBack n else ((s.givenBack n).newCurrent n).setStatus n .removed none

theorem State.reclaim_eq (s : State) (n : StationId) : s.reclaim n = (s.reclaimed n).matchingPass := rfl

section
variable (s : State) (n : StationId)

theorem State.givenBack_reach : Reach [.queue, .takeDispatch, .notice] (s.modStation n fun st => { st with takes := [] })
    (s.givenBack n) :=
  .trans (.trans (Reach.foldl (fun s r => s.enqueue_reach (hK := by decide) r) _ _)
    (Reach.foldl (fun s r => s.atClassHead_reach (hK := by decide) r) _ _))
    (Reach.foldl (fun s r => s.raiseTake_reach (hK := by decide) r _) _ _)

theorem State.givenBack_stations : (s.givenBack n).stations = (s.modStation n fun st => { st with takes := [] }).stations :=
  (s.givenBack_reach n).stations (by decide)

theorem State.givenBack_get : (s.givenBack n).stations.get n = { s.stations.get n with takes := [] } := by
  rw [State.givenBack_stations]
  exact State.modStation_get ..

theorem State.givenBack_take? (q : TakeRef) : (s.givenBack n).take? q =
    if q ∈ (s.stations.get n).takes then (s.take? q).map Take.enqueue else s.take? q := by
  have hreach (u : State) : Reach [.queue, .notice] u ((s.stations.get n).takes.foldl (fun s r => s.raiseTake r .dispatch)
      ((s.stations.get n).takes.reverse.foldl (fun s r => s.atClassHead r) u)) :=
    (Reach.foldl (fun s r => s.atClassHead_reach (hK := by decide) r) _ _).trans
      (Reach.foldl (fun s r => s.raiseTake_reach (hK := by decide) r _) _ _)
  rw [State.givenBack, State.take?_congr ((hreach _).takes (by decide)), State.enqueueAll_take?]
  rfl

theorem State.givenBack_queue (code : Nat) : ((s.givenBack n).queue.filter fun q => s.classOf q = code) =
    ((s.stations.get n).takes.filter fun q => s.classOf q = code) ++ s.queue.filter fun q => s.classOf q = code := by
  let u := (s.stations.get n).takes.foldl (fun s r => s.modTake r Take.enqueue) (s.modStation n fun st => { st with takes := [] })
  have hclass : u.classOf = s.classOf := funext fun q => State.enqueueAll_classOf (s.stations.get n).takes
    (s.modStation n fun st => { st with takes := [] }) q
  have hraised : (s.givenBack n).queue = ((s.stations.get n).takes.reverse.foldl (fun s r => s.atClassHead r) u).queue :=
    (Reach.foldl (K := [.notice]) (fun s r => s.raiseTake_reach (hK := by decide) r _) _ _).queue (by decide)
  have hqueue : u.queue = s.queue :=
    (Reach.foldl (K := [.takeDispatch]) (fun s r => s.enqueue_reach (hK := by decide) r) _
      (s.modStation n fun st => { st with takes := [] })).queue (by decide)
  have hplaced := State.placeAll_queue (s.stations.get n).takes.reverse u code
  rw [hclass, List.reverse_reverse, hqueue] at hplaced
  rw [hraised]
  exact hplaced

/-! ### The port -/

theorem State.reclaimed_get : ((s.reclaimed n).stations.get n).takes = []
    ∧ ((s.reclaimed n).stations.get n).sansStatus = (s.stations.get n).sansStatus
    ∧ ((s.stations.get n).transport = .stopped → (s.stations.get n).fifo = [] →
      ((s.reclaimed n).stations.get n).transport = .stopped ∧ ((s.reclaimed n).stations.get n).fifo = [])
    ∧ ((s.stations.get n).takes = [] → (s.reclaimed n).stations.get n = s.stations.get n) := by
  unfold State.reclaimed
  split
  · rename_i hempty
    rw [State.givenBack_get]
    refine ⟨rfl, rfl, fun h h' => ⟨h, h'⟩, fun h => ?_⟩
    rw [← h]
  · rename_i hsome
    obtain ⟨hrest, htransport, hfifo⟩ := (s.givenBack n).newCurrent_get n
    rw [State.givenBack_get] at hrest
    rw [State.setStatus, State.modStation_get]
    refine ⟨(congrArg Station.takes hrest :), ?_, fun _ _ => ⟨htransport, hfifo⟩, fun h => absurd (by rw [h]; rfl) hsome⟩
    have hwork := Station.sansWork_of hrest
    exact (congrArg (fun st => ({ st with status := .none, statusMark := none, stateDue := false } : Station)) hwork :)

theorem State.reclaimed_elsewhere : Elsewhere n s (s.reclaimed n) := by
  have hgiven : Elsewhere n s (s.givenBack n) :=
    (Elsewhere.mod s fun st => { st with takes := [] }).trans (.of_stations (s.givenBack_stations n))
  unfold State.reclaimed
  split
  · exact hgiven
  · exact hgiven.trans ((State.newCurrent_elsewhere ..).trans (.mod ..))

theorem State.reclaimed_tables : (s.reclaimed n).takes = (s.givenBack n).takes ∧ (s.reclaimed n).queue = (s.givenBack n).queue := by
  unfold State.reclaimed
  split
  · exact ⟨rfl, rfl⟩
  · have hreach := ((s.givenBack n).newCurrent_reach n).trans (State.setStatus_reach _ n .removed none)
    exact ⟨hreach.takes (by decide), hreach.queue (by decide)⟩

end

/-! ### The pass that follows -/

section
variable {s : State} {n : StationId} (hidle : (s.stations.get n).accepts = false)
include hidle

theorem State.reclaimed_idle : ((s.reclaimed n).stations.get n).wanting = false := by
  obtain ⟨-, hsame, -⟩ := s.reclaimed_get n
  refine Station.wanting_of_accepts (Eq.trans ?_ hidle)
  exact (congrArg Station.accepts hsame :)

theorem State.reclaim_get : (s.reclaim n).stations.get n = (s.reclaimed n).stations.get n := by
  rw [State.reclaim_eq]
  exact (State.matchingPass_allotted _).idle n (State.reclaimed_idle hidle)

/-- A take of the list goes to the queue, or on from there to another station. -/
theorem State.reclaim_take? {q : TakeRef} {k : Take} (hk : s.take? q = some k) (hq : q ∈ (s.stations.get n).takes) :
    ∃ u, (s.reclaim n).take? q = some u ∧ (u = k.enqueue ∨ ∃ o, o ≠ n ∧ u = k.enqueue.assignedTo o) := by
  have hback : (s.reclaimed n).take? q = some k.enqueue := by
    rw [State.take?_congr (s.reclaimed_tables n).1, State.givenBack_take?, if_pos hq, hk]
    rfl
  obtain ⟨u, hu, hcases⟩ := (State.matchingPass_allotted (s.reclaimed n)).record hback
  refine ⟨u, hu, hcases.imp id fun ⟨o, hwants, _, heq⟩ => ⟨o, fun ho => ?_, heq⟩⟩
  rw [ho, State.reclaimed_idle hidle] at hwants
  exact nomatch hwants

end

end Sys2Proof.Machine
end

section
/-! SUPPORT. The link state of a station port: packets discarded, loss and reclaim (R118, R126 to R128, R202). -/

namespace Sys2Proof.Machine

/-! ### A port at the end of an event -/

theorem State.finish_station (before u : State) (n : StationId) :
    ((State.finish before u).stations.get n).offLine = (u.stations.get n).offLine :=
  State.station_offLine_congr (State.finish_offLine ..) n

theorem State.finish_take? (before u : State) (q : TakeRef) : (State.finish before u).take? q = u.take? q :=
  State.take?_congr ((State.finish_reach before u).takes (by decide)) q

/-- What a change of a port's link state leaves of the other parts. -/
theorem State.finish_portFrame {s u : State} (h : Reach portKinds s u) : let t := State.finish s u
    t.channels = s.channels ∧ t.sessions = s.sessions ∧ t.store = s.store ∧ t.marks = s.marks ∧ t.ranges = s.ranges
      ∧ t.readback = s.readback := by
  have hfinish := State.finish_reach s u
  exact ⟨(hfinish.channels (by decide)).trans (h.channels (by decide)), (hfinish.sessions (by decide)).trans (h.sessions (by decide)),
    (hfinish.store (by decide)).trans (h.store (by decide)), (hfinish.marks (by decide)).trans (h.marks (by decide)),
    (hfinish.ranges (by decide)).trans (h.ranges (by decide)), (hfinish.readback (by decide)).trans (h.readback (by decide))⟩

/-! ### The reclaim timer expires (R128) -/

theorem State.expireReclaim_get {s : State} {n : StationId} (hidle : (s.stations.get n).accepts = false) :
    (s.expireReclaim n).stations.get n = { (s.reclaimed n).stations.get n with reclaimTimer := none, link := .absent } := by
  have hset : (s.expireReclaim n).stations.get n = { (s.reclaim n).stations.get n with reclaimTimer := none, link := .absent } :=
    (s.reclaim n).modStation_get n fun st => { st with reclaimTimer := none, link := .absent }
  rw [hset, State.reclaim_get hidle]

theorem State.expireReclaim_take? (s : State) (n : StationId) (q : TakeRef) : (s.expireReclaim n).take? q = (s.reclaim n).take? q :=
  rfl

/-- A LOST port expires: it is ABSENT, without takes, and else as it was. -/
theorem State.expireReclaim_facts {s : State} {n : StationId} (hidle : (s.stations.get n).accepts = false) :
    let st := s.stations.get n
    let w := (s.expireReclaim n).stations.get n
    w.link = .absent ∧ w.reclaimTimer = none ∧ w.takes = [] ∧ w.config = st.config ∧ w.accepting = st.accepting
      ∧ w.pedals = st.pedals ∧ (st.transport = .stopped → st.fifo = [] → w.transport = .stopped ∧ w.fifo = []) := by
  intro st w
  have hw : w = { (s.reclaimed n).stations.get n with reclaimTimer := none, link := .absent } := State.expireReclaim_get hidle
  obtain ⟨htakes, hsame, hstopped, -⟩ := s.reclaimed_get n
  rw [hw]
  exact ⟨rfl, rfl, htakes, (congrArg Station.config hsame :), (congrArg Station.accepting hsame :), (congrArg Station.pedals hsame :),
    hstopped⟩

/-! ### A port is lost (R127) -/

theorem State.stopAccepting_get (s : State) (n : StationId) :
    (s.stopAccepting n).stations.get n = { s.stations.get n with accepting := false } := by
  unfold State.stopAccepting
  split
  · exact s.modStation_get n fun st => { st with accepting := false }
  · next h => rw [← Bool.eq_false_iff.mpr h]

/-- A port as it is lost. -/
def Station.atLoss (st : Station) : Station :=
  { st with link := .lost, silenceTimer := some 1000, reclaimTimer := some 0, pedals := [], accepting := false }

/-- A port lost and stopped, its playout still to be emptied. -/
def State.halted (s : State) (n : StationId) : State :=
  let u := (s.modStation n fun st =>
    { st with link := .lost, silenceTimer := some 1000, reclaimTimer := some 0, pedals := [] }).stopAccepting n
  if (u.stations.get n).transport = .stopped then u else u.stopByPart n

theorem State.halted_get (s : State) (n : StationId) :
    ((s.halted n).stations.get n).sansTransport = (s.stations.get n).atLoss.sansTransport
      ∧ ((s.halted n).stations.get n).transport = .stopped
      ∧ ((s.stations.get n).transport ≠ .stopped → ((s.halted n).stations.get n).stoppedByPart = true) := by
  let u := (s.modStation n fun st =>
    { st with link := .lost, silenceTimer := some 1000, reclaimTimer := some 0, pedals := [] }).stopAccepting n
  have hu : u.stations.get n = (s.stations.get n).atLoss := by
    rw [State.stopAccepting_get, State.modStation_get]
    rfl
  have htransport : (u.stations.get n).transport = (s.stations.get n).transport := by
    rw [hu]
    rfl
  rw [← hu, ← htransport]
  by_cases hstopped : (u.stations.get n).transport = .stopped
  · rw [show s.halted n = u from if_pos hstopped]
    exact ⟨rfl, hstopped, fun h => absurd hstopped h⟩
  · rw [show s.halted n = u.stopByPart n from if_neg hstopped]
    obtain ⟨hrest, hnow, hpart⟩ := u.stopByPart_get n
    exact ⟨hrest, hnow, fun _ => hpart⟩

/-- A port that is lost, before a grace of 0 expires. -/
def State.lost (s : State) (n : StationId) : State :=
  ((s.halted n).emptyPlayout n).raiseStation n .lost (some (s.stations.get n).config.grace) none

theorem State.lost_get (s : State) (n : StationId) :
    ((s.lost n).stations.get n).sansTransport = (s.stations.get n).atLoss.sansTransport
      ∧ ((s.lost n).stations.get n).transport = .stopped ∧ ((s.lost n).stations.get n).fifo = []
      ∧ ((s.stations.get n).transport ≠ .stopped → ((s.lost n).stations.get n).stoppedByPart = true) := by
  have hw : (s.lost n).stations.get n = ((s.halted n).stations.get n).emptied := (s.halted n).emptyPlayout_get n
  obtain ⟨hrest, htransport, hpart⟩ := s.halted_get n
  rw [hw]
  exact ⟨hrest, htransport, rfl, hpart⟩

theorem State.lost_reach (s : State) (n : StationId) : Reach [.signal, .notice, .orphan, .port] s (s.lost n) := by
  have hstop (u : State) : Reach [.signal, .notice, .orphan, .port] u (u.stopByPart n) := (u.stopByPart_reach n).mono (by decide)
  have hset := State.modSignal_reach (K := [.signal, .notice, .orphan, .port]) (s := s) (n := n)
    (f := fun st => { st with link := .lost, silenceTimer := some 1000, reclaimTimer := some 0, pedals := [] })
    rfl rfl rfl rfl (by decide)
  have hquiet (u : State) : Reach [.signal, .notice, .orphan, .port] u (u.stopAccepting n) :=
    .onlyIf fun _ => .trans (State.modSignal_reach rfl rfl rfl rfl (by decide)) (State.raiseStation_reach (hK := by decide) ..)
  have hhalted : Reach [.signal, .notice, .orphan, .port] s (s.halted n) := .unless (hset.trans (hquiet _)) fun _ => hstop _
  exact (hhalted.trans ((State.emptyPlayout_reach _ n).mono (by decide))).trans (State.raiseStation_reach (hK := by decide) ..)

theorem State.loseStation_eq (s : State) (n : StationId) :
    s.loseStation n = if (s.stations.get n).config.grace = 0 then (s.lost n).expireReclaim n else s.lost n := by
  have hgrace : (((s.halted n).emptyPlayout n).stations.get n).config.grace = (s.stations.get n).config.grace := by
    rw [State.emptyPlayout_get]
    exact (congrArg (fun st : Station => st.config.grace) (s.halted_get n).1 :)
  have hlose : s.loseStation n =
      if (((s.halted n).emptyPlayout n).stations.get n).config.grace = 0 then
        (((s.halted n).emptyPlayout n).raiseStation n .lost
          (some (((s.halted n).emptyPlayout n).stations.get n).config.grace) none).expireReclaim n
      else ((s.halted n).emptyPlayout n).raiseStation n .lost
        (some (((s.halted n).emptyPlayout n).stations.get n).config.grace) none := rfl
  rw [hlose, hgrace]
  rfl

end Sys2Proof.Machine
end

section
/-! SUPPORT. What a station port hears and fails to hear (R126 to R128). -/

namespace Sys2Proof.Machine

/-- The events that break off the packet being received. -/
theorem exec_breaks {s : State} {n : StationId} {received : List Byte} {i : Instr}
    (hi : i = .stationPacketInvalid ⟨n, received⟩ true ∨ i = .stationPacketTimeout ⟨n, received⟩
      ∨ i = .stationLineBreak ⟨n, received⟩) :
    exec i s = s.discardPacket n (receivingPacket received) := by
  rcases hi with rfl | rfl | rfl <;> rfl

theorem State.discardPacket_starting {s : State} (h : s.link.device = .starting) (n : StationId) (discards : Bool) :
    s.discardPacket n discards = .next s := by
  unfold State.discardPacket
  rw [h]

theorem State.discardPacket_none (s : State) (n : StationId) : s.discardPacket n false = .next s := by
  unfold State.discardPacket
  split <;> rfl

theorem State.discardPacket_ready {s : State} (h : s.link.device = .ready) (n : StationId) : s.discardPacket n true =
    .next (State.finish s (s.modStation n fun st => { st with badPackets := min 65535 (st.badPackets + 1) })) := by
  unfold State.discardPacket
  rw [h]
  rfl

theorem State.onPacket_starting {s : State} (h : s.link.device = .starting) (n : StationId) (f : State → State) :
    s.onPacket n f = .next s := by
  unfold State.onPacket
  rw [h]

theorem State.onPacket_ready {s : State} (h : s.link.device = .ready) (n : StationId) (f : State → State) :
    s.onPacket n f = .next (State.finish s (f (s.validPacket n))) := by
  unfold State.onPacket
  rw [h]

/-- A port heard again is reported (R127). -/
theorem State.validPacket_told {s : State} {n : StationId} (h : (s.stations.get n).link ≠ .present) (hears : s.hears .station) :
    (s.validPacket n).told .station (.station n) := by
  rw [State.validPacket_eq, if_neg h]
  exact State.raise_told (s := s.modStation n fun _ => (s.stations.get n).heard) hears _ _

/-- Changes of one port on states that agree off their lines. -/
theorem State.modStation_of_offLine {s t : State} (h : t.offLine = s.offLine) {n : StationId} {f g : Station → Station}
    (hf : (f (t.stations.get n)).offLine = (g (s.stations.get n)).offLine) :
    (t.modStation n f).offLine = (s.modStation n g).offLine := by
  have hset (u : State) (k : Station → Station) : (u.modStation n k).offLine =
      { u.offLine with stations := u.offLine.stations.set n (k (u.stations.get n)).offLine } := by
    fin_cases n <;> rfl
  rw [hset, hset, h, hf]

/-- Settles O56. -/
theorem stationLinksFollowTheirPackets : Obligations.StationLinksFollowTheirPackets := by
  unfold Obligations.StationLinksFollowTheirPackets
  intro s n st frame breaks bad heard
  have hbad (i : Instr) (h : bad i) : exec i s = s.discardPacket n true := by
    rcases h with ⟨received, hreceiving, hi⟩ | ⟨received, hreceived, rfl⟩
    · rw [exec_breaks hi, hreceiving]
    · rw [← hreceived]
      rfl
  have hmodel : (s.validPacket n).offLine = (s.modStation n fun _ => heard).offLine := s.validPacket_offLine n
  have halive (model : Byte) : exec (.alive n model) s =
      s.onPacket n fun u => u.modStation n fun st => { st with model := some model } := rfl
  refine ⟨fun hstarting => ⟨fun i hi => ?_, fun model => ?_, fun code action => ?_⟩, fun received i hno hi => ?_,
    fun received hno => ?_, fun hready => ⟨fun i hi => ?_, fun model => ?_, fun code action => ?_, fun hpresent => ?_,
    fun hlost => ?_⟩⟩
  · rw [hbad i hi]
    exact State.discardPacket_starting hstarting ..
  · exact (halive model).trans (State.onPacket_starting hstarting ..)
  · exact State.onPacket_starting hstarting ..
  · rw [exec_breaks hi, hno]
    exact s.discardPacket_none n
  · have hexec : exec (.stationPacketInvalid ⟨n, received⟩ false) s = s.discardPacket n (receivedBad received) := rfl
    rw [hexec, hno]
    exact s.discardPacket_none n
  · exact ⟨_, (hbad i hi).trans (State.discardPacket_ready hready n), State.finish_offLine ..⟩
  · refine ⟨_, (halive model).trans (State.onPacket_ready hready n _), ?_, fun habsent hears => State.finish_told s ?_⟩
    · rw [State.finish_offLine]
      refine (State.modStation_of_offLine hmodel (g := fun st => { st with model := some model }) ?_).trans
        (congrArg State.offLine ?_)
      · rw [State.validPacket_get, State.modStation_get]
        rfl
      · fin_cases n <;> rfl
    · exact State.validPacket_told habsent hears
  · exact ⟨_, State.onPacket_ready hready n id, (State.finish_offLine ..).trans hmodel⟩
  · have hexec : exec (.stationLinkLost n) s = .next (State.finish s (s.loseStation n)) := by
      rw [show exec (.stationLinkLost n) s = execStationLinkLost n s from rfl, execStationLinkLost, hready, hpresent]
    obtain ⟨hrest, htransport, hfifo, hpart⟩ := s.lost_get n
    have haccepting : ((s.lost n).stations.get n).accepting = false := (congrArg Station.accepting hrest :)
    have hpedals : ((s.lost n).stations.get n).pedals = [] := (congrArg Station.pedals hrest :)
    have hconfig : ((s.lost n).stations.get n).config = st.config := (congrArg Station.config hrest :)
    have hw := State.finish_station s (s.loseStation n) n
    refine ⟨_, hexec, ?_⟩
    by_cases hgrace : st.config.grace = 0
    · have hlose : s.loseStation n = (s.lost n).expireReclaim n := (s.loseStation_eq n).trans (if_pos hgrace)
      have hidle : ((s.lost n).stations.get n).accepts = false := by
        rw [Station.accepts, haccepting, Bool.and_false]
      obtain ⟨hlink, htimer, htakes, hconfig', haccepting', hpedals', hstopped⟩ := State.expireReclaim_facts hidle
      obtain ⟨htransport', hfifo'⟩ := hstopped htransport hfifo
      rw [← hlose] at hlink htimer htakes hconfig' haccepting' hpedals' htransport' hfifo'
      exact ⟨(congrArg Station.accepting hw :).trans (haccepting'.trans haccepting),
        (congrArg Station.pedals hw :).trans (hpedals'.trans hpedals), (congrArg Station.transport hw :).trans htransport',
        (congrArg Station.fifo hw :).trans hfifo', (congrArg Station.config hw :).trans (hconfig'.trans hconfig),
        State.finish_portFrame (s.loseStation_reach n), fun h => absurd hgrace h,
        fun _ => ⟨(congrArg Station.link hw :).trans hlink, (congrArg Station.reclaimTimer hw :).trans htimer,
          (congrArg Station.takes hw :).trans htakes⟩⟩
    · have hlose : s.loseStation n = s.lost n := (s.loseStation_eq n).trans (if_neg hgrace)
      have hfinish := State.finish_reach s (s.lost n)
      have hreach := s.lost_reach n
      rw [hlose] at hw ⊢
      exact ⟨(congrArg Station.accepting hw :).trans haccepting, (congrArg Station.pedals hw :).trans hpedals,
        (congrArg Station.transport hw :).trans htransport, (congrArg Station.fifo hw :).trans hfifo,
        (congrArg Station.config hw :).trans hconfig, State.finish_portFrame (hreach.mono (by decide)),
        fun _ => ⟨(congrArg Station.link hw :).trans (congrArg Station.link hrest :),
          (congrArg Station.reclaimTimer hw :).trans (congrArg Station.reclaimTimer hrest :),
          (congrArg Station.takes hw :).trans (congrArg Station.takes hrest :),
          (hfinish.takes (by decide)).trans (hreach.takes (by decide)), (hfinish.queue (by decide)).trans (hreach.queue (by decide)),
          fun h => (congrArg Station.stoppedByPart hw :).trans (hpart h)⟩,
        fun h => absurd h hgrace⟩
  · have hexec : exec (.reclaimTimerExpiry n) s = .next (State.finish s (s.expireReclaim n)) := by
      rw [show exec (.reclaimTimerExpiry n) s = execReclaimTimerExpiry n s from rfl, execReclaimTimerExpiry, hready, hlost]
    have hidle : st.accepts = false := by
      rw [Station.accepts, hlost]
      simp
    obtain ⟨hlink, htimer, htakes, hconfig, -⟩ := State.expireReclaim_facts hidle
    have hw := State.finish_station s (s.expireReclaim n) n
    refine ⟨_, hexec, (congrArg Station.link hw :).trans hlink, (congrArg Station.reclaimTimer hw :).trans htimer,
      (congrArg Station.takes hw :).trans htakes, (congrArg Station.config hw :).trans hconfig,
      State.finish_portFrame (s.expireReclaim_reach n), fun r hr k hk => ?_⟩
    obtain ⟨u, hu, hcases⟩ := State.reclaim_take? hidle hk hr
    refine ⟨u, (State.finish_take? ..).trans hu, ?_⟩
    rcases hcases with rfl | ⟨o, -, rfl⟩
    · exact ⟨.inl rfl, rfl, rfl, rfl⟩
    · exact ⟨.inr rfl, rfl, rfl, rfl⟩

end Sys2Proof.Machine
end

section
/-! SUPPORT. CONFIGURE_STATION and the takes of a port that is disabled (R118, R129, R148). -/

namespace Sys2Proof.Machine

/-! ### Takes given back -/

/-- What a take given back by station `n` may have become: QUEUED, or ASSIGNED to another station. -/
def Take.GivenBack (k : Take) (n : StationId) (u : Take) : Prop := u = k.enqueue ∨ ∃ o, o ≠ n ∧ u = k.enqueue.assignedTo o

theorem Allotted.givenBack {s t : State} (h : Allotted s t) {n : StationId} (hn : (s.stations.get n).wanting = false) {q : TakeRef}
    {k u : Take} (hu : s.take? q = some u) (hk : k.GivenBack n u) : ∃ v, t.take? q = some v ∧ k.GivenBack n v := by
  obtain ⟨v, hv, rfl | ⟨o, hwants, -, rfl⟩⟩ := h.record hu
  · exact ⟨_, hv, hk⟩
  · have ho : o ≠ n := by
      rintro rfl
      exact nomatch hn.symm.trans hwants
    refine ⟨_, hv, .inr ⟨o, ho, ?_⟩⟩
    rcases hk with rfl | ⟨m, -, rfl⟩ <;> rfl

/-- An empty list has nothing to give back. -/
theorem State.reclaimed_nil {s : State} {n : StationId} (h : (s.stations.get n).takes = []) : s.reclaimed n = s := by
  have hset : s.modStation n (fun st => { st with takes := [] }) = s := by
    have hsame : ({ s.stations.get n with takes := [] } : Station) = s.stations.get n := by rw [← h]
    exact (congrArg (fun w => { s with stations := s.stations.set n w }) hsame).trans
      (congrArg (fun p => { s with stations := p }) (PerStation.set_get ..))
  unfold State.reclaimed State.givenBack
  rw [h]
  exact hset

theorem State.reclaimed_sated {s : State} {n : StationId} (hidle : (s.stations.get n).accepts = false)
    (hothers : ∀ o, o ≠ n → (s.stations.get o).wanting = false) : (s.reclaimed n).sated := fun m => by
  by_cases hm : m = n
  · subst hm
    exact State.reclaimed_idle hidle
  · rw [(s.reclaimed_elsewhere n).same m hm]
    exact hothers m hm

/-! ### What a port shut down keeps -/

/-- State `t` comes from `s` by shutting down station `n`, which held takes. -/
structure ShutDown (n : StationId) (s t : State) : Prop where
  disabled : (t.stations.get n).config.enable = false
  takes : (t.stations.get n).takes = []
  pedals : (t.stations.get n).pedals = []
  transport : (t.stations.get n).transport = .stopped
  fifo : (t.stations.get n).fifo = []
  audio : (t.stations.get n).audioWaiting = none
  records : ∀ q ∈ (s.stations.get n).takes, ∀ k, s.take? q = some k → ∃ u, t.take? q = some u ∧ k.GivenBack n u
  queued : (∀ o, o ≠ n → (s.stations.get o).wanting = false) → t.sated ∧ ∀ code,
    (t.queue.filter fun q => s.classOf q = code) =
      ((s.stations.get n).takes.filter fun q => s.classOf q = code) ++ s.queue.filter fun q => s.classOf q = code

section
variable {n : StationId} {s t : State}

theorem Station.accepts_of_disabled {st : Station} (h : st.config.enable = false) : st.accepts = false := by
  unfold Station.accepts
  rw [h]
  rfl

theorem ShutDown.pass (h : ShutDown n s t) : ShutDown n s t.matchingPass := by
  have hidle := Station.wanting_of_accepts (Station.accepts_of_disabled h.disabled)
  have hpass := t.matchingPass_allotted
  have hsame := hpass.idle n hidle
  refine ⟨by rw [hsame]; exact h.disabled, by rw [hsame]; exact h.takes, by rw [hsame]; exact h.pedals,
    by rw [hsame]; exact h.transport, by rw [hsame]; exact h.fifo, by rw [hsame]; exact h.audio, fun q hq k hk => ?_, fun ho => ?_⟩
  · obtain ⟨u, hu, hback⟩ := h.records q hq k hk
    exact hpass.givenBack hidle hu hback
  · obtain ⟨hsated, hqueue⟩ := h.queued ho
    rw [State.matchingPass_sated hsated]
    exact ⟨hsated, hqueue⟩

/-- A change of the link state of a port that is shut down. -/
theorem ShutDown.relink (h : ShutDown n s t) {f : Station → Station}
    (hf : ∀ st, (f st).sansLink = st.sansLink) : ShutDown n s (t.modStation n f) := by
  have hget : ((t.modStation n f).stations.get n).sansLink = (t.stations.get n).sansLink := by
    rw [State.modStation_get]
    exact hf _
  have hdisabled : ((t.modStation n f).stations.get n).config.enable = false :=
    (congrArg (fun st : Station => st.config.enable) hget :).trans h.disabled
  refine ⟨hdisabled, (congrArg Station.takes hget :).trans h.takes, (congrArg Station.pedals hget :).trans h.pedals,
    (congrArg Station.transport hget :).trans h.transport, (congrArg Station.fifo hget :).trans h.fifo,
    (congrArg Station.audioWaiting hget :).trans h.audio, h.records, fun ho => ?_⟩
  obtain ⟨hsated, hqueue⟩ := h.queued ho
  refine ⟨fun m => ?_, hqueue⟩
  by_cases hm : m = n
  · subst hm
    exact Station.wanting_of_accepts (Station.accepts_of_disabled hdisabled)
  · exact (congrArg Station.wanting (PerStation.get_set_ne _ _ hm)).trans (hsated m)

theorem ShutDown.expireReclaim (h : ShutDown n s t) : ShutDown n s (t.expireReclaim n) := by
  have hpass : ShutDown n s (t.reclaim n) := by
    rw [State.reclaim_eq, State.reclaimed_nil h.takes]
    exact h.pass
  have hset := hpass.relink (f := fun st => { st with reclaimTimer := none, link := .absent }) fun _ => rfl
  exact ⟨hset.disabled, hset.takes, hset.pedals, hset.transport, hset.fifo, hset.audio, hset.records, hset.queued⟩

end

/-! ### Disabling (R129) -/

/-- A port stopped and emptied, its list given up before. -/
theorem State.shutDown_port {s : State} {n : StationId} (hidle : (s.stations.get n).config.enable = false) :
    let st := s.stations.get n
    let w := (s.disableStation n).stations.get n
    w.config = st.config ∧ w.takes = [] ∧ w.pedals = [] ∧ w.transport = .stopped ∧ w.fifo = [] ∧ w.audioWaiting = none := by
  let u := (s.reclaim n).modStation n fun st => { st with pedals := [], audioWaiting := none }
  have hu : u.stations.get n = { (s.reclaimed n).stations.get n with pedals := [], audioWaiting := none } := by
    rw [← State.reclaim_get (Station.accepts_of_disabled hidle)]
    exact (s.reclaim n).modStation_get n fun st => { st with pedals := [], audioWaiting := none }
  have hw : (s.disableStation n).stations.get n = ((u.setTransport n .stopped).stations.get n).emptied :=
    (u.setTransport n .stopped).emptyPlayout_get n
  obtain ⟨htakes, hsame, -⟩ := s.reclaimed_get n
  have hrest := u.setTransport_sansTransport n .stopped
  have haudio : ((u.setTransport n .stopped).stations.get n).audioWaiting = none := by
    by_cases hstopped : (u.stations.get n).transport = .stopped
    · rw [State.setTransport_same hstopped, hu]
    · rw [State.setTransport_stopped hstopped]
      rfl
  rw [hu] at hrest
  intro st w
  have hw' : w = _ := hw
  rw [hw']
  exact ⟨(congrArg Station.config hrest :).trans (congrArg Station.config hsame :), (congrArg Station.takes hrest :).trans htakes,
    (congrArg Station.pedals hrest :), u.setTransport_transport n .stopped, rfl, haudio⟩

theorem State.disableStation_shutDown {s : State} {n : StationId} (hidle : (s.stations.get n).config.enable = false) :
    ShutDown n s (s.disableStation n) := by
  let u := (s.reclaim n).modStation n fun st => { st with pedals := [], audioWaiting := none }
  have haccepts := Station.accepts_of_disabled hidle
  have hstill : Reach (.notice :: motionKinds) u (s.disableStation n) :=
    (((u.setTransport_reach n .stopped).mono (by decide)).trans ((State.emptyPlayout_reach _ n).mono (by decide))).trans
      (State.raiseStation_reach (hK := by decide) ..)
  have helse : Elsewhere n s (s.reclaimed n) := s.reclaimed_elsewhere n
  have hafter : Elsewhere n (s.reclaim n) (s.disableStation n) :=
    (Elsewhere.mod _ fun st => { st with pedals := [], audioWaiting := none }).trans
      ((u.setTransport_elsewhere n .stopped).trans (((u.setTransport n .stopped).emptyPlayout_elsewhere n).trans (.of_stations rfl)))
  obtain ⟨hconfig, htakes, hpedals, htransport, hfifo, haudio⟩ := State.shutDown_port hidle
  have hdisabled : ((s.disableStation n).stations.get n).config.enable = false := by rw [hconfig]; exact hidle
  refine ⟨hdisabled, htakes, hpedals, htransport, hfifo, haudio, fun q hq k hk => ?_, fun ho => ⟨fun m => ?_, fun code => ?_⟩⟩
  · rw [State.take?_congr (hstill.takes (by decide))]
    exact State.reclaim_take? haccepts hk hq
  · by_cases hm : m = n
    · subst hm
      exact Station.wanting_of_accepts (Station.accepts_of_disabled hdisabled)
    · have hsated := State.reclaimed_sated haccepts ho
      rw [hafter.same m hm, State.reclaim_eq, State.matchingPass_sated hsated]
      exact hsated m
  · rw [hstill.queue (by decide), show u.queue = (s.reclaim n).queue from rfl, State.reclaim_eq,
      State.matchingPass_sated (State.reclaimed_sated haccepts ho), (s.reclaimed_tables n).2]
    exact s.givenBack_queue n code

end Sys2Proof.Machine
end

section
/-! SUPPORT. CONFIGURE_STATION (R148). -/

namespace Sys2Proof.Machine

/-- A port under its new configuration, before its effects. -/
def State.withStationConfig (s : State) (n : StationId) (cfg : StationConfig) : State :=
  s.modStation n fun st => { st with config := cfg }

theorem State.withStationConfig_get (s : State) (n : StationId) (cfg : StationConfig) :
    (s.withStationConfig n cfg).stations.get n = { s.stations.get n with config := cfg } :=
  s.modStation_get n fun st => { st with config := cfg }

/-- The effects of a new configuration set no configuration. -/
theorem State.configureStation_effects (s : State) (n : StationId) (cfg : StationConfig) :
    Reach portKinds (s.withStationConfig n cfg) (s.configureStation n cfg) := by
  unfold State.configureStation
  exact .trans (.thenIf (.thenIf (.onlyIf fun _ => State.disableStation_reach ..) fun _ =>
    State.raiseStation_reach (hK := by decide) ..) fun _ => State.expireReclaim_reach ..) ((State.matchingPass_reach _).mono (by decide))

theorem Reach.stationConfigs {K : List Kind} {s t : State} (h : Reach K s t) (hK : Kind.stationConfig ∉ K) (m : StationId) :
    (t.stations.get m).config = (s.stations.get m).config :=
  h.keeps (fun u => (u.stations.get m).config) fun _ hk _ _ hm => by
    obtain ⟨-, hconfig, -⟩ := hm.configs
    exact hconfig (fun he => hK (he ▸ hk)) m

/-- A port whose enable goes from yes to no is shut down (R129). -/
theorem State.configureStation_shutDown {s : State} {n : StationId} {cfg : StationConfig}
    (hwas : (s.stations.get n).config.enable = true) (hoff : cfg.enable = false) :
    ShutDown n (s.withStationConfig n cfg) (s.configureStation n cfg) := by
  let u := (s.withStationConfig n cfg).disableStation n
  have hconfigure : s.configureStation n cfg =
      (if (u.stations.get n).graceSpent then u.expireReclaim n else u).matchingPass := by
    unfold State.configureStation
    dsimp only
    rw [hwas, hoff]
    rfl
  have hdown : ShutDown n (s.withStationConfig n cfg) u := State.disableStation_shutDown (by
    rw [State.withStationConfig_get]
    exact hoff)
  rw [hconfigure]
  split
  · exact hdown.expireReclaim.pass
  · exact hdown.pass

theorem storedStation_eq (r : ConfigureStationReq) : storedStation r =
    let x := min 16 r.scanPlay
    { enable := r.enable, channelSet := BitVec.ofNat 4 r.channelSet, classSet := BitVec.ofNat 3 r.classSet
      depth := max 1 (min 4 r.depth), cleared := r.cleared, startAtCore := r.startAtCore
      backspace := min 125 r.backspace, scanPlay := x, scanStride := max (x + 1) (min 64 r.scanStride)
      grace := min 600 r.grace, text := cleanText r.text } := by
  have hplay : clamp 0 16 r.scanPlay = min 16 r.scanPlay := (clamp_eq (by decide) _).trans (Nat.zero_max _)
  unfold storedStation
  rw [hplay, clamp_eq (by decide : 1 ≤ 4), clamp_eq (by decide : 0 ≤ 125), clamp_eq (by decide : 0 ≤ 600),
    clamp_eq (by omega : min 16 r.scanPlay + 1 ≤ 64), Nat.zero_max, Nat.zero_max]

/-! ### No AUDIO waits after the lines have been served -/

/-- Only the link's own moves touch the device state. -/
theorem Move.device {k : Kind} {s t : State} (h : Move k s t) (hk : k ∉ [Kind.sending, .link, .mask]) :
    t.link.device = s.link.device := by
  cases h with
  | notice k sub contents =>
    rw [State.raise_link, Link.raise_eq]
  | sending => exact absurd (by decide) hk
  | link => exact absurd (by decide) hk
  | mask => exact absurd (by decide) hk
  | _ => rfl

theorem Reach.device {K : List Kind} {s t : State} (h : Reach K s t) (hK : ∀ k ∈ K, k ∉ [Kind.sending, .link, .mask]) :
    t.link.device = s.link.device :=
  h.keeps (fun u => u.link.device) fun k hk _ _ hm => hm.device (hK k hk)

theorem State.request_finish {s t : State} {i : Instr} {r : Request} (h : Taken i s) (hr : i.request = some r)
    {f : State → State × Answer} (hexec : exec i s = s.request i f) {u : State} {a : Answer} (hf : f (s.taking r) = (u, a))
    (ht : exec i s = .next t) : ∃ p, t = State.finish s (u.recordReply p) := by
  have hw : s.withRequest (s.requestOr r) = s.taking r := State.withRequest_eq h.1 r
  have hfinish : s.request i f = .next (State.finish s (s.performRequest i f)) := rfl
  rw [hexec, hfinish, State.performRequest_taken h hr, hw, hf] at ht
  exact ⟨_, (Host.Outcome.next.inj ht).symm⟩

theorem Station.startPacket_quiet {st : Station} (h : st.audioWaiting = none) (body : List Byte) :
    (st.startPacket body).audioWaiting = none := by
  unfold Station.startPacket
  split
  · exact h
  · split
    · rfl
    · split <;> rfl

theorem State.finish_quiet {before s : State} {n : StationId} (hready : s.link.device = .ready)
    (h : (s.stations.get n).audioWaiting = none) : ((State.finish before s).stations.get n).audioWaiting = none := by
  rw [State.finish_get hready]
  apply Station.startPacket_quiet
  exact h

/-- Settles O55: what disabling does is `ShutDown`. -/
theorem configureStationReplaces : Obligations.ConfigureStationReplaces := by
  unfold Obligations.ConfigureStationReplaces
  intro s tag r h
  refine ⟨fun hno => State.request_keeps h rfl rfl ?_, fun n hn => ?_⟩
  · rw [stationOf_eq_none hno]
    rfl
  · intro x st cfg
    generalize hq : (⟨0x40, tag, encodeConfigureStation r⟩ : Request) = q
    have hcfg : storedStation r = cfg := storedStation_eq r
    have heffects := (s.taking q).configureStation_effects n cfg
    have hreach := (s.taking q).configureStation_reach n cfg
    obtain ⟨t, hexec, hanswered, hleft⟩ := State.request_answers (r := q) (u := (s.taking q).configureStation n cfg)
      (a := ⟨adjusted (stationChanges r), stationConfigBytes cfg⟩) h (hq ▸ rfl) rfl
      (by rw [hn, stationOf_val, ← hcfg]) (hreach.inProgress (by decide) (by decide))
    have hport := State.station_offLine_congr hleft
    have hconfig (m : StationId) : (t.stations.get m).config = (((s.taking q).withStationConfig n cfg).stations.get m).config :=
      (congrArg Station.config (hport m) :).trans (heffects.stationConfigs (by decide) m)
    obtain ⟨hchannels, hsessions, hstore, hmarks, hranges, hreadback⟩ : t.channels = s.channels ∧ t.sessions = s.sessions
        ∧ t.store = s.store ∧ t.marks = s.marks ∧ t.ranges = s.ranges ∧ t.readback = s.readback :=
      ⟨(congrArg State.channels hleft :).trans (hreach.channels (by decide)),
        (congrArg State.sessions hleft :).trans (hreach.sessions (by decide)),
        (congrArg State.store hleft :).trans (hreach.store (by decide)), (congrArg State.marks hleft :).trans (hreach.marks (by decide)),
        (congrArg State.ranges hleft :).trans (hreach.ranges (by decide)),
        (congrArg State.readback hleft :).trans (hreach.readback (by decide))⟩
    refine ⟨t, hexec, ⟨_, adjusted_cases _, hanswered⟩, ?_, fun hwas hoff => ?_, fun m hm => ?_, hchannels, hsessions, hstore,
      hmarks, hranges, hreadback⟩
    · rw [hconfig, State.withStationConfig_get]
    · have hdown : ShutDown n ((s.taking q).withStationConfig n cfg) ((s.taking q).configureStation n cfg) :=
        State.configureStation_shutDown hwas hoff
      have hbefore : ((s.taking q).withStationConfig n cfg).stations.get n = { st with config := cfg } :=
        State.withStationConfig_get ..
      have htaken : (((s.taking q).withStationConfig n cfg).stations.get n).takes = st.takes := (congrArg Station.takes hbefore :)
      have htakes := hdown.records
      have hqueued := hdown.queued
      rw [htaken] at htakes hqueued
      have haudio : (t.stations.get n).audioWaiting = none := by
        obtain ⟨p, rfl⟩ := State.request_finish (r := q) (u := (s.taking q).configureStation n cfg)
          (a := ⟨adjusted (stationChanges r), stationConfigBytes cfg⟩) h (hq ▸ rfl) rfl (by rw [hn, stationOf_val, ← hcfg]) hexec
        exact State.finish_quiet ((hreach.device (by decide)).trans h.2) hdown.audio
      refine ⟨(congrArg Station.takes (hport n) :).trans hdown.takes, (congrArg Station.pedals (hport n) :).trans hdown.pedals,
        (congrArg Station.transport (hport n) :).trans hdown.transport, (congrArg Station.fifo (hport n) :).trans hdown.fifo,
        haudio, fun p hp k hk => ?_, fun hothers code => ?_⟩
      · obtain ⟨u, hu, hback⟩ := htakes p hp k hk
        refine ⟨u, (State.take?_of_offLine hleft p).trans hu, ?_⟩
        rcases hback with rfl | ⟨o, ho, rfl⟩
        · exact ⟨.inl ⟨rfl, rfl⟩, rfl, rfl, rfl⟩
        · exact ⟨.inr ⟨rfl, o, ho, rfl⟩, rfl, rfl, rfl⟩
      · rw [State.queue_of_offLine hleft]
        exact (hqueued fun o ho => (congrArg Station.wanting (PerStation.get_set_ne _ _ ho)).trans (hothers o ho)).2 code
    · rw [hconfig]
      exact (congrArg Station.config (PerStation.get_set_ne _ _ hm) :)

end Sys2Proof.Machine
end

section
/-! SUPPORT. The keys of a station port (R130, R142 to R146). -/

namespace Sys2Proof.Machine

/-! ### A key's event -/

theorem State.validPacket_config (s : State) (n : StationId) :
    ((s.validPacket n).stations.get n).config = (s.stations.get n).config := by
  rw [State.validPacket_get]
  exact (congrArg Station.config (s.stations.get n).heard_sansLink :)

/-- A release, or a key of a disabled port. -/
theorem State.onKey_idle {s : State} {n : StationId} {press : Bool} (hready : s.link.device = .ready)
    (h : press = false ∨ (s.stations.get n).config.enable = false) (f : State → State) :
    s.onKey n press f = .next (State.finish s (s.validPacket n)) := by
  have hidle : (press && ((s.validPacket n).stations.get n).config.enable) = false := by
    rw [State.validPacket_config]
    rcases h with rfl | h
    · rfl
    · rw [h, Bool.and_false]
  rw [State.onKey, State.onPacket_ready hready, hidle]
  rfl

/-- A press on an enabled port. -/
theorem State.onKey_acts {s : State} {n : StationId} (hready : s.link.device = .ready)
    (henable : (s.stations.get n).config.enable = true) (f : State → State) :
    s.onKey n true f = .next (State.finish s (f (s.validPacket n))) := by
  rw [State.onKey, State.onPacket_ready hready, State.validPacket_config, henable]
  rfl

theorem State.validPacket_setStatus (s : State) (n : StationId) (e : StationStatus) (mark : Option Nat) :
    ((s.validPacket n).setStatus n e mark).offLine =
      (s.modStation n fun _ => { (s.stations.get n).heard with status := e, statusMark := mark }).offLine := by
  refine (State.modStation_of_offLine (s.validPacket_offLine n) (g := fun st => { st with status := e, statusMark := mark }) ?_).trans
    (congrArg State.offLine ?_)
  · rw [State.validPacket_get, State.modStation_get]
    rfl
  · fin_cases n <;> rfl

theorem State.validPacket_elsewhere (s : State) (n : StationId) : Elsewhere n s (s.validPacket n) := by
  rw [State.validPacket_eq]
  split
  · exact .mod ..
  · exact (Elsewhere.mod s fun _ => (s.stations.get n).heard).trans (.of_stations rfl)

/-! ### READY (R130) -/

/-- The accepting flag turned, before the pass. -/
def State.acceptingTurned (s : State) (n : StationId) : State :=
  (s.modStation n fun st => { st with accepting := !st.accepting }).raiseStation n .accepting none none

theorem State.acceptingTurned_get (s : State) (n : StationId) :
    (s.acceptingTurned n).stations.get n = { s.stations.get n with accepting := !(s.stations.get n).accepting } :=
  s.modStation_get n fun st => { st with accepting := !st.accepting }

/-- The change of the accepting flag is reported, after the packet that the port was heard by. -/
theorem State.acceptingTurned_told {s : State} {n : StationId} (hears : s.hears .station) :
    ((s.validPacket n).acceptingTurned n).told .station (.station n) := by
  have hreach : Reach [.signal, .notice] (s.validPacket n) ((s.validPacket n).acceptingTurned n) :=
    .trans (State.modSignal_reach (by rfl) (by rfl) (by rfl) (by rfl) (by decide)) (State.raiseStation_reach (hK := by decide) ..)
  by_cases hlink : (s.stations.get n).link = .present
  · refine State.raise_told (s := (s.validPacket n).modStation n fun st => { st with accepting := !st.accepting }) ?_ _ _
    rw [State.validPacket_eq, if_pos hlink]
    exact hears
  · exact hreach.told (by decide) (State.validPacket_told hlink hears)

theorem State.readyKey_idle {s : State} {n : StationId} (h : (s.stations.get n).accepting = true) :
    s.readyKey n = s.acceptingTurned n := by
  refine if_neg (Bool.not_eq_true _ ▸ Station.wanting_of_accepts ?_)
  have hget := s.acceptingTurned_get n
  rw [h] at hget
  rw [show ((s.modStation n fun st => { st with accepting := !st.accepting }).raiseStation n .accepting none none).stations.get n = _
    from hget, Station.accepts]
  exact Bool.and_false _

/-- READY pressed while accepting: the port heard, accepting no more. -/
theorem State.validPacket_stopsAccepting {s : State} {n : StationId} (h : (s.stations.get n).accepting = true) :
    ((s.validPacket n).readyKey n).offLine =
      (s.modStation n fun _ => { (s.stations.get n).heard with accepting := false }).offLine := by
  have haccepting : (s.stations.get n).heard.accepting = true :=
    (congrArg Station.accepting (s.stations.get n).heard_sansLink :).trans h
  have hturned : ((s.validPacket n).acceptingTurned n).offLine =
      ((s.validPacket n).modStation n fun st => { st with accepting := !st.accepting }).offLine := State.raise_offLine ..
  rw [State.readyKey_idle (by rw [State.validPacket_get]; exact haccepting), hturned]
  refine (State.modStation_of_offLine (s.validPacket_offLine n) (g := fun st => { st with accepting := false }) ?_).trans
    (congrArg State.offLine ?_)
  · rw [State.modStation_get, State.validPacket_get, haccepting]
    rfl
  · fin_cases n <;> rfl

/-! ### The keys that need a current take -/

theorem State.keys_noTake {s : State} {n : StationId} (h : s.currentOf n = none) : s.doneKey n = s.setStatus n .noTake none
    ∧ s.returnKey n = s.setStatus n .noTake none ∧ s.noteKey n = s.setStatus n .noTake none := by
  refine ⟨?_, ?_, ?_⟩
  · unfold State.doneKey
    rw [h]
  · unfold State.returnKey
    rw [h]
  · unfold State.noteKey
    rw [h]

theorem State.doneKey_eq {s : State} {n : StationId} {k : Take} {x : Session} (h : s.currentOf n = some (k, x)) : s.doneKey n =
    if k.dispatch = .assigned then s.setStatus n .notYetPlayed none
    else if k.capture = .opened then s.setStatus n .stillRecording none else s.typeTake n k := by
  unfold State.doneKey
  rw [h]

theorem State.returnKey_eq {s : State} {n : StationId} {k : Take} {x : Session} (h : s.currentOf n = some (k, x)) :
    s.returnKey n = s.returnTake n k := by
  unfold State.returnKey
  rw [h]

/-! ### NOTE (R146) -/

/-- The current take heads its list, and its session is in the table. -/
theorem State.currentOf_head {s : State} {n : StationId} {k : Take} {x : Session} (h : s.currentOf n = some (k, x)) :
    (s.stations.get n).takes.head? = some k.ref ∧ s.session? k.session = some x := by
  unfold State.currentOf at h
  split at h
  · next r hr =>
    split at h
    · next t y ht hy =>
      obtain ⟨rfl, rfl⟩ := Prod.mk.inj (Option.some.inj h)
      have href : t.ref = r := State.ref_of_take? ht
      refine ⟨href ▸ hr, ?_⟩
      rw [← hy, ← href]
      rfl
    · exact nomatch h
  · exact nomatch h

theorem State.noteKey_eq {s : State} {n : StationId} {k : Take} {x : Session} {f : Nat} (h : s.currentOf n = some (k, x))
    (hf : (s.stations.get n).cursor = some f) : s.noteKey n =
      ((s.addReportedMark k.channel (plainMark k.session f .note (.station n))).1.setStatus n
        (noteStatus (s.addReportedMark k.channel (plainMark k.session f .note (.station n))).2)
        (s.addReportedMark k.channel (plainMark k.session f .note (.station n))).2.number?) := by
  unfold State.noteKey
  rw [h, hf]

theorem State.addReportedMark_outcome {s : State} {c : ChannelId} {m : Mark} {x : Session} (hx : s.session? m.session = some x)
    (hnew : ∀ e ∈ s.marks, e.session = m.session → e.frame ≠ m.frame) (hissued : x.markIssued < 65535)
    (hroom : s.marks.length < m.source.room) : (s.addReportedMark c m).2 = .inserted (x.markIssued + 1) := by
  have hdistinct (e : Mark) (he : e ∈ s.marks) : e.identical m = false := by
    by_contra hsame
    simp only [Mark.identical, Bool.and_eq_true, decide_eq_true_eq, Bool.not_eq_false] at hsame
    obtain ⟨⟨⟨⟨⟨⟨hsession, hframe⟩, -⟩, -⟩, -⟩, -⟩, -⟩ := hsame
    exact hnew e he hsession hframe
  unfold State.addReportedMark State.addMark
  rw [State.placeMark_inserts hx hdistinct hissued hroom]

end Sys2Proof.Machine
end

section
/-! SUPPORT. DONE and RETURN (R65, R116, R143, R144). -/

namespace Sys2Proof.Machine

/-! ### By the dispatch invariant -/

/-- The queue holds the QUEUED takes. -/
theorem State.DispatchInv.mem_queue_iff {s : State} (hs : s.DispatchInv) {r : TakeRef} {k : Take} (hk : s.take? r = some k) :
    r ∈ s.queue ↔ k.dispatch = .queued := by
  obtain ⟨-, hqueue, -⟩ := (State.dispatchInv_iff.mp hs).2
  refine ((hqueue r).trans (and_iff_left List.not_mem_nil)).trans ⟨fun ⟨j, hj, hd⟩ => ?_, fun hd => ⟨_, State.board_look hk, hd⟩⟩
  obtain rfl := Option.some.inj ((State.board_look hk).symm.trans hj)
  exact hd

/-- The current take stands at the head of its list and nowhere else. -/
theorem State.DispatchInv.current {s : State} (hs : s.DispatchInv) {n : StationId} {k : Take} {x : Session}
    (h : s.currentOf n = some (k, x)) : s.take? k.ref = some k ∧ k.ref ∉ s.queue
      ∧ (s.stations.get n).takes = k.ref :: (s.stations.get n).takes.tail ∧ k.ref ∉ (s.stations.get n).takes.tail := by
  obtain ⟨hk, hin, -⟩ := hs.of_current h
  obtain ⟨hhead, -⟩ := State.currentOf_head h
  obtain ⟨-, -, hlists, -⟩ := id hs
  have hlist : (s.stations.get n).takes = k.ref :: (s.stations.get n).takes.tail := (List.cons_head?_tail hhead).symm
  refine ⟨hk, fun hq => ?_, hlist, ?_⟩
  · have hd := (hs.mem_queue_iff hk).mp hq
    rcases hin with hin | hin <;> exact nomatch hin.symm.trans hd
  · have hnodup := (hlists n).1
    rw [hlist] at hnodup
    exact (List.nodup_cons.mp hnodup).1

/-! ### A take off its list, and the pass that follows -/

/-- Station `n` has given up its current take `r` from `s` to `t`, and may have been given takes of the queue. -/
def State.GaveUp (s : State) (n : StationId) (r : TakeRef) (t : State) : Prop :=
  r ∉ (t.stations.get n).takes ∧ ∃ more, (t.stations.get n).takes = (s.stations.get n).takes.tail ++ more ∧ ∀ q ∈ more, q ∈ s.queue

theorem Matched.gaveUp {s v t : State} {n : StationId} {r : TakeRef} (h : Matched v t)
    (hlist : (v.stations.get n).takes = (s.stations.get n).takes.tail) (hout : r ∉ (s.stations.get n).takes.tail)
    (hqueue : ∀ q ∈ v.queue, q ≠ r → q ∈ s.queue)
    (hback : ∀ more, (t.stations.get n).takes = (v.stations.get n).takes ++ more → r ∉ more) : s.GaveUp n r t := by
  obtain ⟨more, hmore, hin⟩ := h.lists n
  have hr := hback more hmore
  rw [hlist] at hmore
  refine ⟨?_, more, hmore, fun q hq => hqueue q (hin q hq) ?_⟩
  · rw [hmore]
    exact fun hmem => (List.mem_append.mp hmem).elim hout hr
  · rintro rfl
    exact hr hq

/-- A take that does not wait in the queue does not come back. -/
theorem Matched.keeps_away {v t : State} {n : StationId} {r : TakeRef} (h : Matched v t) (hr : r ∉ v.queue) (more : List TakeRef)
    (hmore : (t.stations.get n).takes = (v.stations.get n).takes ++ more) : r ∉ more := by
  obtain ⟨more', hmore', hin⟩ := h.lists n
  obtain rfl := List.append_cancel_left (hmore.symm.trans hmore')
  exact fun hmem => hr (hin r hmem)

/-- A take that the port is not eligible for does not come back. -/
theorem Allotted.keeps_away {v t : State} {n : StationId} {r : TakeRef} {k : Take} (h : Allotted v t) (hk : v.take? r = some k)
    (he : (v.stations.get n).eligible n k = false) (more : List TakeRef)
    (hmore : (t.stations.get n).takes = (v.stations.get n).takes ++ more) : r ∉ more := by
  obtain ⟨more', hmore', hin⟩ := h.lists n
  obtain rfl := List.append_cancel_left (hmore.symm.trans hmore')
  intro hmem
  obtain ⟨u, hu, helig⟩ := hin r hmem
  obtain rfl := Option.some.inj (hk.symm.trans hu)
  exact nomatch he.symm.trans helig

theorem Station.eligible_of_excluded {st : Station} {n : StationId} {k : Take} (h : k.excluded = some n) :
    st.eligible n k = false := by
  unfold Station.eligible
  rw [decide_eq_false (fun hne => hne h), Bool.and_false]

/-- The status stands through a pass. -/
theorem Allotted.status {s t : State} (h : Allotted s t) (n : StationId) : (t.stations.get n).status = (s.stations.get n).status :=
  (congrArg Station.status (h.ports n) :)

section
variable {s : State} {n : StationId} {k : Take} {x : Session} (hs : s.DispatchInv) (hcurrent : s.currentOf n = some (k, x))
include hs hcurrent

theorem State.leaveList_tail : ((s.leaveList n k.ref).stations.get n).takes = (s.stations.get n).takes.tail := by
  obtain ⟨-, -, hlist, -⟩ := hs.current hcurrent
  rw [State.leaveList_lists, if_pos rfl, hlist, List.erase_cons_head]
  rfl

end

/-! ### DONE -/

/-- The current take typed, before the pass (R143). -/
def State.typedOff (s : State) (n : StationId) (k : Take) : State :=
  (((s.modTake k.ref fun t => { t with dispatch := .typed, station := none }).leaveList n k.ref).setStatus n .typed none).raiseTake
    k.ref .dispatch

theorem State.typeTake_eq (s : State) (n : StationId) (k : Take) : s.typeTake n k = (s.typedOff n k).passIfWanting n := rfl

section
variable {s : State} {n : StationId} {k : Take} {x : Session} (hs : s.DispatchInv) (hcurrent : s.currentOf n = some (k, x))
include hs hcurrent

theorem State.typeTake_spec : ((s.typeTake n k).stations.get n).status = .typed
    ∧ (s.typeTake n k).take? k.ref = some { k with dispatch := .typed, station := none }
    ∧ s.GaveUp n k.ref (s.typeTake n k) ∧ (s.typeTake n k).queue.Sublist s.queue := by
  obtain ⟨hk, hq, hlist, hout⟩ := hs.current hcurrent
  let v := s.modTake k.ref fun t => { t with dispatch := .typed, station := none }
  have hleave : Reach [.orphan, .port, .list] v (v.leaveList n k.ref) := v.leaveList_reach ..
  have hafter : Reach [.orphan, .port, .notice] (v.leaveList n k.ref) (s.typedOff n k) :=
    ((State.setStatus_reach _ n .typed none).mono (by decide)).trans (State.raiseTake_reach (hK := by decide) ..)
  have hqueue : (s.typedOff n k).queue = s.queue := (hafter.queue (by decide)).trans (hleave.queue (by decide))
  have htake : (s.typedOff n k).take? k.ref = some { k with dispatch := .typed, station := none } := by
    rw [State.take?_congr ((hafter.takes (by decide)).trans (hleave.takes (by decide)))]
    exact State.take?_modTake hk fun _ => rfl
  have htail : ((s.typedOff n k).stations.get n).takes = (s.stations.get n).takes.tail := by
    rw [hafter.stationTakes (by decide), State.leaveList_lists, if_pos rfl]
    show (s.stations.get n).takes.erase k.ref = _
    rw [hlist, List.erase_cons_head]
    rfl
  have hstatus : ((s.typedOff n k).stations.get n).status = .typed := by
    rw [State.typedOff, State.raiseTake_stations, State.setStatus, State.modStation_get]
  have hpass := (s.typedOff n k).passIfWanting_matched n
  have hnot : k.ref ∉ (s.typedOff n k).queue := hqueue ▸ hq
  rw [State.typeTake_eq]
  exact ⟨((State.passIfWanting_allotted ..).status n).trans hstatus, (hpass.keeps_take? hnot).trans htake,
    hpass.gaveUp htail hout (fun q hq _ => hqueue ▸ hq) (hpass.keeps_away hnot), hqueue ▸ hpass.queue⟩

end

/-! ### RETURN -/

/-- The record of a take returned (R144). -/
def Take.returnedBy (k : Take) (n : StationId) : Take := { k with returns := min 3 (k.returns + 1), excluded := some n }

/-- The current take back at the head of its class, before the pass. -/
def State.queuedBack (s : State) (n : StationId) (k : Take) : State :=
  ((s.returned n k).queueHead k.ref).setStatus n .returned none

/-- The current take HELD, before the pass. -/
def State.heldBack (s : State) (n : StationId) (k : Take) : State :=
  (((s.returned n k).modTake k.ref fun t => { t with dispatch := .held, station := none }).raiseTake k.ref .dispatch).setStatus n
    .held none

theorem State.returnTake_eq (s : State) (n : StationId) (k : Take) : s.returnTake n k =
    if min 3 (k.returns + 1) < 3 then (s.queuedBack n k).matchingPass else (s.heldBack n k).passIfWanting n := rfl

section
variable {s : State} {n : StationId} {k : Take} {x : Session} (hs : s.DispatchInv) (hcurrent : s.currentOf n = some (k, x))
include hs hcurrent

theorem State.returned_parts : (s.returned n k).queue = s.queue ∧ ((s.returned n k).stations.get n).takes = (s.stations.get n).takes.tail
    ∧ (s.returned n k).take? k.ref = some (k.returnedBy n) ∧ ∀ q, (s.returned n k).classOf q = s.classOf q := by
  obtain ⟨hk, -⟩ := hs.current hcurrent
  have hleave := s.leaveList_reach n k.ref
  have hk' : (s.leaveList n k.ref).take? k.ref = some k := (State.take?_congr (hleave.takes (by decide)) _).trans hk
  have hclass (q : TakeRef) : (s.leaveList n k.ref).classOf q = s.classOf q := by
    unfold State.classOf
    rw [State.take?_congr (hleave.takes (by decide))]
  refine ⟨hleave.queue (by decide), ?_, State.take?_modTake hk' fun _ => rfl, fun q => ?_⟩
  · exact State.leaveList_tail hs hcurrent
  · rw [State.returned, State.classOf_modTake hk' (by exact fun _ => rfl), ← hclass]
    split
    · next hq =>
      rw [hq, State.classOf_of_take? hk']
    · rfl

/-- The third return (R116). -/
theorem State.heldBack_spec : ((s.heldBack n k).passIfWanting n).take? k.ref =
      some { k.returnedBy n with dispatch := .held, station := none }
    ∧ (((s.heldBack n k).passIfWanting n).stations.get n).status = .held
    ∧ s.GaveUp n k.ref ((s.heldBack n k).passIfWanting n) ∧ ((s.heldBack n k).passIfWanting n).queue.Sublist s.queue := by
  obtain ⟨-, hq, -, hout⟩ := hs.current hcurrent
  obtain ⟨hrqueue, hrlist, hrtake, -⟩ := State.returned_parts hs hcurrent
  let v := (s.returned n k).modTake k.ref fun t => { t with dispatch := .held, station := none }
  have hafter : Reach [.orphan, .port, .notice] v (s.heldBack n k) :=
    Reach.trans (State.raiseTake_reach (hK := by decide) ..) ((State.setStatus_reach _ n .held none).mono (by decide))
  have hqueue : (s.heldBack n k).queue = s.queue := (hafter.queue (by decide)).trans hrqueue
  have htake : (s.heldBack n k).take? k.ref = some { k.returnedBy n with dispatch := .held, station := none } :=
    (State.take?_congr (hafter.takes (by decide)) _).trans (State.take?_modTake hrtake fun _ => rfl)
  have htail : ((s.heldBack n k).stations.get n).takes = (s.stations.get n).takes.tail :=
    (hafter.stationTakes (by decide) n).trans hrlist
  have hstatus : ((s.heldBack n k).stations.get n).status = .held := by
    rw [State.heldBack, State.setStatus, State.modStation_get]
  have hpass := (s.heldBack n k).passIfWanting_matched n
  have hnot : k.ref ∉ (s.heldBack n k).queue := hqueue ▸ hq
  exact ⟨(hpass.keeps_take? hnot).trans htake, ((State.passIfWanting_allotted ..).status n).trans hstatus,
    hpass.gaveUp htail hout (fun q hq _ => hqueue ▸ hq) (hpass.keeps_away hnot), hqueue ▸ hpass.queue⟩

theorem State.queuedBack_parts : (s.queuedBack n k).take? k.ref = some (k.returnedBy n).enqueue
    ∧ ((s.queuedBack n k).stations.get n).takes = (s.stations.get n).takes.tail
    ∧ ((s.queuedBack n k).stations.get n).status = .returned
    ∧ ∃ a b, s.queue = a ++ b ∧ (s.queuedBack n k).queue = a ++ k.ref :: b ∧ (∀ q ∈ a, s.classOf q < k.takeClass.code)
      ∧ ∀ q, b.head? = some q → k.takeClass.code ≤ s.classOf q := by
  obtain ⟨hrqueue, hrlist, hrtake, hrclass⟩ := State.returned_parts hs hcurrent
  have hset := State.setStatus_reach ((s.returned n k).queueHead k.ref) n .returned none
  obtain ⟨a, b, hsplit, hplaced, hahead, hbehind⟩ := State.queueHead_places hrtake
  refine ⟨(State.take?_congr (hset.takes (by decide)) _).trans (State.queueHead_take? hrtake), ?_, ?_, a, b, hrqueue ▸ hsplit,
    (hset.queue (by decide)).trans hplaced, fun q hq => hrclass q ▸ hahead q hq, fun q hq => hrclass q ▸ hbehind q hq⟩
  · rw [State.queuedBack, hset.stationTakes (by decide), State.queueHead_stations]
    exact hrlist
  · rw [State.queuedBack, State.setStatus, State.modStation_get]

/-- A return to the queue (R116, R144). -/
theorem State.queuedBack_spec : ∃ u, (s.queuedBack n k).matchingPass.take? k.ref = some u
    ∧ u.returns = min 3 (k.returns + 1) ∧ u.excluded = some n ∧ u.takeClass = k.takeClass ∧ u.station ≠ some n
    ∧ (u.dispatch = .queued ∨ u.dispatch = .assigned) ∧ ((s.queuedBack n k).matchingPass.stations.get n).status = .returned
    ∧ s.GaveUp n k.ref (s.queuedBack n k).matchingPass := by
  obtain ⟨htake, htail, hstatus, a, b, hsplit, hplaced, -⟩ := State.queuedBack_parts hs hcurrent
  obtain ⟨-, -, -, hout⟩ := hs.current hcurrent
  have hpass := (s.queuedBack n k).matchingPass_allotted
  have hnever : ((s.queuedBack n k).stations.get n).eligible n (k.returnedBy n).enqueue = false := Station.eligible_of_excluded rfl
  have hgave : s.GaveUp n k.ref (s.queuedBack n k).matchingPass := by
    refine (State.matchingPass_matched _).gaveUp htail hout (fun q hq hne => ?_) (hpass.keeps_away htake hnever)
    rw [hplaced, List.mem_append, List.mem_cons] at hq
    rw [hsplit, List.mem_append]
    exact hq.imp id fun h => h.resolve_left hne
  obtain ⟨u, hu, rfl | ⟨o, -, helig, rfl⟩⟩ := hpass.record htake
  · exact ⟨_, hu, rfl, rfl, rfl, nofun, .inl rfl, (hpass.status n).trans hstatus, hgave⟩
  · refine ⟨_, hu, rfl, rfl, rfl, fun ho => ?_, .inr rfl, (hpass.status n).trans hstatus, hgave⟩
    obtain rfl := Option.some.inj ho
    exact nomatch hnever.symm.trans helig

end

theorem State.queuedBack_elsewhere (s : State) (n : StationId) (k : Take) : Elsewhere n s (s.queuedBack n k) :=
  ((s.leaveList_elsewhere n k.ref).trans (.of_stations (State.queueHead_stations (s.returned n k) k.ref))).trans
    (.mod ((s.returned n k).queueHead k.ref) fun st => { st with status := .returned, statusMark := none, stateDue := true })

theorem State.queuedBack_accepting (s : State) (n : StationId) (k : Take) :
    ((s.queuedBack n k).stations.get n).accepting = (s.stations.get n).accepting := by
  rw [State.queuedBack, State.setStatus, State.modStation_get, State.queueHead_stations]
  exact (congrArg Station.accepting (s.leaveList_get n k.ref) :)

/-- Where no other port wants work and this one does not accept any, the pass after a return does nothing. -/
theorem State.queuedBack_sated {s : State} {n : StationId} (hothers : ∀ o, o ≠ n → (s.stations.get o).wanting = false)
    (haccepting : (s.stations.get n).accepting = false) (k : Take) : (s.queuedBack n k).sated := fun m => by
  by_cases hm : m = n
  · subst hm
    refine Station.wanting_of_accepts ?_
    rw [Station.accepts, State.queuedBack_accepting, haccepting, Bool.and_false]
  · rw [(s.queuedBack_elsewhere n k).same m hm]
    exact hothers m hm

end Sys2Proof.Machine
end

section
/-! SUPPORT. The keys of a station port, settled (R130, R143 to R146). -/

namespace Sys2Proof.Machine

theorem State.GaveUp.congr {s s' t t' : State} {n : StationId} {r : TakeRef} (h : s.GaveUp n r t)
    (hs : (s'.stations.get n).takes = (s.stations.get n).takes) (hq : s'.queue = s.queue)
    (ht : (t'.stations.get n).takes = (t.stations.get n).takes) : s'.GaveUp n r t' := by
  unfold State.GaveUp
  rw [hs, hq, ht]
  exact h

theorem noteStatus_cases (m : MarkOutcome) : noteStatus m = .noteAdded ∨ noteStatus m = .noteMerged ∨ noteStatus m = .noteDropped := by
  cases m with
  | inserted => exact .inl rfl
  | merged => exact .inr (.inl rfl)
  | dropped => exact .inr (.inr rfl)

/-- What a key's event may move: what its rule moves, the packet heard and the lines served. -/
theorem State.heard_reach {K : List Kind} {s v : State} {n : StationId} (h : Reach K (s.validPacket n) v) :
    Reach ([.sending, .exporter, .orphan, .port, .notice, .signal] ++ K) s (State.finish s v) := by
  refine (((s.validPacket_reach n).mono ?_).trans (h.mono fun k hk => List.mem_append_right _ hk)).trans
    ((State.finish_reach s v).mono ?_)
  · exact fun k hk => List.mem_append_left _ ((by decide : ∀ k ∈ [Kind.notice, .signal], k ∈ _) k hk)
  · exact fun k hk => List.mem_append_left _ ((by decide : ∀ k ∈ [Kind.sending, .orphan, .port, .exporter], k ∈ _) k hk)

/-- The NOTE that finds room for its mark (R146). -/
theorem State.noteKey_inserts {s : State} {n : StationId} {k : Take} {x : Session} {f : Nat} (h : s.currentOf n = some (k, x))
    (hf : (s.stations.get n).cursor = some f) (hnew : ∀ e ∈ s.marks, e.session = k.session → e.frame ≠ f)
    (hissued : x.markIssued < 65535) (hroom : s.marks.length < 1984) :
    ((s.noteKey n).stations.get n).status = .noteAdded ∧ ((s.noteKey n).stations.get n).statusMark = some (x.markIssued + 1)
      ∧ { plainMark k.session f .note (.station n) with number := x.markIssued + 1 } ∈ (s.noteKey n).marks := by
  obtain ⟨-, hx⟩ := State.currentOf_head h
  have houtcome : (s.addReportedMark k.channel (plainMark k.session f .note (.station n))).2 = .inserted (x.markIssued + 1) :=
    State.addReportedMark_outcome hx hnew hissued hroom
  rw [State.noteKey_eq h hf, houtcome, State.setStatus, State.modStation_get]
  exact ⟨rfl, rfl, State.addReportedMark_inserts hx hnew hissued hroom⟩

/-- Settles O58: each key is what its rule does to the port that has heard the packet. -/
theorem keysActOnTheCurrentTake : Obligations.KeysActOnTheCurrentTake := by
  unfold Obligations.KeysActOnTheCurrentTake
  intro s n hready st heard status
  have hpacket := s.validPacket_reach n
  have hheard : (s.validPacket n).stations.get n = heard := s.validPacket_get n
  have hsame : heard.sansLink = st.sansLink := st.heard_sansLink
  have hset (i : Instr) (e : StationStatus) (f : State → State) (henable : st.config.enable = true)
      (hi : exec i s = s.onKey n true f) (hf : f (s.validPacket n) = (s.validPacket n).setStatus n e none) : status i e := by
    refine ⟨_, hi.trans (State.onKey_acts hready henable f), ?_⟩
    dsimp only
    rw [State.finish_offLine, hf]
    exact s.validPacket_setStatus n e none
  refine ⟨fun i press hi hidle => ?_, fun henable => ⟨?_, fun hnone => ?_, fun k x hcurrent => ?_⟩⟩
  · have hexec : ∃ f, exec i s = s.onKey n press f := by
      rcases hi with rfl | rfl | rfl | rfl
      · exact ⟨fun s => s.doneKey n, rfl⟩
      · exact ⟨fun s => s.returnKey n, rfl⟩
      · exact ⟨fun s => s.readyKey n, rfl⟩
      · exact ⟨fun s => s.noteKey n, rfl⟩
    obtain ⟨f, hexec⟩ := hexec
    exact ⟨_, hexec.trans (State.onKey_idle hready hidle f), (State.finish_offLine ..).trans (s.validPacket_offLine n)⟩
  · have hexec : exec (.readyKey n true) s = .next (State.finish s ((s.validPacket n).readyKey n)) :=
      State.onKey_acts hready henable fun s => s.readyKey n
    have haccepting : ((s.validPacket n).stations.get n).accepting = st.accepting := by
      rw [hheard]
      exact (congrArg Station.accepting hsame :)
    have hpass := ((s.validPacket n).acceptingTurned n).passIfWanting_allotted n
    refine ⟨_, hexec, ?_, fun hears => State.finish_told s ?_, fun hwas => ?_⟩
    · refine (congrArg Station.accepting (State.finish_station s ((s.validPacket n).readyKey n) n) :).trans ?_
      refine (congrArg Station.accepting (hpass.ports n) :).trans ?_
      rw [State.acceptingTurned_get]
      exact congrArg not haccepting
    · exact (State.passIfWanting_reach _ n).told (by decide) (State.acceptingTurned_told hears)
    · exact (State.finish_offLine ..).trans (State.validPacket_stopsAccepting hwas)
  · have hnone' : (s.validPacket n).currentOf n = none := (s.validPacket_currentOf n).trans hnone
    obtain ⟨hdone, hreturn, hnote⟩ := State.keys_noTake hnone'
    exact ⟨hset _ _ (fun s => s.doneKey n) henable rfl hdone, hset _ _ (fun s => s.returnKey n) henable rfl hreturn,
      hset _ _ (fun s => s.noteKey n) henable rfl hnote⟩
  · have hcurrent' : (s.validPacket n).currentOf n = some (k, x) := (s.validPacket_currentOf n).trans hcurrent
    have hinv' (hinv : s.DispatchInv) : (s.validPacket n).DispatchInv := (hpacket.sound (by decide)).2 hinv
    have hlist : (s.stations.get n).takes = ((s.validPacket n).stations.get n).takes := by
      rw [hheard]
      exact (congrArg Station.takes hsame :).symm
    have hqueue : s.queue = (s.validPacket n).queue := (hpacket.queue (by decide)).symm
    have hclass (q : TakeRef) : (s.validPacket n).classOf q = s.classOf q := by
      unfold State.classOf
      rw [State.take?_congr (hpacket.takes (by decide))]
    intro left
    have hleft (v : State) (h : (s.validPacket n).GaveUp n k.ref v) : left (State.finish s v) :=
      h.congr hlist hqueue (congrArg Station.takes (State.finish_station s v n) :)
    have hstatus (v : State) : ((State.finish s v).stations.get n).status = (v.stations.get n).status :=
      (congrArg Station.status (State.finish_station s v n) :)
    refine ⟨fun hd => hset _ _ (fun s => s.doneKey n) henable rfl ?_, fun hd hc => hset _ _ (fun s => s.doneKey n) henable rfl ?_,
      fun hinv hd hc => ?_, fun hinv => ?_, fun f hf => ?_⟩
    · exact (State.doneKey_eq hcurrent').trans (if_pos hd)
    · exact (State.doneKey_eq hcurrent').trans ((if_neg hd).trans (if_pos hc))
    · have hdone : (s.validPacket n).doneKey n = (s.validPacket n).typeTake n k :=
        (State.doneKey_eq hcurrent').trans ((if_neg hd).trans (if_neg (by rw [hc]; nofun)))
      obtain ⟨htyped, htake, hgave, hsub⟩ := State.typeTake_spec (hinv' hinv) hcurrent'
      have hreach := State.heard_reach (s := s) ((s.validPacket n).typeTake_reach n k)
      have htqueue : (State.finish s ((s.validPacket n).typeTake n k)).queue = ((s.validPacket n).typeTake n k).queue :=
        (State.finish_reach ..).queue (by decide)
      refine ⟨State.finish s ((s.validPacket n).typeTake n k), ?_, (hstatus _).trans htyped, hreach.channels (by decide),
        hreach.sessions (by decide), hreach.marks (by decide), (State.finish_take? ..).trans htake, hleft _ hgave,
        htqueue ▸ hqueue ▸ hsub⟩
      · rw [← hdone]
        exact State.onKey_acts hready henable fun s => s.doneKey n
    · have hreturn : (s.validPacket n).returnKey n = (s.validPacket n).returnTake n k := State.returnKey_eq hcurrent'
      have hreach := State.heard_reach (s := s) ((s.validPacket n).returnTake_reach n k)
      have htqueue : (State.finish s ((s.validPacket n).returnTake n k)).queue = ((s.validPacket n).returnTake n k).queue :=
        (State.finish_reach ..).queue (by decide)
      have hexec : exec (.returnKey n true) s = .next (State.finish s ((s.validPacket n).returnTake n k)) := by
        rw [← hreturn]
        exact State.onKey_acts hready henable fun s => s.returnKey n
      refine ⟨_, hexec, hreach.channels (by decide), hreach.sessions (by decide), hreach.marks (by decide), ?_⟩
      by_cases hfew : k.returns < 2
      · have htaken : (s.validPacket n).returnTake n k = ((s.validPacket n).queuedBack n k).matchingPass :=
          (State.returnTake_eq ..).trans (if_pos (by omega))
        obtain ⟨u, hu, hreturns, hexcluded, hcls, haway, hdispatch, hnow, hgave⟩ := State.queuedBack_spec (hinv' hinv) hcurrent'
        obtain ⟨-, -, -, a, b, hsplit, hplaced, hahead, hbehind⟩ := State.queuedBack_parts (hinv' hinv) hcurrent'
        have hafter : ((s.validPacket n).returnTake n k).DispatchInv :=
          (State.returnTake_sound fun hs => hs.of_current hcurrent').2 (hinv' hinv)
        rw [htaken] at hafter htqueue ⊢
        have hmem := hafter.mem_queue_iff hu
        refine ⟨hleft _ hgave, u, (State.finish_take? ..).trans hu, hreturns, hexcluded, hcls, fun _ => ⟨(hstatus _).trans hnow,
          haway, ?_, a, b, hqueue.trans hsplit, ?_, fun hothers haccepting => ?_, fun q hq => hclass q ▸ hahead q hq,
          fun q hq => hclass q ▸ hbehind q hq⟩, fun hmany => absurd hfew (Nat.not_lt.mpr hmany)⟩
        · rw [htqueue, hmem]
          rcases hdispatch with hd | hd
          · exact .inl ⟨hd, hd⟩
          · exact .inr ⟨hd, by rw [hd]; nofun⟩
        · rw [htqueue, ← hplaced]
          exact (State.matchingPass_matched _).queue
        · have hsated : ((s.validPacket n).queuedBack n k).sated := by
            refine State.queuedBack_sated (fun o ho => ?_) ?_ k
            · rw [(s.validPacket_elsewhere n).same o ho]
              exact hothers o ho
            · rw [hheard]
              exact (congrArg Station.accepting hsame :).trans haccepting
          rw [htqueue, State.matchingPass_sated hsated, hplaced]
      · have htaken : (s.validPacket n).returnTake n k = ((s.validPacket n).heldBack n k).passIfWanting n :=
          (State.returnTake_eq ..).trans (if_neg (by omega))
        obtain ⟨htake, hnow, hgave, hsub⟩ := State.heldBack_spec (hinv' hinv) hcurrent'
        rw [htaken] at htqueue ⊢
        refine ⟨hleft _ hgave, _, (State.finish_take? ..).trans htake, rfl, rfl, rfl, fun h => absurd h hfew,
          fun _ => ⟨(hstatus _).trans hnow, rfl, rfl, ?_⟩⟩
        rw [htqueue, hqueue]
        exact hsub
    · have hcursor : ((s.validPacket n).stations.get n).cursor = some f := by
        rw [hheard]
        exact (congrArg Station.cursor hsame :).trans hf
      have hmarks : (s.validPacket n).marks = s.marks := hpacket.marks (by decide)
      have hreach := State.heard_reach (s := s) ((s.validPacket n).noteKey_reach n)
      have hexec : exec (.noteKey n true) s = .next (State.finish s ((s.validPacket n).noteKey n)) :=
        State.onKey_acts hready henable fun s => s.noteKey n
      refine ⟨_, hexec, ?_, hreach.channels (by decide), hreach.takes (by decide), hreach.ranges (by decide),
        hreach.store (by decide), fun hnew hissued hroom => ?_⟩
      · rw [hstatus, State.noteKey_eq hcurrent' hcursor, State.setStatus, State.modStation_get]
        exact noteStatus_cases _
      · obtain ⟨hadded, hmark, hmem⟩ := State.noteKey_inserts hcurrent' hcursor (hmarks ▸ hnew) hissued (hmarks ▸ hroom)
        refine ⟨(hstatus _).trans hadded, ?_, { plainMark k.session f .note (.station n) with number := x.markIssued + 1 }, ?_,
          rfl, rfl, rfl, rfl, rfl, rfl⟩
        · exact (congrArg Station.statusMark (State.finish_station s ((s.validPacket n).noteKey n) n) :).trans hmark
        · rw [(State.finish_reach ..).marks (by decide)]
          exact hmem

end Sys2Proof.Machine
end
